-- ==== Sys2Proof/Word.lean ====
section
/-! DEFINITION. The word type of the SC-96's links: a byte. Every link of the part is byte-serial
(00_scope.md), and R193 lays out every field as one or more bytes. Counts, numbers and times are
natural numbers in the state; only what travels on a link is a bit vector. -/

namespace Sys2Proof

/-- One byte on the store link, a terminal line or the typesetter line. -/
abbrev Byte := BitVec 8

/-- The byte that carries a number of 0 to 255 (R193). -/
def byte (n : Nat) : Byte := BitVec.ofNat 8 n

end Sys2Proof
end

