-- ==== Sys2Proof/Config.lean ====
section
/-! DEFINITION. The sizes the manual fixes for the part, and the free values: what the manual leaves
open, as constants with no body, so that a claim about them holds for every value. -/

namespace Sys2Proof.Config

/-- Entries of the notice queue (R179). -/
@[simp] def noticeEntries : Nat := 64

/-- Free entries a report needs (R180). -/
@[simp] def reportReserve : Nat := 8

/-- Story numbers 0 to 1023 (R1). -/
@[simp] def storyCount : Nat := 1024

/-- Page records 0 to 127 (R136). -/
@[simp] def pageRecordCount : Nat := 128

/-- Entries of the typesetter queue (R155). -/
@[simp] def typesetEntries : Nat := 64

/-- Blocks of the frame store (R103). -/
@[simp] def frameBlocks : Nat := 256

/-- Blocks of the galley buffer (R162). -/
@[simp] def galleyBlocks : Nat := 32

/-- Bytes of one block of the frame store, of the galley buffer, and of a full galley block
(R103, R162). -/
@[simp] def blockBytes : Nat := 64

/-- The largest body of a store link frame (R174). -/
@[simp] def frameLimit : Nat := 1040

/-- The largest body of a poll answer (R199). -/
@[simp] def answerLimit : Nat := 80

/-- The largest offset of a page's bytes (R158). -/
@[simp] def offsetLimit : Nat := 16777215

/-- DESIGN CHOICE (log 10): a FREE VALUE. The identifier in the REFUSED notice of an order that is refused
LENGTH, where the order's rule names an identifier and the body is too short to hold it (R177, R198). -/
opaque lengthIdentifier (kind : Byte) (body : List Byte) : Option Nat

/-- DESIGN CHOICE (log 11): a FREE VALUE. Which of the twelve listed request kinds, counted from 0, the
REFUSED attention shows for a REQUEST answer whose body begins with no listed kind (R88, R120, R193). -/
opaque unlistedRequestKind (body : List Byte) : Fin 12

/-- DESIGN CHOICE (log 29): a FREE VALUE. The byte in which a TERMINAL record sends a frame count above 255,
which the byte cannot hold (R101, R203). -/
opaque frameCountByte (count : Nat) : Byte

end Sys2Proof.Config
end

