-- ==== Sys2Proof/Syntax.lean ====
section
/-! DEFINITION. The commands of the SC-96: one constructor per row of spec/opcode_table.json. An order's
operand is the body of its store link frame (R197); a poll answer's operands are the line, the
address byte as a number, and what follows the kind (R199, R200). -/

namespace Sys2Proof

/-- The four terminal lines, A to D (R78). -/
inductive LineId where
  | a | b | c | d
  deriving DecidableEq, Repr

/-- The commands of the part (spec/opcode_table.json, row by row). -/
inductive Instr where
  /-- IDLE order (R187). -/
  | idle (body : List Byte)
  /-- RUN order (R186). -/
  | run (body : List Byte)
  /-- RESTART order (R190). -/
  | restart (body : List Byte)
  /-- ACK RESTART order (R191). -/
  | ackRestart (body : List Byte)
  /-- LOAD DESK order (R22). -/
  | loadDesk (body : List Byte)
  /-- LOAD ROUTE order (R27). -/
  | loadRoute (body : List Byte)
  /-- LOAD DIVERSION order (R28). -/
  | loadDiversion (body : List Byte)
  /-- LOAD TERMINAL order (R81). -/
  | loadTerminal (body : List Byte)
  /-- SET PRESSURE order (R58). -/
  | setPressure (body : List Byte)
  /-- RESEED order (R72). -/
  | reseed (body : List Byte)
  /-- SET TIMING order (R184). -/
  | setTiming (body : List Byte)
  /-- SET REPORTING order (R181). -/
  | setReporting (body : List Byte)
  /-- READ order of any table but STATUS (R182). -/
  | read (body : List Byte)
  /-- READ order of the STATUS table (R183); the operand is the body after the table byte. -/
  | readStatus (rest : List Byte)
  /-- ANNOUNCE order (R7). -/
  | announce (body : List Byte)
  /-- REVISE order (R8). -/
  | revise (body : List Byte)
  /-- PURGE order (R11). -/
  | purge (body : List Byte)
  /-- MOVE order (R9). -/
  | move (body : List Byte)
  /-- PULL order (R10). -/
  | pull (body : List Byte)
  /-- SCREEN order with the continuation flag no (R108). -/
  | screen (body : List Byte)
  /-- SCREEN order with the continuation flag yes (R107). -/
  | screenContinuation (body : List Byte)
  /-- PLAN EDITION order (R127). -/
  | planEdition (body : List Byte)
  /-- START EDITION order (R129). -/
  | startEdition (body : List Byte)
  /-- CLOSE EDITION order (R132). -/
  | closeEdition (body : List Byte)
  /-- SEAL EDITION order (R131). -/
  | sealEdition (body : List Byte)
  /-- MAKE PAGE order (R137). -/
  | makePage (body : List Byte)
  /-- PLACE order (R139). -/
  | place (body : List Byte)
  /-- LIFT order (R140). -/
  | lift (body : List Byte)
  /-- RELEASE order (R141). -/
  | release (body : List Byte)
  /-- REPLATE order (R147). -/
  | replate (body : List Byte)
  /-- DROP PAGE order (R138). -/
  | dropPage (body : List Byte)
  /-- TYPESET MODE order (R157). -/
  | typesetMode (body : List Byte)
  /-- ABORT SEND order (R168). -/
  | abortSend (body : List Byte)
  /-- PAGE DATA order (R160). -/
  | pageData (body : List Byte)
  /-- A valid frame whose kind is no order code (R177). -/
  | unknownOrder (kind : Byte) (body : List Byte)
  /-- A frame whose length exceeds 1,040 (R176). -/
  | frameLengthOver (kind : Byte)
  /-- A frame completed with a wrong check (R176). -/
  | frameBadCheck (kind : Byte)
  /-- Arrival of supply (R190). -/
  | powerOn
  /-- Release of the restart pin (R190). -/
  | rstinRelease
  /-- The taking of an ordered full restart (R190, R191). -/
  | fullRestart
  /-- The taking of an ordered warm restart (R190, R191). -/
  | warmRestart
  /-- The last byte of a notice frame has been sent (R179). -/
  | noticeFrameEnd
  /-- An owed PAGE CALL is offered again (R159). -/
  | pageCallOwedOffered
  /-- The store-silence timer expires (R188). -/
  | storeSilenceExpiry
  /-- A poll frame has been sent in full (R84). -/
  | pollFrameSent (line : LineId)
  /-- A NIL poll answer, or one whose kind is none of NIL, KEYS and REQUEST (R88, R199). -/
  | nil (line : LineId) (drop : Nat) (kind : Byte) (body : List Byte)
  /-- A KEYS poll answer (R88). -/
  | keys (line : LineId) (drop : Nat) (bytes : List Byte)
  /-- A GET request (R32); `args` are the bytes after the request kind, here and below (R200). -/
  | get (line : LineId) (drop : Nat) (args : List Byte)
  /-- A GET NEXT request (R33). -/
  | getNext (line : LineId) (drop : Nat) (args : List Byte)
  /-- A SEND request (R35). -/
  | send (line : LineId) (drop : Nat) (args : List Byte)
  /-- A RETURN request (R41). -/
  | returnStory (line : LineId) (drop : Nat) (args : List Byte)
  /-- A SPIKE request (R42). -/
  | spike (line : LineId) (drop : Nat) (args : List Byte)
  /-- A PULL request (R43). -/
  | pullRequest (line : LineId) (drop : Nat) (args : List Byte)
  /-- A VIEW request (R114). -/
  | view (line : LineId) (drop : Nat) (args : List Byte)
  /-- A BACK request (R115). -/
  | back (line : LineId) (drop : Nat) (args : List Byte)
  /-- A LIST request (R116). -/
  | list (line : LineId) (drop : Nat) (args : List Byte)
  /-- A WATCH request (R117). -/
  | watch (line : LineId) (drop : Nat) (args : List Byte)
  /-- An UNWATCH request (R118). -/
  | unwatch (line : LineId) (drop : Nat) (args : List Byte)
  /-- A frame with a bad check or an oversize length during a poll exchange (R85). -/
  | badAnswerFrame (line : LineId)
  /-- The poll window of a line expires (R86). -/
  | pollWindowExpiry (line : LineId)
  /-- The idle wait of a line ends (R85). -/
  | idleWaitExpiry (line : LineId)
  /-- The last byte of an output frame of a line has been sent (R96). -/
  | outputFrameEnd (line : LineId)
  /-- The pending reminder of a story expires (R50). -/
  | nudgeExpiry (story : Nat)
  /-- The pressure sample timer expires (R60). -/
  | samplePeriod
  /-- TSRDY becomes asserted (R163). -/
  | tsrdyAsserted
  /-- The last byte of a block on the typesetter line has been sent (R163); the operand is the level of
  TSRDY at that moment, asserted or not (log 4). -/
  | galleyBlockEnd (tsrdy : Bool)
  /-- The data timer expires (R161). -/
  | dataTimerExpiry
  /-- The wait timer expires (R166). -/
  | waitTimerExpiry
  /-- A REQUEST answer whose request kind is no known request, or whose arguments do not fit its kind
  (R88); the operand is the whole body, request kind first. -/
  | unknownRequest (line : LineId) (drop : Nat) (body : List Byte)
  deriving DecidableEq, Repr

end Sys2Proof
end

