-- ==== Sys2Proof/Machine/State.lean ====
section
/-! DEFINITION. The state of the SC-96: every record, table, queue, buffer, timer, mark and pin the
manual gives the part, as plain data, and its value after a cold reset. The ranges in the docstrings
are the manual's; INVENTORY.md lists every field with its rule and its reset value. -/

namespace Sys2Proof.Machine

/-- A table by number: (number, value) pairs with rising numbers; a number that is not listed has its
kind's reset value. -/
abbrev Table (α : Type) := List (Nat × α)

/-! ### Names -/

/-- LOADING or RUNNING (R185). -/
inductive PartState where
  | loading | running
  deriving DecidableEq, Repr

/-- The restart causes (R190). -/
inductive RestartCause where
  | power | pin | fullOrder | warmOrder
  deriving DecidableEq, Repr

/-- The kinds of an ordered restart (R190). -/
inductive RestartKind where
  | full | warm
  deriving DecidableEq, Repr

/-- The four states of a story (R1). -/
inductive StoryState where
  | filed | held | set | spiked
  deriving DecidableEq, Repr

/-- The roles of a terminal (R31). -/
inductive Role where
  | writer | editor | chief
  deriving DecidableEq, Repr

/-- The liveness of a terminal (R80). -/
inductive Liveness where
  | absent | waking | live | faint | dark
  deriving DecidableEq, Repr

/-- The surge states of a desk (R56). -/
inductive SurgeState where
  | calm | rising | surge | easing
  deriving DecidableEq, Repr

/-- The states of an edition (R125). -/
inductive EditionState where
  | empty | planned | running | closed | sealed
  deriving DecidableEq, Repr

/-- The states of a page in use (R136). -/
inductive PageState where
  | opened | armed | ready | queued | sending | sent | stale
  deriving DecidableEq, Repr

/-- The codes of a report slot (R149). -/
inductive SlotCode where
  | empty | opened | armed | ready | queued | sent | stale
  deriving DecidableEq, Repr

/-- The two tiers of the typesetter queue (R155). -/
inductive Tier where
  | first | replate
  deriving DecidableEq, Repr

/-- The output modes of the typesetter unit (R157). -/
inductive OutputMode where
  | hold | run | step
  deriving DecidableEq, Repr

/-- The forms of a screen (R105). -/
inductive Form where
  | refresh | delta
  deriving DecidableEq, Repr

/-- The conditions of a diversion (R28). -/
inductive Condition where
  | always | onSurge
  deriving DecidableEq, Repr

/-- The target of a route entry (R27). -/
inductive RouteTarget where
  | desk (d : Nat) | set | none
  deriving DecidableEq, Repr

/-- The refusal codes (R196). -/
inductive Code where
  | notReady | storeLost | noStory | held | notHolder | limit | role | state | noRoute
  | sameDesk | full | placed | pageBusy | late | edition | busy | range
  | occupied | duplicate | noTerminal | dark | offset | unknown | length | check | framing
  deriving DecidableEq, Repr

/-- The kinds of change to a story (R13, R193). PURGED and GONE are one code. -/
inductive Change where
  | announced | held | released | moved | set | spiked | revised | placed | lifted | gone | overdue
  deriving DecidableEq, Repr

/-- The cause carried by a COPY EVENT (R16). -/
inductive CopyCause where
  | order | terminal (t : Nat) | darkness | nudge
  deriving DecidableEq, Repr

/-- The cause carried by a PAGE EVENT (R150). -/
inductive PageCause where
  | order | gate | story | join | withdrawn | typesetter | seal
  deriving DecidableEq, Repr

/-- The cause carried by a PRESSURE EVENT (R70). -/
inductive PressureCause where
  | sample | reseed | closed
  deriving DecidableEq, Repr

/-- The reasons of a REFRESH WANTED (R111). -/
inductive RefreshReason where
  | live | degrade
  deriving DecidableEq, Repr

/-- The kinds of an EDITION REPORT (R150). -/
inductive EditionReportKind where
  | complete | sealed
  deriving DecidableEq, Repr

/-- The kinds of a TYPESETTER EVENT (R170). -/
inductive TypesetterEventKind where
  | stall | stallCleared | abandoned
  deriving DecidableEq, Repr

/-- The causes for which a send is abandoned (R167). -/
inductive AbandonCause where
  | noData | storeLost | abort | restart
  deriving DecidableEq, Repr

/-- The request kinds (R193). -/
inductive RequestKind where
  | get | getNext | view | back | send | returnStory | spike | pull | list | watch | unwatch | keys
  deriving DecidableEq, Repr

/-- The report groups (R180, R181). -/
inductive Group where
  | copy | terminal | pressure | page | typesetter
  deriving DecidableEq, Repr

/-! ### Records -/

/-- A live story's record, less its number, which is its key (R1). -/
structure Story where
  slug : List Byte
  cls : Nat
  desk : Nat
  state : StoryState
  flash : Bool
  holder : Option Nat
  revision : Nat
  page : Option Nat
  nudgeCount : Nat
  nudgeDue : Option Nat
  overdue : Bool
  deriving DecidableEq, Repr

/-- The ten pressure parameters of a desk (R57). -/
structure PressureParams where
  quietBeta : Nat
  deadlineBeta : Nat
  fastBeta : Nat
  fastBand : Nat
  floor : Nat
  proportional : Nat
  hysteresis : Nat
  enterDebounce : Nat
  exitDebounce : Nat
  hold : Bool
  deriving DecidableEq, Repr

/-- One entry of the desk table, with the desk's pressure parameters (R21, R57). -/
structure Desk where
  inUse : Bool
  name : List Byte
  capacity : Nat
  duty : Option Nat
  t : Nat
  m : Nat
  r : Nat
  params : PressureParams
  deriving DecidableEq, Repr

/-- A basket: its flash tier, then its ordinary tier, the earliest filed first (R24). -/
structure Basket where
  flash : List Nat
  ordinary : List Nat
  deriving DecidableEq, Repr

/-- One entry of the diversion table (R28); `cls = none` is ANY. -/
structure Diversion where
  inUse : Bool
  fromDesk : Nat
  cls : Option Nat
  condition : Condition
  toDesk : Nat
  deriving DecidableEq, Repr

/-- The pressure monitor's state of one desk (R56). -/
structure Pressure where
  load : Nat
  baseline : Nat
  surge : SurgeState
  count : Nat
  reseedPending : Bool
  deriving DecidableEq, Repr

/-- One entry of a listing (R116). -/
structure ListEntry where
  story : Nat
  slug : List Byte
  flash : Bool
  held : Bool
  overdue : Bool
  revision : Nat
  deriving DecidableEq, Repr

/-- A listing: its header and its entries (R116). -/
structure Listing where
  desk : Nat
  start : Nat
  basketCount : Nat
  entries : List ListEntry
  deriving DecidableEq, Repr

/-- A frame of the frame store (R104, R105). -/
inductive OutFrame where
  | screen (form : Form) (text : List Byte) (isOpen : Bool)
  | listing (l : Listing)
  deriving DecidableEq, Repr

/-- What an attention carries, by its kind (R120, R121). -/
inductive AttentionBody where
  | refused (request : RequestKind) (code : Code) (story desk : Option Nat)
  | done (request : RequestKind) (story desk revision : Nat) (setMark : Bool)
  | nudge (story desk revision count : Nat)
  | watch (change : Change) (story desk revision : Nat)
  | storeLost
  | storeBack
  | reconnected
  deriving DecidableEq, Repr

/-- An attention with its earlier lost mark (R120). -/
structure Attention where
  body : AttentionBody
  earlierLost : Bool
  deriving DecidableEq, Repr

/-- A terminal record (R80). `refreshOwed` is the mark with the reason it was set for (R111). The view
stack has its top entry first. -/
structure Terminal where
  configured : Bool
  desk : Nat
  role : Role
  liveness : Liveness
  missCount : Nat
  wakeCount : Nat
  wasDark : Bool
  refreshOwed : Option RefreshReason
  holds : List Nat
  views : List Nat
  watches : List Nat
  attentions : List Attention
  outbound : List OutFrame
  deriving DecidableEq, Repr

/-- A frame going down a terminal line (R96). -/
inductive LineFrame where
  | attention (a : Attention)
  | frame (f : OutFrame)
  deriving DecidableEq, Repr

/-- What a line controller has received of a frame: it hunts for SYN, or waits for the kind, the address,
the length, the body or the check, with what it has kept (R199). -/
inductive LineFramer where
  | hunt
  | kind
  | address (kind : Byte)
  | length1 (kind address : Byte)
  | length2 (kind address high : Byte)
  | body (kind address : Byte) (length : Nat) (got : List Byte)
  | check1 (kind address : Byte) (body : List Byte)
  | check2 (kind address : Byte) (body : List Byte) (high : Byte)
  deriving DecidableEq, Repr

/-- What a line controller is doing (R78): a poll exchange whose poll frame is being sent, a poll
exchange whose window runs, with what has been received of a frame, the sending of an output frame, or
an idle wait. Times are expiries. -/
inductive Activity where
  | sendingPoll (drop : Nat)
  | awaiting (drop : Nat) (expiry : Nat) (framer : LineFramer)
  | output (terminal : Nat) (what : LineFrame)
  | idleWait (expiry : Nat)
  deriving DecidableEq, Repr

/-- A line controller with the line's four settings (R79, R83, R93, R95). -/
structure Line where
  window : Nat
  allowance : Nat
  darkLimit : Nat
  wakeNeeded : Nat
  position : Option Nat
  cycle : Nat
  outputCount : Nat
  lastOutput : Nat
  activity : Activity
  deriving DecidableEq, Repr

/-- The four line controllers (R78). -/
structure Lines where
  a : Line
  b : Line
  c : Line
  d : Line
  deriving DecidableEq, Repr

/-- One slot of a report table (R149). -/
structure Slot where
  code : SlotCode
  replates : Nat
  deriving DecidableEq, Repr

/-- An edition record (R125). -/
structure Edition where
  state : EditionState
  planned : Nat
  size : Nat
  allowance : Nat
  counter : Nat
  sealPending : Bool
  completeReported : Bool
  slots : List Slot
  deriving DecidableEq, Repr

/-- A page record in use (R136). -/
structure Page where
  edition : Nat
  number : Nat
  placement : List Nat
  state : PageState
  tier : Tier
  broken : Bool
  stalePending : Bool
  replates : Nat
  deriving DecidableEq, Repr

/-- The call state of a send (R158). -/
inductive CallState where
  | none | owed | outstanding
  deriving DecidableEq, Repr

/-- The send record (R158), with its data timer (R161), the galley buffer's bytes (R162) and the count
of blocks begun that R170 reports. -/
structure Send where
  page : Nat
  expected : Nat
  call : CallState
  finalAccepted : Bool
  buffer : List Byte
  nextSequence : Nat
  endBlockSent : Bool
  dataTimer : Option Nat
  blocksBegun : Nat
  deriving DecidableEq, Repr

/-- The page record (or none) and sequence of a CANCEL block (R163). -/
structure Cancel where
  page : Option Nat
  sequence : Nat
  deriving DecidableEq, Repr

/-- A block on the typesetter line (R163). `ends` says that the block is the end block of the present
send, whose end completes it (R165). -/
inductive Block where
  | galley (page sequence : Nat) (data : List Byte) (ends : Bool)
  | cancel (c : Cancel)
  deriving DecidableEq, Repr

/-- The typesetter unit (R155, R157, R158, R163, R166). `waiting` says that a block is waiting for
TSRDY; the wait timer is stopped while it is not, and after its expiry. -/
structure Typesetter where
  mode : OutputMode
  replateTier : List Nat
  firstTier : List Nat
  send : Option Send
  cancel : Option Cancel
  stalled : Bool
  waiting : Bool
  waitTimer : Option Nat
  block : Option Block
  deriving DecidableEq, Repr

/-- The TSRDY input as the part sees it (R163, R202): `asserted` is its level as the part was last told of it,
by its assertion or at the end of a block. It can fall between, so `falls` holds what the part finds when
it judges an asserted TSRDY at the beginning of a block that follows no other at once: whether it has
been deasserted since. The next such judgement takes the first entry; past the end there is no fall
(log 4). -/
structure Ready where
  asserted : Bool
  falls : List Bool
  deriving DecidableEq, Repr

/-- The report groups' enables (R181). -/
structure Reporting where
  copy : Bool
  terminal : Bool
  pressure : Bool
  page : Bool
  typesetter : Bool
  deriving DecidableEq, Repr

/-- The part-wide time and pacing values (R184); a line's four stand in its `Line`. -/
structure Timing where
  samplePeriod : Nat
  lowWater : Nat
  stallTimeout : Nat
  silenceTimeout : Nat
  deriving DecidableEq, Repr

/-- The receive framer: HUNT, KIND, LENGTH (first and second byte), BODY and CHECK (first and second
byte), with what it has kept of the frame (R174). -/
inductive Framer where
  | hunt
  | kind
  | length1 (kind : Byte)
  | length2 (kind high : Byte)
  | body (kind : Byte) (length : Nat) (got : List Byte)
  | check1 (kind : Byte) (body : List Byte)
  | check2 (kind : Byte) (body : List Byte) (high : Byte)
  deriving DecidableEq, Repr

/-! ### Notices -/

/-- One entry of a PRESSURE REPORT (R71). -/
structure PressureEntry where
  desk : Nat
  load : Nat
  rounded : Nat
  surge : SurgeState
  deriving DecidableEq, Repr

/-- What a STATUS notice carries, in order (R183). -/
structure Status where
  part : PartState
  storeLost : Bool
  cause : RestartCause
  unacknowledged : Bool
  reportsDropped : Bool
  noticeFree : Nat
  blocksFree : Nat
  directoryCount : Nat
  queueDepth : Nat
  mode : OutputMode
  sending : Option Nat
  stalled : Bool
  editions : List EditionState
  deriving DecidableEq, Repr

/-- A notice, with what it carries (R198). `records` holds the bytes of each record (R203). -/
inductive Notice where
  | refused (kind : Byte) (code : Code) (identifier : Option Nat)
  | restarted (cause : RestartCause)
  | status (st : Status)
  | records (table : Byte) (desk : Option Nat) (start : Nat) (recs : List (List Byte))
  | keys (terminal : Nat) (bytes : List Byte)
  | textWanted (terminal story revision : Nat) (cause : RequestKind)
  | refreshWanted (terminal : Nat) (reason : RefreshReason)
  | pageCall (record edition number offset : Nat)
  | copyEvent (change : Change) (story : Nat) (state : StoryState) (desk revision : Nat)
      (cause : CopyCause) (slug : List Byte) (count : Option Nat)
  | terminalEvent (terminal : Nat) (wentLive : Bool) (desk : Nat) (role : Role) (released : Nat)
  | pressureEvent (desk : Nat) (on : Bool) (cause : PressureCause) (load rounded : Nat)
  | pressureReport (entries : List PressureEntry)
  | pageEvent (record edition number : Nat) (state : Option PageState) (tier : Tier)
      (broken stalePending : Bool) (replates : Nat) (cause : PageCause)
  | editionReport (edition : Nat) (kind : EditionReportKind) (planned size allowance counter : Nat)
      (slots : List Slot)
  | typesetterEvent (kind : TypesetterEventKind) (page : Option (Nat × Nat × Nat))
      (cause : Option AbandonCause) (accepted begun : Nat)
  deriving DecidableEq, Repr

/-! ### The state -/

/-- The state of the part. -/
structure State where
  /-- The commands that wait, first in first out. -/
  pending : List Instr
  /-- The present time in milliseconds (log 1). -/
  now : Nat
  /-- The bytes on SKRX the framer has not taken (log 2). -/
  skrx : List Byte
  /-- The bytes on the terminal lines their controllers have not taken, in the order they arrive (log 2). -/
  lnrx : List (LineId × Byte)
  /-- The TSRDY input (log 4). -/
  tsrdy : Ready
  framer : Framer
  part : PartState
  storeLost : Bool
  cause : RestartCause
  unacknowledged : Bool
  reportsDropped : Bool
  queue : List Notice
  sending : Option Notice
  restartPending : Option RestartKind
  silenceTimer : Option Nat
  reporting : Reporting
  streamPeriod : Nat
  countdown : Option Nat
  timing : Timing
  stories : Table (Option Story)
  desks : Table Desk
  baskets : Table Basket
  routes : Table (List RouteTarget)
  diversions : Table Diversion
  pressures : Table Pressure
  sampleTimer : Option Nat
  lines : Lines
  terminals : Table Terminal
  freeBlocks : Nat
  editions : Table Edition
  pages : Table (Option Page)
  typesetter : Typesetter
  deriving DecidableEq, Repr

/-- Nothing in the manual stops the part: a command it turns away is refused with a code, which is an
effect on the state. So there is no fault, and the type has no constructor. -/
inductive Fault where
  deriving DecidableEq, Repr

/-- Why a command has no meaning. -/
inductive Refusal where
  /-- The dispatch arm of a command that has no meaning yet; safe. No arm answers it. -/
  | notModelled (mnemonic : String)
  deriving DecidableEq, Repr

/-! ### Reset values -/

/-- The default pressure parameters (R57). -/
def PressureParams.initial : PressureParams :=
  { quietBeta := 5, deadlineBeta := 3, fastBeta := 1, fastBand := 20, floor := 2,
    proportional := 64, hysteresis := 128, enterDebounce := 2, exitDebounce := 3, hold := true }

/-- A desk's entry after a cold reset (R21, R57). -/
def Desk.initial : Desk :=
  { inUse := false, name := [], capacity := 32, duty := none, t := 240, m := 2, r := 3,
    params := PressureParams.initial }

/-- An empty basket (R26). -/
def Basket.initial : Basket := { flash := [], ordinary := [] }

/-- A route row after a cold reset: 16 entries NONE (R27). -/
def routeRowInitial : List RouteTarget := List.replicate 16 RouteTarget.none

/-- A diversion entry after a cold reset (R28). -/
def Diversion.initial : Diversion :=
  { inUse := false, fromDesk := 0, cls := none, condition := .always, toDesk := 0 }

/-- A desk's pressure state after a cold reset (R56). -/
def Pressure.initial : Pressure :=
  { load := 0, baseline := 0, surge := .calm, count := 0, reseedPending := false }

/-- A terminal record after a cold reset, or unconfigured (R80, R82). -/
def Terminal.initial : Terminal :=
  { configured := false, desk := 0, role := .writer, liveness := .absent, missCount := 0,
    wakeCount := 0, wasDark := false, refreshOwed := none, holds := [], views := [],
    watches := [], attentions := [], outbound := [] }

/-- A line controller after a cold reset: the default settings (R79), its cycle begun afresh (R98), and
the idle wait of its new first cycle (R100, log 8). -/
def Line.initial : Line :=
  { window := 20, allowance := 2, darkLimit := 3, wakeNeeded := 2, position := none, cycle := 0,
    outputCount := 0, lastOutput := 23, activity := .idleWait 20 }

/-- An edition that is EMPTY (R125). -/
def Edition.initial : Edition :=
  { state := .empty, planned := 0, size := 0, allowance := 0, counter := 0, sealPending := false,
    completeReported := false, slots := [] }

/-- The timing defaults (R184). -/
def Timing.initial : Timing :=
  { samplePeriod := 5, lowWater := 32, stallTimeout := 30, silenceTimeout := 5 }

/-- The reporting defaults: every group enabled (R181). -/
def Reporting.initial : Reporting :=
  { copy := true, terminal := true, pressure := true, page := true, typesetter := true }

/-- The typesetter unit after a cold reset: HOLD, an empty queue, one CANCEL block with page none and
sequence 0 pending (R157, R171), which waits from the start while TSRDY is deasserted (R166). -/
def Typesetter.initial : Typesetter :=
  { mode := .hold, replateTier := [], firstTier := [], send := none,
    cancel := some { page := none, sequence := 0 }, stalled := false, waiting := true,
    waitTimer := some 30000, block := none }

/-- The machine right after a cold reset with cause POWER, at time 0 (R191 and the restart rule of each
block: R19, R26, R74, R98, R122, R152, R171). The RESTARTED notice has joined the emptied queue
and, the transmitter being free, is being sent (R179, R191). -/
def State.reset : State :=
  { pending := [], now := 0, skrx := [], lnrx := [], tsrdy := { asserted := false, falls := [] },
    framer := .hunt, part := .loading, storeLost := false, cause := .power, unacknowledged := true, reportsDropped := false,
    queue := [], sending := some (.restarted .power), restartPending := none,
    silenceTimer := some 5000, reporting := Reporting.initial, streamPeriod := 0,
    countdown := none, timing := Timing.initial, stories := [], desks := [], baskets := [],
    routes := [], diversions := [], pressures := [], sampleTimer := none,
    lines := { a := Line.initial, b := Line.initial, c := Line.initial, d := Line.initial },
    terminals := [], freeBlocks := 256, editions := [], pages := [],
    typesetter := Typesetter.initial }

end Sys2Proof.Machine
end

