-- ==== Sys2Proof/Machine/Ops.lean ====
section
/-! DEFINITION. The named operations every block's meaning is written over: tables, the records of each
block, the notice queue, the attention queues, the frame store and the baskets. -/

namespace Sys2Proof.Machine

/-! ### Tables -/

/-- The value of number `k`; `d` is the reset value of the table's kind. -/
def Table.get {α : Type} (d : α) : Table α → Nat → α
  | [], _ => d
  | (j, v) :: rest, k => if k = j then v else Table.get d rest k

/-- The table with number `k` listed as `v`. -/
def Table.insert {α : Type} (k : Nat) (v : α) : Table α → Table α
  | [] => [(k, v)]
  | (j, w) :: rest =>
    if k = j then (k, v) :: rest
    else if k < j then (k, v) :: (j, w) :: rest
    else (j, w) :: Table.insert k v rest

/-- The table with the value of number `k` written. Writing the reset value removes the entry, so that
equal tables are equal data. -/
def Table.put {α : Type} [DecidableEq α] (d : α) (tab : Table α) (k : Nat) (v : α) : Table α :=
  if v = d then tab.filter (fun e => !(e.1 == k)) else Table.insert k v tab

/-- Every number of the list `ks` rewritten by `f`. -/
def Table.update {α : Type} [DecidableEq α] (d : α) (f : α → α) (ks : List Nat) (tab : Table α) :
    Table α :=
  ks.foldl (fun acc k => Table.put d acc k (f (Table.get d acc k))) tab

/-- The numbers a table lists, rising. -/
def Table.keys {α : Type} (tab : Table α) : List Nat := tab.map Prod.fst

/-- The canonical form: numbers strictly rising, and no entry equal to the reset value `d`. -/
def Table.wf {α : Type} [DecidableEq α] (d : α) : Table α → Bool
  | [] => true
  | (k, v) :: rest =>
    decide (v ≠ d) && rest.all (fun e => decide (k < e.1)) && Table.wf d rest

/-! ### Checks in order -/

/-- The code of the first check that fails, where each check is a failure condition with its code: an
order or request "is refused at the first check it fails" (R7, R29 and every check list). -/
def firstRefusal : List (Bool × Code) → Option Code
  | [] => none
  | (fails, code) :: rest => if fails then some code else firstRefusal rest

/-! ### Records by number -/

/-- The story with number `n`, or none while the number is free (R1). -/
def State.story? (s : State) (n : Nat) : Option Story := Table.get none s.stories n

/-- A story record is written, or its number freed (R1, R5). -/
def State.putStory (s : State) (n : Nat) (o : Option Story) : State :=
  { s with stories := Table.put none s.stories n o }

/-- The fields of a record that holds no story are treated as absent (R1); a READ gives them as zeros
(R203). -/
def Story.blank : Story :=
  { slug := [], cls := 0, desk := 0, state := .filed, flash := false, holder := none,
    revision := 0, page := none, nudgeCount := 0, nudgeDue := none, overdue := false }

/-- The record of story `n`, for use after a check that the number is live. -/
def State.story (s : State) (n : Nat) : Story := (s.story? n).getD Story.blank

/-- A live story's record is rewritten; a free number stays free. -/
def State.modStory (s : State) (n : Nat) (f : Story → Story) : State :=
  match s.story? n with
  | some st => s.putStory n (some (f st))
  | none => s

/-- The directory count (R5). -/
def State.directoryCount (s : State) : Nat := s.stories.length

/-- The lowest number from `k` on, among the next `count`, for which `free` holds. -/
def lowestFrom (free : Nat → Bool) : Nat → Nat → Option Nat
  | 0, _ => none
  | count + 1, k => if free k then some k else lowestFrom free count (k + 1)

/-- The lowest free story number, or none when the pool is empty (R5, R7). -/
def State.lowestFree (s : State) : Option Nat :=
  lowestFrom (fun n => (s.story? n).isNone) Config.storyCount 0

/-- The entry of desk `d` (R21). -/
def State.desk (s : State) (d : Nat) : Desk := Table.get Desk.initial s.desks d

/-- A desk entry is written (R22). -/
def State.putDesk (s : State) (d : Nat) (e : Desk) : State :=
  { s with desks := Table.put Desk.initial s.desks d e }

/-- The basket of desk `d` (R24). -/
def State.basket (s : State) (d : Nat) : Basket := Table.get Basket.initial s.baskets d

/-- A basket is written (R25). -/
def State.putBasket (s : State) (d : Nat) (b : Basket) : State :=
  { s with baskets := Table.put Basket.initial s.baskets d b }

/-- The route row of a class (R27). -/
def State.routeRow (s : State) (c : Nat) : List RouteTarget := Table.get routeRowInitial s.routes c

/-- The route entry at class `c` and desk `d` (R27). -/
def State.route (s : State) (c d : Nat) : RouteTarget := (s.routeRow c).getD d RouteTarget.none

/-- The diversion entry with index `i` (R28). -/
def State.diversion (s : State) (i : Nat) : Diversion := Table.get Diversion.initial s.diversions i

/-- The pressure monitor's state of desk `d` (R56). -/
def State.pressure (s : State) (d : Nat) : Pressure := Table.get Pressure.initial s.pressures d

/-- A desk's pressure state is written (R56). -/
def State.putPressure (s : State) (d : Nat) (p : Pressure) : State :=
  { s with pressures := Table.put Pressure.initial s.pressures d p }

/-- The record of terminal `t` (R80). -/
def State.terminal (s : State) (t : Nat) : Terminal := Table.get Terminal.initial s.terminals t

/-- A terminal record is written (R80). -/
def State.putTerminal (s : State) (t : Nat) (r : Terminal) : State :=
  { s with terminals := Table.put Terminal.initial s.terminals t r }

/-- A line's controller (R78). -/
def State.line (s : State) : LineId → Line
  | .a => s.lines.a
  | .b => s.lines.b
  | .c => s.lines.c
  | .d => s.lines.d

/-- A line's controller is written. -/
def State.putLine (s : State) (l : LineId) (x : Line) : State :=
  match l with
  | .a => { s with lines := { s.lines with a := x } }
  | .b => { s with lines := { s.lines with b := x } }
  | .c => { s with lines := { s.lines with c := x } }
  | .d => { s with lines := { s.lines with d := x } }

/-- The index of a line, 0 to 3 (R78). -/
def lineIndex : LineId → Nat
  | .a => 0
  | .b => 1
  | .c => 2
  | .d => 3

/-- The terminal number of a drop: line index times 24 plus drop (R78). -/
def terminalOf (l : LineId) (drop : Nat) : Nat := lineIndex l * 24 + drop

/-- The line of a terminal number (R78). -/
def lineOf (t : Nat) : LineId :=
  if t < 24 then .a else if t < 48 then .b else if t < 72 then .c else .d

/-- The edition with number `e` (R125). -/
def State.edition (s : State) (e : Nat) : Edition := Table.get Edition.initial s.editions e

/-- An edition record is written (R125). -/
def State.putEdition (s : State) (e : Nat) (x : Edition) : State :=
  { s with editions := Table.put Edition.initial s.editions e x }

/-- The page with record `r`, or none while the record is free (R136). -/
def State.page? (s : State) (r : Nat) : Option Page := Table.get none s.pages r

/-- A page record is written or freed (R136). -/
def State.putPage (s : State) (r : Nat) (o : Option Page) : State :=
  { s with pages := Table.put none s.pages r o }

/-- What a free page record's fields read as (R203). -/
def Page.blank : Page :=
  { edition := 0, number := 0, placement := [], state := .opened, tier := .first, broken := false,
    stalePending := false, replates := 0 }

/-- The record of page `r`, for use after a check that the record is in use. -/
def State.page (s : State) (r : Nat) : Page := (s.page? r).getD Page.blank

/-- The lowest free page record, or none when every record is in use (R137). -/
def State.lowestFreePage (s : State) : Option Nat :=
  lowestFrom (fun r => (s.page? r).isNone) Config.pageRecordCount 0

/-- The typesetter unit is written. -/
def State.putTypesetter (s : State) (x : Typesetter) : State := { s with typesetter := x }

/-! ### The clock -/

/-- The expiry of a timer that is due at `due` is taken: time has come at least that far (log 1). -/
def State.reach (s : State) (due : Nat) : State := { s with now := Nat.max s.now due }

/-- The time `seconds` from now. -/
def State.after (s : State) (seconds : Nat) : Nat := s.now + seconds * 1000

/-! ### The notice queue -/

/-- The classes of notice (R180). -/
inductive NoticeClass where
  | answer | report (g : Group) | traffic | restart
  deriving DecidableEq, Repr

/-- The class and report group of a notice (R180, the table of notices). -/
def Notice.noticeClass : Notice → NoticeClass
  | .refused .. => .answer
  | .status .. => .answer
  | .records .. => .answer
  | .restarted .. => .restart
  | .keys .. => .traffic
  | .textWanted .. => .traffic
  | .refreshWanted .. => .traffic
  | .pageCall .. => .traffic
  | .copyEvent .. => .report .copy
  | .terminalEvent .. => .report .terminal
  | .pressureEvent .. => .report .pressure
  | .pressureReport .. => .report .pressure
  | .pageEvent .. => .report .page
  | .editionReport .. => .report .page
  | .typesetterEvent .. => .report .typesetter

/-- Whether a report group is enabled (R181). -/
def Reporting.enabled (r : Reporting) : Group → Bool
  | .copy => r.copy
  | .terminal => r.terminal
  | .pressure => r.pressure
  | .page => r.page
  | .typesetter => r.typesetter

/-- The free entries of the notice queue: 64 less the notices in it (R179). -/
def State.noticeFree (s : State) : Nat := Config.noticeEntries - s.queue.length

/-- When the line is free and the queue is not empty, the head notice leaves the queue and its frame
begins (R179); while an ordered restart is held back no further notice begins (R190). -/
def State.startNotice (s : State) : State :=
  match s.sending, s.restartPending, s.queue with
  | none, none, n :: rest => { s with sending := some n, queue := rest }
  | _, _, _ => s

/-- A notice that is admitted joins the tail, and leaves at once when the transmitter is free
(R179, log 7). -/
def State.admitNotice (s : State) (n : Notice) : State :=
  ({ s with queue := s.queue ++ [n] }).startNotice

/-- A dropped report or answer sets the reports-dropped flag (R180). -/
def State.markDropped (s : State) : State := { s with reportsDropped := true }

/-- A notice is offered and admitted or not by its class (R180). What follows from a lack of room for a
traffic notice is the business of the rule that offers it. -/
def State.offer (s : State) (n : Notice) : State :=
  match n.noticeClass with
  | .answer => if 0 < s.noticeFree then s.admitNotice n else s.markDropped
  | .report g =>
    if s.reporting.enabled g then
      if Config.reportReserve ≤ s.noticeFree then s.admitNotice n else s.markDropped
    else s
  | .traffic => if 0 < s.noticeFree then s.admitNotice n else s
  | .restart => s.admitNotice n

/-! ### The attention queues -/

/-- An attention joins the end of a queue; a queue of 4 loses its oldest entry, and the new one carries
the earlier lost mark (R120, R121). -/
def joinAttention (q : List Attention) (b : AttentionBody) : List Attention :=
  if q.length < 4 then q ++ [{ body := b, earlierLost := false }]
  else q.tail ++ [{ body := b, earlierLost := true }]

/-- An attention is offered to terminal `t`; one offered to a DARK or ABSENT terminal is lost (R120). -/
def State.attend (s : State) (t : Nat) (b : AttentionBody) : State :=
  let r := s.terminal t
  if r.liveness = .absent ∨ r.liveness = .dark then s
  else s.putTerminal t { r with attentions := joinAttention r.attentions b }

/-- The same attention for each terminal of a list. -/
def State.attendAll (s : State) (ts : List Nat) (b : AttentionBody) : State :=
  ts.foldl (fun acc t => acc.attend t b) s

/-- The terminals for which `p` holds, in ascending number; an unlisted terminal has its reset record
and is not looked at. -/
def State.terminalsWith (s : State) (p : Terminal → Bool) : List Nat :=
  Table.keys (s.terminals.filter (fun e => p e.2))

/-- The terminals that are LIVE. -/
def State.liveTerminals (s : State) : List Nat :=
  s.terminalsWith (fun r => r.liveness == .live)

/-! ### The frame store -/

/-- The blocks that `n` bytes occupy: ceil(n / 64), and 1 for none (R104). -/
def blocksFor (n : Nat) : Nat := if n = 0 then 1 else (n + 63) / 64

/-- The bytes a listing holds: 4 of header and 16 an entry (R116). -/
def Listing.size (l : Listing) : Nat := 4 + 16 * l.entries.length

/-- The bytes a frame holds (R104). -/
def OutFrame.size : OutFrame → Nat
  | .screen _ text _ => text.length
  | .listing l => l.size

/-- The blocks a frame occupies (R104). -/
def OutFrame.blocks (f : OutFrame) : Nat := blocksFor f.size

/-- The blocks a list of frames occupies. -/
def framesBlocks (fs : List OutFrame) : Nat := (fs.map OutFrame.blocks).sum

/-- The blocks of a frame on a line; an attention uses none (R121). -/
def LineFrame.blocks : LineFrame → Nat
  | .attention _ => 0
  | .frame f => f.blocks

/-- An open screen frame (R105). -/
def OutFrame.isOpen : OutFrame → Bool
  | .screen _ _ o => o
  | .listing _ => false

/-- A pending screen frame: a closed screen frame whose sending has not begun (R105). -/
def OutFrame.isPendingScreen : OutFrame → Bool
  | .screen _ _ o => !o
  | .listing _ => false

/-- The frames of terminal `t` for which `drop` holds leave its outbound list, and their blocks are
returned (R104). -/
def State.discardFrames (s : State) (t : Nat) (drop : OutFrame → Bool) : State :=
  let r := s.terminal t
  { s.putTerminal t { r with outbound := r.outbound.filter (fun f => !drop f) } with
    freeBlocks := s.freeBlocks + framesBlocks (r.outbound.filter drop) }

/-- A frame is appended to terminal `t`'s outbound list and takes its blocks (R104, R110, R116). -/
def State.appendFrame (s : State) (t : Nat) (f : OutFrame) : State :=
  let r := s.terminal t
  { s.putTerminal t { r with outbound := r.outbound ++ [f] } with
    freeBlocks := s.freeBlocks - f.blocks }

/-- The open frame of a terminal (R105, R107). It stands last unless a listing has joined behind it, which
then waits for it (log 26). -/
def Terminal.openFrame (r : Terminal) : Option OutFrame := r.outbound.find? OutFrame.isOpen

/-! ### Baskets -/

/-- The stories of a basket in position order (R24). -/
def Basket.all (b : Basket) : List Nat := b.flash ++ b.ordinary

/-- The count of a basket (R24). -/
def Basket.count (b : Basket) : Nat := b.flash.length + b.ordinary.length

/-- A story joins at the end of the tier its flash field names (R25). -/
def Basket.join (b : Basket) (n : Nat) (flash : Bool) : Basket :=
  if flash then { b with flash := b.flash ++ [n] } else { b with ordinary := b.ordinary ++ [n] }

/-- A story leaves, and the stories behind it close up (R25). -/
def Basket.leave (b : Basket) (n : Nat) : Basket :=
  { flash := b.flash.filter (fun m => !(m == n)),
    ordinary := b.ordinary.filter (fun m => !(m == n)) }

/-- Whether desk `d`'s basket holds as many stories as its capacity (R7, R25). -/
def State.basketFull (s : State) (d : Nat) : Bool :=
  decide ((s.desk d).capacity ≤ (s.basket d).count)

/-- Story `n` joins desk `d`'s basket (R25). -/
def State.joinBasket (s : State) (d n : Nat) (flash : Bool) : State :=
  s.putBasket d ((s.basket d).join n flash)

/-- Story `n` leaves desk `d`'s basket (R25). -/
def State.leaveBasket (s : State) (d n : Nat) : State :=
  s.putBasket d ((s.basket d).leave n)

end Sys2Proof.Machine
end

