-- ==== Sys2Proof/Machine/Codings.lean ====
section
/-! DEFINITION. The field codings of every link (R193), the kind codes (R195, R199), the refusal codes
(R196) and the check sum (R174, R199, R202). -/

namespace Sys2Proof.Machine

/-! ### Numbers and flags -/

/-- A number in 2 bytes, the more significant first (R193). -/
def be2 (n : Nat) : List Byte := [byte (n / 256), byte n]

/-- A number in 3 bytes, the most significant first (R193). -/
def be3 (n : Nat) : List Byte := [byte (n / 65536), byte (n / 256), byte n]

/-- The number 2 bytes carry (R193). -/
def nat2 (hi lo : Byte) : Nat := hi.toNat * 256 + lo.toNat

/-- The number 3 bytes carry (R193). -/
def nat3 (hi mid lo : Byte) : Nat := hi.toNat * 65536 + mid.toNat * 256 + lo.toNat

/-- A flag is read as no at 00h and yes at any other value (R193). -/
def readFlag (b : Byte) : Bool := b != 0

/-- A flag is sent as 00h or 01h (R193). -/
def flagByte (b : Bool) : Byte := if b then 1 else 0

/-- An optional 1-byte field: FFh is none (R193). -/
def readOption1 (b : Byte) : Option Nat := if b = 0xFF then none else some b.toNat

/-- An optional 2-byte field: FFFFh is none (R193). -/
def readOption2 (hi lo : Byte) : Option Nat :=
  if hi = 0xFF ∧ lo = 0xFF then none else some (nat2 hi lo)

/-- An optional field sent in 1 byte (R193). -/
def option1 : Option Nat → Byte
  | none => 0xFF
  | some n => byte n

/-- An optional field sent in 2 bytes (R193). -/
def option2 : Option Nat → List Byte
  | none => [0xFF, 0xFF]
  | some n => be2 n

/-- A field of `n` bytes, padded with 00h after its last character (R193). -/
def padTo (n : Nat) (l : List Byte) : List Byte := (l ++ List.replicate n 0).take n

/-- The check of a frame or block: the sum of its bytes modulo 65,536 (R174, R199, R202). -/
def checkSum (bs : List Byte) : Nat := ((bs.map BitVec.toNat).sum) % 65536

/-! ### Enumerations (R193) -/

def StoryState.code : StoryState → Byte
  | .filed => 0
  | .held => 1
  | .set => 2
  | .spiked => 3

def Role.code : Role → Byte
  | .writer => 0
  | .editor => 1
  | .chief => 2

def readRole (b : Byte) : Option Role :=
  if b = 0 then some .writer else if b = 1 then some .editor else if b = 2 then some .chief else none

def Liveness.code : Liveness → Byte
  | .absent => 0
  | .waking => 1
  | .live => 2
  | .faint => 3
  | .dark => 4

def SurgeState.code : SurgeState → Byte
  | .calm => 0
  | .rising => 1
  | .surge => 2
  | .easing => 3

def EditionState.code : EditionState → Byte
  | .empty => 0
  | .planned => 1
  | .running => 2
  | .closed => 3
  | .sealed => 4

def PageState.code : PageState → Byte
  | .opened => 0
  | .armed => 1
  | .ready => 2
  | .queued => 3
  | .sending => 4
  | .sent => 5
  | .stale => 6

/-- The code of a page's state in a PAGE EVENT, FREE when the record is freed (R150, R193). -/
def pageStateCode : Option PageState → Byte
  | some p => p.code
  | none => 7

def SlotCode.code : SlotCode → Nat
  | .opened => 0
  | .armed => 1
  | .ready => 2
  | .queued => 3
  | .sent => 5
  | .stale => 6
  | .empty => 7

/-- A report slot: the slot code in the upper four bits and the replate count in the lower (R198). -/
def Slot.byte (x : Slot) : Byte := Sys2Proof.byte (x.code.code * 16 + x.replates)

def Tier.code : Tier → Byte
  | .first => 0
  | .replate => 1

def OutputMode.code : OutputMode → Byte
  | .hold => 0
  | .run => 1
  | .step => 2

def readMode (b : Byte) : Option OutputMode :=
  if b = 0 then some .hold else if b = 1 then some .run else if b = 2 then some .step else none

def PartState.code : PartState → Byte
  | .loading => 0
  | .running => 1

def RestartCause.code : RestartCause → Byte
  | .power => 0
  | .pin => 1
  | .fullOrder => 2
  | .warmOrder => 3

def readRestartKind (b : Byte) : Option RestartKind :=
  if b = 0 then some .full else if b = 1 then some .warm else none

def Form.code : Form → Byte
  | .refresh => 0
  | .delta => 1

def readForm (b : Byte) : Option Form :=
  if b = 0 then some .refresh else if b = 1 then some .delta else none

def Condition.code : Condition → Byte
  | .always => 0
  | .onSurge => 1

def readCondition (b : Byte) : Option Condition :=
  if b = 0 then some .always else if b = 1 then some .onSurge else none

def Change.code : Change → Byte
  | .announced => 0
  | .held => 1
  | .released => 2
  | .moved => 3
  | .set => 4
  | .spiked => 5
  | .revised => 6
  | .placed => 7
  | .lifted => 8
  | .gone => 9
  | .overdue => 10

/-- The attention kinds (R193). -/
def AttentionBody.code : AttentionBody → Byte
  | .refused .. => 0
  | .done .. => 1
  | .nudge .. => 2
  | .watch .. => 3
  | .storeLost => 4
  | .storeBack => 5
  | .reconnected => 6

def RequestKind.code : RequestKind → Byte
  | .get => 1
  | .getNext => 2
  | .view => 3
  | .back => 4
  | .send => 5
  | .returnStory => 6
  | .spike => 7
  | .pull => 8
  | .list => 9
  | .watch => 10
  | .unwatch => 11
  | .keys => 12

/-- The request kinds in the order of their codes (R193). -/
def requestKinds : List RequestKind :=
  [.get, .getNext, .view, .back, .send, .returnStory, .spike, .pull, .list, .watch, .unwatch, .keys]

def CopyCause.code : CopyCause → Byte
  | .terminal t => byte t
  | .order => 0xFC
  | .darkness => 0xFD
  | .nudge => 0xFE

def PageCause.code : PageCause → Byte
  | .order => 0
  | .gate => 1
  | .story => 2
  | .join => 3
  | .withdrawn => 4
  | .typesetter => 5
  | .seal => 6

def PressureCause.code : PressureCause → Byte
  | .sample => 0
  | .reseed => 1
  | .closed => 2

def RefreshReason.code : RefreshReason → Byte
  | .live => 0
  | .degrade => 1

def EditionReportKind.code : EditionReportKind → Byte
  | .complete => 0
  | .sealed => 1

def TypesetterEventKind.code : TypesetterEventKind → Byte
  | .stall => 0
  | .stallCleared => 1
  | .abandoned => 2

/-- The cause in a TYPESETTER EVENT; none is FFh, and RESTART, which offers no event (R167), has no code
of its own. -/
def abandonCode : Option AbandonCause → Byte
  | some .noData => 0
  | some .storeLost => 1
  | some .abort => 2
  | some .restart => 0xFF
  | none => 0xFF

def RouteTarget.code : RouteTarget → Byte
  | .desk d => byte d
  | .set => 0xFE
  | .none => 0xFF

/-- A route target in an order: a desk 0 to 15, SET or NONE, and nothing else (R27, R193). -/
def readRouteTarget (b : Byte) : Option RouteTarget :=
  if b = 0xFE then some .set
  else if b = 0xFF then some .none
  else if b.toNat ≤ 15 then some (.desk b.toNat)
  else none

/-- The refusal codes (R196). -/
def Code.code : Code → Byte
  | .notReady => 0x01
  | .storeLost => 0x02
  | .noStory => 0x03
  | .held => 0x04
  | .notHolder => 0x05
  | .limit => 0x06
  | .role => 0x07
  | .state => 0x08
  | .noRoute => 0x09
  | .sameDesk => 0x0A
  | .full => 0x0B
  | .placed => 0x0C
  | .pageBusy => 0x0D
  | .late => 0x0E
  | .edition => 0x0F
  | .busy => 0x10
  | .range => 0x11
  | .occupied => 0x13
  | .duplicate => 0x14
  | .noTerminal => 0x15
  | .dark => 0x16
  | .offset => 0x17
  | .unknown => 0x18
  | .length => 0x19
  | .check => 0x1A
  | .framing => 0x1B

/-! ### Order kind codes (R195) -/

namespace Kind

def idle : Byte := 0x01
def run : Byte := 0x02
def restart : Byte := 0x03
def ackRestart : Byte := 0x04
def loadDesk : Byte := 0x05
def loadRoute : Byte := 0x06
def loadDiversion : Byte := 0x07
def loadTerminal : Byte := 0x08
def setPressure : Byte := 0x09
def reseed : Byte := 0x0A
def setTiming : Byte := 0x0B
def setReporting : Byte := 0x0C
def read : Byte := 0x0D
def announce : Byte := 0x0E
def revise : Byte := 0x0F
def purge : Byte := 0x10
def move : Byte := 0x11
def pull : Byte := 0x12
def screen : Byte := 0x13
def planEdition : Byte := 0x14
def startEdition : Byte := 0x15
def closeEdition : Byte := 0x17
def sealEdition : Byte := 0x18
def makePage : Byte := 0x19
def place : Byte := 0x1A
def lift : Byte := 0x1B
def release : Byte := 0x1C
def replate : Byte := 0x1D
def dropPage : Byte := 0x1E
def typesetMode : Byte := 0x1F
def abortSend : Byte := 0x20
def pageData : Byte := 0x21

end Kind

/-! ### READ tables (R193) -/

/-- The tables of READ. -/
inductive ReadTable where
  | story | desk | terminal | route | diversion | page | edition | basket | status
  deriving DecidableEq, Repr

def readTable (b : Byte) : Option ReadTable :=
  if b = 1 then some .story else if b = 2 then some .desk else if b = 3 then some .terminal
  else if b = 4 then some .route else if b = 5 then some .diversion else if b = 6 then some .page
  else if b = 7 then some .edition else if b = 8 then some .basket else if b = 9 then some .status
  else none

def ReadTable.code : ReadTable → Byte
  | .story => 1
  | .desk => 2
  | .terminal => 3
  | .route => 4
  | .diversion => 5
  | .page => 6
  | .edition => 7
  | .basket => 8
  | .status => 9

end Sys2Proof.Machine
end

