-- ==== Sys2Proof/Machine/Flags.lean ====
section
/-! DEFINITION. The conditions the blocks read of one another's state at the moment of use: surge, store
loss, pending output, poll eligibility, room, and the marks byte of a listing entry. -/

namespace Sys2Proof.Machine

/-- A desk is in surge while its surge state is SURGE or EASING (R56). -/
def SurgeState.inSurge : SurgeState → Bool
  | .calm => false
  | .rising => false
  | .surge => true
  | .easing => true

/-- Whether desk `d` is in surge (R56). -/
def State.inSurge (s : State) (d : Nat) : Bool := (s.pressure d).surge.inSurge

/-- Whether some edition is RUNNING (R67). -/
def State.editionRunning (s : State) : Bool :=
  s.editions.any (fun e => e.2.state == .running)

/-- A terminal has pending output when its attention queue is not empty or its first outbound frame is
closed (R93, R105). -/
def Terminal.pendingOutput (r : Terminal) : Bool :=
  !r.attentions.isEmpty ||
    (match r.outbound with
     | f :: _ => !f.isOpen
     | [] => false)

/-- A configured terminal is eligible when it is not DARK, or the cycle counter is 0 (R83). -/
def Terminal.eligible (r : Terminal) (cycle : Nat) : Bool :=
  r.configured && (r.liveness != .dark || cycle == 0)

/-- LnDE is asserted while the controller transmits a poll frame or an output frame (R78). -/
def Activity.driving : Activity → Bool
  | .sendingPoll _ => true
  | .awaiting _ _ _ => false
  | .output _ _ => true
  | .idleWait _ => false

/-- The blocks of the frame a line controller is sending. -/
def Activity.blocks : Activity → Nat
  | .output _ w => w.blocks
  | _ => 0

/-- Whether a terminal belongs to desk `d` and is configured (R22). -/
def State.deskHasTerminal (s : State) (d : Nat) : Bool :=
  s.terminals.any (fun e => e.2.configured && e.2.desk == d)

/-- A FILED story that no terminal holds (R45). -/
def Story.waits (st : Story) : Bool := st.state == .filed && st.holder.isNone

/-- The slot code shown for a page's state, SENDING shown as QUEUED (R149). -/
def PageState.slot : PageState → SlotCode
  | .opened => .opened
  | .armed => .armed
  | .ready => .ready
  | .queued => .queued
  | .sending => .queued
  | .sent => .sent
  | .stale => .stale

/-- Whether every story of a placement list is SET, an empty list counting as such (R141). -/
def State.allSet (s : State) (ns : List Nat) : Bool :=
  ns.all (fun n => (s.story n).state == .set)

/-- The depth of the typesetter queue: the number of QUEUED pages (R155). -/
def Typesetter.depth (x : Typesetter) : Nat := x.replateTier.length + x.firstTier.length

/-- The page SENDING, if any (R158). -/
def Typesetter.sendingPage (x : Typesetter) : Option Nat := x.send.map Send.page

/-- The free entries of the typesetter queue: 64, less the QUEUED pages, less 1 while a page is SENDING
(R155). -/
def Typesetter.free (x : Typesetter) : Nat :=
  Config.typesetEntries - x.depth - (if x.send.isSome then 1 else 0)

/-- The free blocks of the galley buffer (R162). -/
def Send.freeGalley (x : Send) : Nat := Config.galleyBlocks - (x.buffer.length + 63) / 64

end Sys2Proof.Machine
end

