-- ==== Sys2Proof/Machine/Layouts.lean ====
section
/-! DEFINITION. The byte layouts of what the part sends: notices (R194, R198), attentions, listings and
terminal line frames (R199, R201), galley and CANCEL blocks (R202), and the records of a READ (R203). -/

namespace Sys2Proof.Machine

/-! ### Listings (R201) -/

/-- The marks byte of a listing entry: flash, held and overdue in its three lowest bits (R201). -/
def marksByte (flash held overdue : Bool) : Byte :=
  byte (flash.toNat + 2 * held.toNat + 4 * overdue.toNat)

/-- A listing entry: story, slug, marks and revision, 16 bytes (R201). -/
def ListEntry.bytes (e : ListEntry) : List Byte :=
  be2 e.story ++ padTo 12 e.slug ++ [marksByte e.flash e.held e.overdue, byte e.revision]

/-- A listing: desk, start, entry count and basket count, then its entries (R201). -/
def Listing.bytes (l : Listing) : List Byte :=
  [byte l.desk, byte l.start, byte l.entries.length, byte l.basketCount] ++
    l.entries.flatMap ListEntry.bytes

/-- The listing entry of story `n` as the directory holds it (R116). -/
def State.listEntry (s : State) (n : Nat) : ListEntry :=
  let st := s.story n
  { story := n, slug := st.slug, flash := st.flash, held := st.state == .held,
    overdue := st.overdue, revision := st.revision }

/-! ### Notices (R194, R198) -/

/-- The kind code of a notice (R195). -/
def Notice.kind : Notice → Byte
  | .refused .. => 0x40
  | .restarted .. => 0x41
  | .status .. => 0x42
  | .records .. => 0x43
  | .keys .. => 0x44
  | .textWanted .. => 0x45
  | .refreshWanted .. => 0x46
  | .pageCall .. => 0x48
  | .copyEvent .. => 0x49
  | .terminalEvent .. => 0x4A
  | .pressureEvent .. => 0x4B
  | .pressureReport .. => 0x4C
  | .pageEvent .. => 0x4D
  | .editionReport .. => 0x4E
  | .typesetterEvent .. => 0x4F

/-- The STATUS body (R198). -/
def Status.bytes (x : Status) : List Byte :=
  [x.part.code, flagByte x.storeLost, x.cause.code, flagByte x.unacknowledged,
    flagByte x.reportsDropped, byte x.noticeFree] ++ be2 x.blocksFree ++ be2 x.directoryCount ++
  [byte x.queueDepth, x.mode.code, option1 x.sending, flagByte x.stalled] ++
    x.editions.map EditionState.code

/-- The body of a notice (R198). -/
def Notice.body : Notice → List Byte
  | .refused k c i => [k, c.code] ++ option2 i
  | .restarted c => [c.code]
  | .status x => x.bytes
  | .records t d st rs => [t, option1 d] ++ be2 st ++ [byte rs.length] ++ rs.flatten
  | .keys t bs => [byte t, byte bs.length] ++ bs
  | .textWanted t n r c => [byte t] ++ be2 n ++ [byte r, c.code]
  | .refreshWanted t r => [byte t, r.code]
  | .pageCall r e n o => [byte r, byte e, byte n] ++ be3 o ++ be2 1024
  | .copyEvent k n st d r c slug count =>
    [k.code] ++ be2 n ++ [st.code, byte d, byte r, c.code] ++
      (match count with
       | some m => [byte m]
       | none => byte slug.length :: slug)
  | .terminalEvent t live d r m => [byte t, flagByte live, byte d, r.code, byte m]
  | .pressureEvent d on c l b => [byte d, flagByte (!on), c.code, byte l, byte b]
  | .pressureReport es =>
    byte es.length :: es.flatMap (fun e => [byte e.desk, byte e.load, byte e.rounded, e.surge.code])
  | .pageEvent r e n st t br sp m c =>
    [byte r, byte e, byte n, pageStateCode st, t.code, flagByte br, flagByte sp, byte m, c.code]
  | .editionReport e k p sz a c slots =>
    [byte e, k.code, byte p, byte sz, byte a, byte c] ++ slots.map Slot.byte
  | .typesetterEvent k pg c acc bg =>
    [k.code, option1 (pg.map (fun p => p.1)), option1 (pg.map (fun p => p.2.1)),
      option1 (pg.map (fun p => p.2.2)), abandonCode c] ++ be3 acc ++ be3 bg

/-- A store link frame: SYN, kind, length, body and check (R194). -/
def storeFrame (kind : Byte) (body : List Byte) : List Byte :=
  [0x5A, kind] ++ be2 body.length ++ body ++
    be2 (checkSum (kind :: be2 body.length ++ body))

/-- The bytes of a notice on SKTX (R194). -/
def Notice.frame (n : Notice) : List Byte := storeFrame n.kind n.body

/-- The filler byte sent between notice frames, and the byte between blocks (R194, R202). -/
def filler : Byte := 0x00

/-- What SKTX carries: the frame of the notice being sent, or else filler, byte after byte (R179, R194). -/
def State.sktx (s : State) : List Byte :=
  match s.sending with
  | some n => n.frame
  | none => [filler]

/-! ### Terminal line frames (R199, R201) -/

/-- A terminal line frame: the store link frame's shape with the address after the kind (R199). -/
def lineFrame (kind : Byte) (drop : Nat) (body : List Byte) : List Byte :=
  [0x5A, kind, byte drop] ++ be2 body.length ++ body ++
    be2 (checkSum (kind :: byte drop :: be2 body.length ++ body))

/-- The 11 bytes of an ATTENTION frame's body (R201). -/
def Attention.bytes (a : Attention) : List Byte :=
  let lost := flagByte a.earlierLost
  match a.body with
  | .refused q c n d => [0, q.code, c.code] ++ option2 n ++ [option1 d, 0xFF, 0xFF, 0xFF, 0, lost]
  | .done q n d r m => [1, q.code, 0xFF] ++ be2 n ++ [byte d, byte r, 0xFF, 0xFF, flagByte m, lost]
  | .nudge n d r k => [2, 0xFF, 0xFF] ++ be2 n ++ [byte d, byte r, 0xFF, byte k, 0, lost]
  | .watch k n d r => [3, 0xFF, 0xFF] ++ be2 n ++ [byte d, byte r, k.code, 0xFF, 0, lost]
  | .storeLost => [4, 0xFF, 0xFF, 0xFF, 0xFF, 0xFF, 0xFF, 0xFF, 0xFF, 0, lost]
  | .storeBack => [5, 0xFF, 0xFF, 0xFF, 0xFF, 0xFF, 0xFF, 0xFF, 0xFF, 0, lost]
  | .reconnected => [6, 0xFF, 0xFF, 0xFF, 0xFF, 0xFF, 0xFF, 0xFF, 0xFF, 0, lost]

/-- The kind and body of an output frame: ATTENTION, SCREEN or LISTING (R199). -/
def LineFrame.kindBody : LineFrame → Byte × List Byte
  | .attention a => (0x64, a.bytes)
  | .frame (.screen f text _) => (0x65, f.code :: text)
  | .frame (.listing l) => (0x66, l.bytes)

/-- The bytes an activity puts on a terminal line: a poll frame, an output frame, or nothing (R199). -/
def Activity.bytes : Activity → List Byte
  | .sendingPoll drop => lineFrame 0x60 drop []
  | .awaiting _ _ _ => []
  | .output t w => lineFrame w.kindBody.1 (t % 24) w.kindBody.2
  | .idleWait _ => []

/-! ### Galley and CANCEL blocks (R202) -/

/-- The bytes of a block on TSOUT (R202). -/
def Block.bytes : Block → List Byte
  | .galley p q data _ =>
    let inner := [byte p, byte q, byte data.length] ++ data
    0xA5 :: inner ++ be2 (checkSum inner)
  | .cancel c =>
    let inner := [option1 c.page, byte c.sequence, 0xC0]
    0xA5 :: inner ++ be2 (checkSum inner)

/-- What TSOUT carries: the block being sent, or else 00h bytes, one after another (R202). -/
def State.tsout (s : State) : List Byte :=
  match s.typesetter.block with
  | some b => b.bytes
  | none => [filler]

/-! ### READ records (R203) -/

/-- Two-byte fields for a list, with none after the last (R203). -/
def padStories (n : Nat) (ns : List Nat) : List Byte :=
  padTo (2 * n) (ns.flatMap be2 ++ List.replicate (2 * n) 0xFF)

/-- The whole seconds left until a due time, rounded up (R45, R203). -/
def State.secondsTo (s : State) (due : Nat) : Nat := (due - s.now + 999) / 1000

/-- A STORY record, 27 bytes (R203). -/
def State.storyRecord (s : State) (n : Nat) : List Byte :=
  match s.story? n with
  | none => be2 n ++ List.replicate 25 0
  | some st =>
    be2 n ++ [1, byte st.slug.length] ++ padTo 12 st.slug ++
    [byte st.cls, byte st.desk, st.state.code, flagByte st.flash, option1 st.holder,
      byte st.revision, option1 st.page, byte st.nudgeCount, flagByte st.overdue] ++
    option2 (st.nudgeDue.map s.secondsTo)

/-- A DESK record, 33 bytes (R76, R203). -/
def State.deskRecord (s : State) (d : Nat) : List Byte :=
  let e := s.desk d
  let p := s.pressure d
  [byte d, flagByte e.inUse, byte e.name.length] ++ padTo 8 e.name ++
  [byte e.capacity, option1 e.duty, byte e.t, byte e.m, byte e.r, byte (s.basket d).count,
    byte e.params.quietBeta, byte e.params.deadlineBeta, byte e.params.fastBeta,
    byte e.params.fastBand, byte e.params.floor, byte e.params.proportional,
    byte e.params.hysteresis, byte e.params.enterDebounce, byte e.params.exitDebounce,
    flagByte e.params.hold, byte p.load] ++ be2 p.baseline ++
  [p.surge.code, byte p.count, flagByte p.reseedPending]

/-- The outbound frame count of a TERMINAL record: one byte, which a count of 256 does not fit. The spec
gives no value for it, and the model leaves it free (R203, DESIGN CHOICE, log 29). -/
def frameCount (n : Nat) : Byte := if n ≤ 255 then byte n else Config.frameCountByte n

/-- A TERMINAL record, 34 bytes (R101, R203). -/
def State.terminalRecord (s : State) (t : Nat) : List Byte :=
  let r := s.terminal t
  [byte t, flagByte r.configured, byte r.desk, r.role.code, r.liveness.code, byte r.missCount,
    byte r.wakeCount, flagByte r.wasDark, flagByte r.refreshOwed.isSome,
    byte r.holds.length] ++ padStories 4 r.holds ++
  [byte r.views.length] ++ option2 r.views.head? ++
  [byte r.watches.length] ++ padStories 4 r.watches ++
  [byte r.attentions.length, frameCount r.outbound.length] ++ be2 (framesBlocks r.outbound)

/-- A ROUTE record, 17 bytes (R203). -/
def State.routeRecord (s : State) (c : Nat) : List Byte :=
  byte c :: (List.range 16).map (fun d => (s.route c d).code)

/-- A DIVERSION record, 6 bytes (R203). -/
def State.diversionRecord (s : State) (i : Nat) : List Byte :=
  let e := s.diversion i
  [byte i, flagByte e.inUse, byte e.fromDesk, option1 e.cls, e.condition.code, byte e.toDesk]

/-- A PAGE record, 34 bytes (R151, R203). -/
def State.pageRecord (s : State) (r : Nat) : List Byte :=
  match s.page? r with
  | none => byte r :: List.replicate 33 0
  | some p =>
    [byte r, 1, byte p.edition, byte p.number, p.state.code, p.tier.code, flagByte p.broken,
      flagByte p.stalePending, byte p.replates, byte p.placement.length] ++
    padStories 12 p.placement

/-- An EDITION record, 9 bytes and one a slot (R151, R203). -/
def State.editionRecord (s : State) (e : Nat) : List Byte :=
  let x := s.edition e
  [byte e, x.state.code, byte x.planned, byte x.size, byte x.allowance, byte x.counter,
    flagByte x.sealPending, flagByte x.completeReported, byte x.slots.length] ++
  x.slots.map Slot.byte

/-- The first number of a table and the number after its last, as READ judges a start (R182). -/
def ReadTable.bounds : ReadTable → Nat × Nat
  | .story => (0, 1024)
  | .desk => (0, 16)
  | .terminal => (0, 96)
  | .route => (0, 32)
  | .diversion => (0, 8)
  | .page => (0, 128)
  | .edition => (1, 9)
  | .basket => (0, 128)
  | .status => (0, 1)

/-- The records of a READ: from the start, up to the count, and not beyond the table's last record; a
basket's last record is its last position (R182). -/
def State.readRecords (s : State) (table : ReadTable) (desk start count : Nat) : List (List Byte) :=
  let upTo := fun (last : Nat) => List.range' start (Nat.min count (last - start))
  match table with
  | .story => (upTo 1024).map s.storyRecord
  | .desk => (upTo 16).map s.deskRecord
  | .terminal => (upTo 96).map s.terminalRecord
  | .route => (upTo 32).map s.routeRecord
  | .diversion => (upTo 8).map s.diversionRecord
  | .page => (upTo 128).map s.pageRecord
  | .edition => (upTo 9).map s.editionRecord
  | .basket => (((s.basket desk).all.drop start).take count).map (fun n => (s.listEntry n).bytes)
  | .status => []

end Sys2Proof.Machine
end

