-- ==== Sys2Proof/Machine/Operands.lean ====
section
/-! DEFINITION. The operand forms: the body of each order (R197) and the arguments of each request (R200),
read into their fields. A reading is none when the body length is not the one the layout gives, which
is what R177 and R88 refuse LENGTH. -/

namespace Sys2Proof.Machine

/-! ### Order bodies (R197) -/

/-- An empty body: IDLE, RUN, ACK RESTART, ABORT SEND. -/
def readEmpty : List Byte → Option Unit
  | [] => some ()
  | _ => none

/-- A body of one byte: RESTART, RESEED, START, CLOSE and SEAL EDITION, RELEASE, REPLATE, DROP PAGE and
TYPESET MODE. -/
def readOne : List Byte → Option Byte
  | [b] => some b
  | _ => none

/-- A body that is one story number: PURGE, LIFT. -/
def readStory : List Byte → Option Nat
  | [hi, lo] => some (nat2 hi lo)
  | _ => none

/-- MOVE and PULL: story, desk, flash. -/
def readStoryDeskFlash : List Byte → Option (Nat × Nat × Bool)
  | [hi, lo, desk, flash] => some (nat2 hi lo, desk.toNat, readFlag flash)
  | _ => none

/-- PLACE: story, page record. -/
def readStoryPage : List Byte → Option (Nat × Nat)
  | [hi, lo, record] => some (nat2 hi lo, record.toNat)
  | _ => none

/-- MAKE PAGE: edition, page number. -/
def readTwo : List Byte → Option (Nat × Nat)
  | [x, y] => some (x.toNat, y.toNat)
  | _ => none

/-- PLAN EDITION: edition, planned pages, section size, allowance. -/
def readFour : List Byte → Option (Nat × Nat × Nat × Nat)
  | [a, b, c, d] => some (a.toNat, b.toNat, c.toNat, d.toNat)
  | _ => none

/-- The fields of a LOAD DESK. -/
structure DeskLoad where
  desk : Nat
  inUse : Bool
  capacity : Nat
  duty : Option Nat
  t : Nat
  m : Nat
  r : Nat
  name : List Byte
  deriving DecidableEq, Repr

/-- LOAD DESK: desk, in use, capacity, duty terminal or none, T, M, R, name length, name. -/
def readDeskLoad : List Byte → Option DeskLoad
  | desk :: inUse :: capacity :: duty :: t :: m :: r :: n :: name =>
    if name.length = n.toNat then
      some { desk := desk.toNat, inUse := readFlag inUse, capacity := capacity.toNat,
             duty := readOption1 duty, t := t.toNat, m := m.toNat, r := r.toNat, name := name }
    else none
  | _ => none

/-- LOAD ROUTE: class, 16 route targets; a target that is no desk, SET or NONE is read as none. -/
def readRouteLoad : List Byte → Option (Nat × List (Option RouteTarget))
  | c :: targets =>
    if targets.length = 16 then some (c.toNat, targets.map readRouteTarget) else none
  | [] => none

/-- The fields of a LOAD DIVERSION; the class and the condition stay as received, since they are judged
only when the in-use flag is yes (R28). -/
structure DiversionLoad where
  index : Nat
  inUse : Bool
  fromDesk : Nat
  cls : Option Nat
  condition : Option Condition
  toDesk : Nat
  deriving DecidableEq, Repr

/-- LOAD DIVERSION: index, in use, from desk, class, condition, to desk. -/
def readDiversionLoad : List Byte → Option DiversionLoad
  | [i, u, f, c, k, t] =>
    some { index := i.toNat, inUse := readFlag u, fromDesk := f.toNat, cls := readOption1 c,
           condition := readCondition k, toDesk := t.toNat }
  | _ => none

/-- The fields of a LOAD TERMINAL. -/
structure TerminalLoad where
  terminal : Nat
  configured : Bool
  desk : Nat
  role : Option Role
  deriving DecidableEq, Repr

/-- LOAD TERMINAL: terminal, configured, desk, role. -/
def readTerminalLoad : List Byte → Option TerminalLoad
  | [t, c, d, r] =>
    some { terminal := t.toNat, configured := readFlag c, desk := d.toNat, role := readRole r }
  | _ => none

/-- SET PRESSURE: desk, then the ten parameters as received. -/
def readPressureLoad : List Byte → Option (Nat × PressureParams)
  | [d, bq, bd, bf, w, f, k, h, de, dx, hold] =>
    some (d.toNat,
      { quietBeta := bq.toNat, deadlineBeta := bd.toNat, fastBeta := bf.toNat, fastBand := w.toNat,
        floor := f.toNat, proportional := k.toNat, hysteresis := h.toNat,
        enterDebounce := de.toNat, exitDebounce := dx.toNat, hold := readFlag hold })
  | _ => none

/-- A line's four settings as SET TIMING carries them (R184). -/
structure LineLoad where
  window : Nat
  allowance : Nat
  darkLimit : Nat
  wakeNeeded : Nat
  deriving DecidableEq, Repr

/-- The twenty values of a SET TIMING (R184). -/
structure TimingLoad where
  samplePeriod : Nat
  a : LineLoad
  b : LineLoad
  c : LineLoad
  d : LineLoad
  lowWater : Nat
  stallTimeout : Nat
  silenceTimeout : Nat
  deriving DecidableEq, Repr

/-- The four settings of a line from their bytes. -/
def lineLoad (w k dl wk : Byte) : LineLoad :=
  { window := w.toNat, allowance := k.toNat, darkLimit := dl.toNat, wakeNeeded := wk.toNat }

/-- SET TIMING: P; for each line its four settings; low-water mark; stall timeout; silence timeout. -/
def readTimingLoad : List Byte → Option TimingLoad
  | [p, a1, a2, a3, a4, b1, b2, b3, b4, c1, c2, c3, c4, d1, d2, d3, d4, low, stall, silence] =>
    some { samplePeriod := p.toNat, a := lineLoad a1 a2 a3 a4, b := lineLoad b1 b2 b3 b4,
           c := lineLoad c1 c2 c3 c4, d := lineLoad d1 d2 d3 d4, lowWater := low.toNat,
           stallTimeout := stall.toNat, silenceTimeout := silence.toNat }
  | _ => none

/-- SET REPORTING: five enable flags and N. -/
def readReportingLoad : List Byte → Option (Reporting × Nat)
  | [c, t, p, g, y, n] =>
    some ({ copy := readFlag c, terminal := readFlag t, pressure := readFlag p, page := readFlag g,
            typesetter := readFlag y }, n.toNat)
  | _ => none

/-- READ: table, start high byte, start low byte, count. -/
def readReadOrder : List Byte → Option (Byte × Byte × Byte × Nat)
  | [table, hi, lo, count] => some (table, hi, lo, count.toNat)
  | _ => none

/-- ANNOUNCE: entry desk, class, flash, slug length, slug. -/
def readAnnounce : List Byte → Option (Nat × Nat × Bool × List Byte)
  | d :: c :: f :: n :: slug =>
    if slug.length = n.toNat then some (d.toNat, c.toNat, readFlag f, slug) else none
  | _ => none

/-- REVISE: story, slug length, slug. -/
def readRevise : List Byte → Option (Nat × List Byte)
  | hi :: lo :: n :: slug => if slug.length = n.toNat then some (nat2 hi lo, slug) else none
  | _ => none

/-- The fields of a SCREEN order. -/
structure ScreenOrder where
  terminal : Nat
  form : Option Form
  continuation : Bool
  more : Bool
  text : List Byte
  deriving DecidableEq, Repr

/-- SCREEN: terminal, form, continuation, more, text length, text; a text length above 1,024 is refused
LENGTH like a body that does not match it (R106). -/
def readScreen : List Byte → Option ScreenOrder
  | t :: f :: c :: m :: hi :: lo :: text =>
    if text.length = nat2 hi lo ∧ text.length ≤ 1024 then
      some { terminal := t.toNat, form := readForm f, continuation := readFlag c,
             more := readFlag m, text := text }
    else none
  | _ => none

/-- The fields of a PAGE DATA. -/
structure PageDataOrder where
  record : Nat
  offset : Nat
  final : Bool
  bytes : List Byte
  deriving DecidableEq, Repr

/-- PAGE DATA: page record, offset, final, byte count, bytes; a byte count above 1,024 is refused LENGTH
like a body that does not match it (R160). -/
def readPageData : List Byte → Option PageDataOrder
  | r :: o2 :: o1 :: o0 :: f :: hi :: lo :: bytes =>
    if bytes.length = nat2 hi lo ∧ bytes.length ≤ 1024 then
      some { record := r.toNat, offset := nat3 o2 o1 o0, final := readFlag f, bytes := bytes }
    else none
  | _ => none

/-! ### Request arguments (R200) -/

/-- GET, RETURN, SPIKE, VIEW, WATCH and UNWATCH: a story, or none. -/
def readStoryArg : List Byte → Option (Option Nat)
  | [hi, lo] => some (readOption2 hi lo)
  | _ => none

/-- GET NEXT and BACK: no arguments. -/
def readNoArgs : List Byte → Option Unit
  | [] => some ()
  | _ => none

/-- SEND: a story or none, a desk or none for the route form, flash. -/
def readSendArgs : List Byte → Option (Option Nat × Option Nat × Bool)
  | [hi, lo, desk, flash] => some (readOption2 hi lo, readOption1 desk, readFlag flash)
  | _ => none

/-- PULL: a story or none, flash. -/
def readPullArgs : List Byte → Option (Option Nat × Bool)
  | [hi, lo, flash] => some (readOption2 hi lo, readFlag flash)
  | _ => none

/-- LIST: desk, start. -/
def readListArgs : List Byte → Option (Nat × Nat)
  | [desk, start] => some (desk.toNat, start.toNat)
  | _ => none

/-- The request kind of a byte, where the byte is a listed code (R193). -/
def readRequestKind (b : Byte) : Option RequestKind :=
  if b = 1 then some .get else if b = 2 then some .getNext else if b = 3 then some .view
  else if b = 4 then some .back else if b = 5 then some .send else if b = 6 then some .returnStory
  else if b = 7 then some .spike else if b = 8 then some .pull else if b = 9 then some .list
  else if b = 10 then some .watch else if b = 11 then some .unwatch
  else if b = 12 then some .keys else none

/-- Whether a REQUEST body is a known request whose arguments fit its kind (R88, R200). -/
def requestFits : List Byte → Bool
  | [] => false
  | k :: args =>
    match readRequestKind k with
    | some .get => (readStoryArg args).isSome
    | some .getNext => (readNoArgs args).isSome
    | some .view => (readStoryArg args).isSome
    | some .back => (readNoArgs args).isSome
    | some .send => (readSendArgs args).isSome
    | some .returnStory => (readStoryArg args).isSome
    | some .spike => (readStoryArg args).isSome
    | some .pull => (readPullArgs args).isSome
    | some .list => (readListArgs args).isSome
    | some .watch => (readStoryArg args).isSome
    | some .unwatch => (readStoryArg args).isSome
    | some .keys => false
    | none => false

/-- The continuation flag of a SCREEN body; a body too short to hold one carries none (R197). -/
def continuationFlag : List Byte → Bool
  | _ :: _ :: c :: _ => readFlag c
  | _ => false

/-! ### Clamping (00_scope.md, Conventions) -/

/-- A tuning value outside its range is replaced by the nearest value of the range. -/
def clamp (lo hi n : Nat) : Nat := Nat.max lo (Nat.min hi n)

end Sys2Proof.Machine
end

