-- ==== Sys2Proof/Machine/Directory.lean ====
section
/-! DEFINITION. What the copy directory and the nudge timer do inside a handling: the changes of a story's
record, to whom a change is told (R13 to R16), and the reminders' arithmetic and schedule (R46 to R49,
R54). -/

namespace Sys2Proof.Machine

/-! ### The nudge timer -/

/-- The interval for count `k`: T × M^k seconds, at most 3,600 (R46). -/
def nudgeInterval (t m k : Nat) : Nat := Nat.min (t * m ^ k) 3600

/-- The due time of a reminder scheduled now for a story at its count, by the T and M of its desk's
entry (R46). -/
def State.nudgeDueFor (s : State) (st : Story) : Nat :=
  let d := s.desk st.desk
  s.after (nudgeInterval d.t d.m st.nudgeCount)

/-- A story arrives FILED and unheld at its desk: count 0, mark cleared, and while RUNNING a reminder at
count 0 (R47, R54). -/
def State.nudgeArrive (s : State) (n : Nat) : State :=
  s.modStory n (fun st =>
    let fresh := { st with nudgeCount := 0, overdue := false }
    { fresh with
      nudgeDue := if s.part = .running then some (s.nudgeDueFor fresh) else none })

/-- A story is released in place: count and mark kept, and while RUNNING and not overdue a reminder at
the kept count (R48, R54). -/
def State.nudgeRelease (s : State) (n : Nat) : State :=
  s.modStory n (fun st =>
    { st with
      nudgeDue :=
        if s.part = .running ∧ st.overdue = false then some (s.nudgeDueFor st) else none })

/-- A story leaves the FILED and unheld condition: its due time is cleared (R49). -/
def State.nudgeLeave (s : State) (n : Nat) : State :=
  s.modStory n (fun st => { st with nudgeDue := none })

/-- At RUN every FILED, unheld story that is not overdue is scheduled at its own count (R54). -/
def State.nudgeResume (s : State) : State :=
  { s with
    stories := Table.update none
      (fun o => o.map (fun st =>
        if st.waits ∧ st.overdue = false then { st with nudgeDue := some (s.nudgeDueFor st) } else st))
      (Table.keys s.stories) s.stories }

/-- On entering LOADING every pending due time is cleared, with counts and marks kept (R54, R187). -/
def State.nudgeStop (s : State) : State :=
  { s with
    stories := Table.update none (fun o => o.map (fun st => { st with nudgeDue := none }))
      (Table.keys s.stories) s.stories }

/-! ### What the directory tells (R13 to R16) -/

/-- The terminal whose own request caused a change; it is told by its DONE or its answer (R14). -/
def CopyCause.requester : CopyCause → Option Nat
  | .terminal t => some t
  | .order => none
  | .darkness => none
  | .nudge => none

/-- The kinds of change that go to watchers (R13). -/
def Change.toldToWatchers : Change → Bool
  | .announced => false
  | .overdue => false
  | _ => true

/-- The configured terminals that watch story `n` (R14). -/
def State.watchers (s : State) (n : Nat) : List Nat :=
  s.terminalsWith (fun r => r.configured && r.watches.contains n)

/-- The WATCH attentions of a change: one to each watcher but the requester, with the desk and revision
as they stand after the change (R14, R119). -/
def State.tellWatchers (s : State) (k : Change) (n : Nat) (cause : CopyCause) : State :=
  if k.toldToWatchers then
    s.attendAll ((s.watchers n).filter (fun t => some t != cause.requester))
      (.watch k n (s.story n).desk (s.story n).revision)
  else s

/-- The COPY EVENT of a change, as the story stands after it; PURGED carries the slug and OVERDUE the
count (R16, R52, R198). -/
def State.copyEventOf (s : State) (k : Change) (n : Nat) (cause : CopyCause) : Notice :=
  let st := s.story n
  .copyEvent k n st.state st.desk st.revision cause
    (if k = .gone then st.slug else []) (if k = .overdue then some st.nudgeCount else none)

/-- A change is told to the story's watchers and to the store processor (R13). -/
def State.tellChange (s : State) (k : Change) (n : Nat) (cause : CopyCause) : State :=
  let told := s.tellWatchers k n cause
  told.offer (told.copyEventOf k n cause)

/-! ### Changes of a story -/

/-- Story `n` arrives FILED and unheld at desk `d`: it joins the tier `flash` names, its desk, flash,
state and holder are written, and its reminders start afresh (R3, R25, R47). -/
def State.fileAt (s : State) (n d : Nat) (flash : Bool) : State :=
  ((s.joinBasket d n flash).modStory n (fun st =>
    { st with desk := d, flash := flash, state := .filed, holder := none })).nudgeArrive n

/-- Story `n` is released FILED in place (R18, R41): its place, desk and flash stay. -/
def State.releaseInPlace (s : State) (n : Nat) : State :=
  (s.modStory n (fun st => { st with state := .filed, holder := none })).nudgeRelease n

/-- Story `n` joins the end of terminal `t`'s hold list (R34). -/
def State.addHold (s : State) (t n : Nat) : State :=
  s.putTerminal t { s.terminal t with holds := (s.terminal t).holds ++ [n] }

/-- Story `n` leaves terminal `t`'s hold list (R4). -/
def State.dropHold (s : State) (t n : Nat) : State :=
  s.putTerminal t
    { s.terminal t with holds := (s.terminal t).holds.filter (fun m => !(m == n)) }

/-- A story is pushed onto a view stack of up to 8 entries, its top first (R113). -/
def pushView (views : List Nat) (n : Nat) : List Nat :=
  if views.head? = some n then views else n :: views.take 7

/-- Story `n` is pushed onto terminal `t`'s view stack (R113). -/
def State.pushView (s : State) (t n : Nat) : State :=
  s.putTerminal t
    { s.terminal t with views := Sys2Proof.Machine.pushView (s.terminal t).views n }

/-- The TEXT WANTED notice for story `n` on terminal `t` (R112). -/
def State.textWanted (s : State) (t n : Nat) (cause : RequestKind) : State :=
  s.offer (.textWanted t n (s.story n).revision cause)

end Sys2Proof.Machine
end

