-- ==== Sys2Proof/Machine/Lines.lean ====
section
/-! DEFINITION. What the terminal table and the line controllers do inside a handling: liveness (R89 to R91),
the line turn (R83, R94 to R96), and the taking of an answer (R84 to R87). -/

namespace Sys2Proof.Machine

/-! ### REFRESH WANTED (R91, R111) -/

/-- A cause of REFRESH WANTED: the notice takes a free entry, or the mark is set with its reason; while
the mark is set no further notice is offered (R111). -/
def State.wantRefresh (s : State) (t : Nat) (reason : RefreshReason) : State :=
  let r := s.terminal t
  if r.refreshOwed.isSome then s
  else if 0 < s.noticeFree then s.offer (.refreshWanted t reason)
  else s.putTerminal t { r with refreshOwed := some reason }

/-- An owed REFRESH WANTED is offered again, with the reason that set the mark (R91, R111). -/
def State.reofferRefresh (s : State) (t : Nat) : State :=
  match (s.terminal t).refreshOwed with
  | none => s
  | some reason =>
    if 0 < s.noticeFree then
      (s.offer (.refreshWanted t reason)).putTerminal t { s.terminal t with refreshOwed := none }
    else s

/-! ### Liveness (R89 to R91) -/

/-- A terminal record on entering DARK, but for its holds and frames (R90). -/
def Terminal.darkened (r : Terminal) : Terminal :=
  { r with
    liveness := .dark, wasDark := true, refreshOwed := none, wakeCount := 0, views := [],
    watches := [], attentions := [] }

/-- Story `n`, held by terminal `t`, is released FILED in place and the change told (R18, R20, R41). -/
def State.releaseHeld (cause : CopyCause) (t : Nat) (s : State) (n : Nat) : State :=
  ((s.releaseInPlace n).dropHold t n).tellChange .released n cause

/-- A terminal enters DARK (R90). -/
def State.goDark (s : State) (t : Nat) : State :=
  let r := s.terminal t
  let released := r.holds.foldl (State.releaseHeld .darkness t) (s.putTerminal t r.darkened)
  (released.discardFrames t (fun _ => true)).offer
    (.terminalEvent t false r.desk r.role r.holds.length)

/-- A miss is counted against a terminal, which falls to `fallback` or goes DARK (R89). -/
def State.countMiss (s : State) (t : Nat) (r : Terminal) (fallback : Liveness) : State :=
  if (s.line (lineOf t)).darkLimit ≤ r.missCount then (s.putTerminal t r).goDark t
  else s.putTerminal t { r with liveness := fallback }

/-- A miss applied to a terminal (R86, R89). -/
def State.miss (s : State) (t : Nat) : State :=
  let r := s.terminal t
  match r.liveness with
  | .absent => s
  | .waking => s.countMiss t { r with missCount := r.missCount + 1, wakeCount := 0 } .waking
  | .live => s.countMiss t { r with missCount := 1 } .faint
  | .faint => s.countMiss t { r with missCount := r.missCount + 1 } .faint
  | .dark => s

/-- What follows a return from darkness: the TERMINAL EVENT, RECONNECTED, and the mark cleared (R91). -/
def State.reconnect (s : State) (t : Nat) : State :=
  let r := s.terminal t
  if r.wasDark then
    let told := (s.offer (.terminalEvent t true r.desk r.role 0)).attend t .reconnected
    told.putTerminal t { told.terminal t with wasDark := false }
  else s

/-- A terminal reaches LIVE from WAKING, or from DARK by one answer; its REFRESH WANTED is not offered while
an earlier one is owed (R91, R111). -/
def State.goLive (s : State) (t : Nat) : State :=
  ((s.putTerminal t { s.terminal t with liveness := .live }).wantRefresh t .live).reconnect t

/-- An answer is counted for a WAKING or DARK terminal, which reaches LIVE or stands WAKING (R89). -/
def State.countAnswer (s : State) (t : Nat) (r : Terminal) : State :=
  if (s.line (lineOf t)).wakeNeeded ≤ r.wakeCount then (s.putTerminal t r).goLive t
  else s.putTerminal t { r with liveness := .waking }

/-- The liveness update of an answer. One taken from a LIVE terminal offers the REFRESH WANTED it is owed
again; a FAINT terminal returns to LIVE with no notice (R89, R91, R111, log 17). That it is offered here,
and so before what the answer carries, is a DESIGN CHOICE (log 32). -/
def State.answerLiveness (s : State) (t : Nat) : State :=
  let r := s.terminal t
  match r.liveness with
  | .absent => s
  | .waking => s.countAnswer t { r with missCount := 0, wakeCount := r.wakeCount + 1 }
  | .live => (s.putTerminal t { r with missCount := 0 }).reofferRefresh t
  | .faint => s.putTerminal t { r with missCount := 0, liveness := .live }
  | .dark => s.countAnswer t { r with missCount := 0, wakeCount := 1 }

/-! ### The line turn (R83, R94 to R96) -/

/-- The drops in ascending order after `last`, wrapping, with `last` itself at the end (R95). -/
def dropOrder (last : Nat) : List Nat := List.range' (last + 1) (23 - last) ++ List.range (last + 1)

/-- The drops of a line with pending output, in the arbiter's order (R93, R95). -/
def State.pendingDrops (s : State) (l : LineId) : List Nat :=
  (dropOrder (s.line l).lastOutput).filter (fun d =>
    (s.terminal (terminalOf l d)).configured && (s.terminal (terminalOf l d)).pendingOutput)

/-- The drops of tier 1: those with pending output whose terminal's desk is in surge (R95). -/
def State.surgeDrops (s : State) (l : LineId) : List Nat :=
  (s.pendingDrops l).filter (fun d => s.inSurge (s.terminal (terminalOf l d)).desk)

/-- The drop an output turn serves: the first of tier 1, or else of tier 2 (R95). -/
def State.outputDrop (s : State) (l : LineId) : Option Nat :=
  match s.surgeDrops l with
  | d :: _ => some d
  | [] => (s.pendingDrops l).head?

/-- The frame an output turn takes from a terminal's record, with what is left (R96). -/
def Terminal.nextOutput (r : Terminal) : Option (LineFrame × Terminal) :=
  match r.attentions, r.outbound with
  | a :: rest, _ => some (.attention a, { r with attentions := rest })
  | [], f :: rest => some (.frame f, { r with outbound := rest })
  | [], [] => none

/-- An output frame to drop `d` begins (R94, R95, R96). -/
def State.beginOutput (s : State) (l : LineId) (d : Nat) : State :=
  let t := terminalOf l d
  match (s.terminal t).nextOutput with
  | none => s
  | some (what, r) =>
    (s.putTerminal t r).putLine l
      { s.line l with
        outputCount := (s.line l).outputCount + 1, lastOutput := d, activity := .output t what }

/-- The lowest eligible drop from `start` on, in cycle `cycle` (R83). -/
def State.eligibleDrop (s : State) (l : LineId) (cycle start : Nat) : Option Nat :=
  lowestFrom (fun d => (s.terminal (terminalOf l d)).eligible cycle) (24 - start) start

/-- A poll of drop `d` begins; the output count is 0 from then (R83, R84, log 21). -/
def State.beginPoll (s : State) (l : LineId) (cycle d : Nat) : State :=
  s.putLine l
    { s.line l with
      position := some d, cycle := cycle, outputCount := 0, activity := .sendingPoll d }

/-- The first poll or idle wait of a cycle (R83, R85, R100). -/
def State.beginCycle (s : State) (l : LineId) (cycle : Nat) : State :=
  match s.eligibleDrop l cycle 0 with
  | some d => s.beginPoll l cycle d
  | none =>
    s.putLine l
      { s.line l with
        position := none, cycle := cycle, activity := .idleWait (s.now + (s.line l).window) }

/-- The first drop above the poll position (R83). -/
def Line.nextStart (x : Line) : Nat :=
  match x.position with
  | none => 0
  | some p => p + 1

/-- A turn that polls, or waits idle (R83). -/
def State.pollTurn (s : State) (l : LineId) : State :=
  let x := s.line l
  match s.eligibleDrop l x.cycle x.nextStart with
  | some d => s.beginPoll l x.cycle d
  | none => s.beginCycle l ((x.cycle + 1) % 8)

/-- The line turn (R94). -/
def State.lineTurn (s : State) (l : LineId) : State :=
  if (s.line l).outputCount < (s.line l).allowance then
    match s.outputDrop l with
    | some d => s.beginOutput l d
    | none => s.pollTurn l
  else s.pollTurn l

/-! ### Answers (R84 to R87, R199) -/

/-- An answer is applied to its terminal: the liveness update, then the content if the terminal was not
DARK and is LIVE now; an ABSENT terminal's answer is discarded (R86, R87). -/
def State.applyAnswer (s : State) (t : Nat) (content : State → State) : State :=
  let before := (s.terminal t).liveness
  let updated := s.answerLiveness t
  if before ≠ .absent ∧ before ≠ .dark ∧ (updated.terminal t).liveness = .live then content updated
  else updated

/-- A frame with a good check, of `size` body bytes from drop `drop`, arrives on a line. In an exchange
whose window runs, one that is too large is a miss of the polled terminal, one from the polled drop is
its answer, and one from another drop is discarded; the end of the exchange is a line turn. Outside
an exchange it is discarded (R84, R85, R199). -/
def State.takeAnswer (s : State) (l : LineId) (drop size : Nat) (content : State → State) : State :=
  match (s.line l).activity with
  | .awaiting polled _ _ =>
    if Config.answerLimit < size then (s.miss (terminalOf l polled)).lineTurn l
    else if drop = polled then (s.applyAnswer (terminalOf l drop) content).lineTurn l
    else s
  | .sendingPoll _ => s
  | .output _ _ => s
  | .idleWait _ => s

/-- A request that the part refuses: a REFUSED attention to its terminal and nothing else (R29, R88). -/
def State.refuseRequest (s : State) (t : Nat) (request : RequestKind) (code : Code)
    (story desk : Option Nat) : State :=
  s.attend t (.refused request code story desk)

/-- A taken request's DONE attention, with the story's desk and revision as they stand (R120, R121). -/
def State.done (s : State) (t : Nat) (request : RequestKind) (n : Nat) (setMark : Bool) : State :=
  s.attend t (.done request n (s.story n).desk (s.story n).revision setMark)

end Sys2Proof.Machine
end

