-- ==== Sys2Proof/Machine/PageUnit.lean ====
section
/-! DEFINITION. What the page unit does inside a handling: page records and report slots, sections and the
joins of the typesetter queue (R145, R146), the effects of changes to placed stories (R142 to R144),
and the seals of an edition (R130, R134, R135). -/

namespace Sys2Proof.Machine

/-! ### Page records, report slots and page events -/

/-- The PAGE EVENT of a page as it stands after its change (R150). -/
def pageEventOf (r : Nat) (p : Page) (cause : PageCause) : Notice :=
  .pageEvent r p.edition p.number (some p.state) p.tier p.broken p.stalePending p.replates cause

/-- The PAGE EVENT of a record that has been freed: state FREE. The spec does not say which tier, marks and
replate count it carries; the model sends those the page last had (R150, DESIGN CHOICE, log 31). -/
def pageFreedEvent (r : Nat) (p : Page) (cause : PageCause) : Notice :=
  .pageEvent r p.edition p.number none p.tier p.broken p.stalePending p.replates cause

/-- The report slot of page `number` is written (R149). -/
def State.writeSlot (s : State) (e number : Nat) (slot : Slot) : State :=
  s.putEdition e { s.edition e with slots := (s.edition e).slots.set (number - 1) slot }

/-- A page record is written, and its report slot with it (R149). -/
def State.writePage (s : State) (r : Nat) (p : Page) : State :=
  (s.putPage r (some p)).writeSlot p.edition p.number { code := p.state.slot, replates := p.replates }

/-- A page changes, its slot is written and its PAGE EVENT offered (R149, R150). -/
def State.movePage (s : State) (r : Nat) (p : Page) (cause : PageCause) : State :=
  (s.writePage r p).offer (pageEventOf r p cause)

/-- The record of page `number` of edition `e`, if one has been made. -/
def State.recordOf (s : State) (e number : Nat) : Option Nat :=
  (s.pages.find? (fun x =>
    match x.2 with
    | some p => p.edition == e && p.number == number
    | none => false)).map Prod.fst

/-- The records of edition `e`'s pages for which `q` holds, in ascending record order. -/
def State.recordsWith (s : State) (e : Nat) (q : Page → Bool) : List Nat :=
  Table.keys (s.pages.filter (fun x =>
    match x.2 with
    | some p => p.edition == e && q p
    | none => false))

/-! ### The typesetter queue (R155) -/

/-- A page is appended to the tail of its tier. -/
def Typesetter.append (x : Typesetter) (tier : Tier) (r : Nat) : Typesetter :=
  match tier with
  | .first => { x with firstTier := x.firstTier ++ [r] }
  | .replate => { x with replateTier := x.replateTier ++ [r] }

/-- A page is put back at the head of its tier. -/
def Typesetter.putBack (x : Typesetter) (tier : Tier) (r : Nat) : Typesetter :=
  match tier with
  | .first => { x with firstTier := r :: x.firstTier }
  | .replate => { x with replateTier := r :: x.replateTier }

/-- A page is removed from wherever it stands, and the pages behind it close up. -/
def Typesetter.remove (x : Typesetter) (r : Nat) : Typesetter :=
  { x with
    replateTier := x.replateTier.filter (fun q => !(q == r)),
    firstTier := x.firstTier.filter (fun q => !(q == r)) }

/-- The head of the REPLATE tier, or of the FIRST tier when that is empty (R156). -/
def Typesetter.head (x : Typesetter) : Option Nat :=
  match x.replateTier with
  | r :: _ => some r
  | [] => x.firstTier.head?

/-- A page leaves the typesetter queue. -/
def State.dequeue (s : State) (r : Nat) : State := s.putTypesetter (s.typesetter.remove r)

/-! ### Sections (R128) -/

/-- The section of page `number` for section size `size` (R128). -/
def sectionOf (size number : Nat) : Nat := (number - 1) / size

/-- The page numbers of section `k` (R128). -/
def Edition.sectionPages (x : Edition) (k : Nat) : List Nat :=
  List.range' (k * x.size + 1) (Nat.min ((k + 1) * x.size) x.planned - k * x.size)

/-- The number of sections of an edition (R128). -/
def Edition.sectionCount (x : Edition) : Nat := (x.planned + x.size - 1) / x.size

/-- The records made for section `k` of edition `e`, in page order. -/
def State.sectionRecords (s : State) (e k : Nat) : List Nat :=
  ((s.edition e).sectionPages k).filterMap (s.recordOf e)

/-- The section of a page. -/
def State.pageSection (s : State) (p : Page) : Nat := sectionOf (s.edition p.edition).size p.number

/-- A page is taken back from the queue to READY with cause WITHDRAWN (R146, R167). -/
def State.withdraw (s : State) (r : Nat) : State :=
  (s.dequeue r).movePage r { s.page r with state := .ready } .withdrawn

/-- Section withdrawal: page `r` has become ARMED, and the QUEUED FIRST-tier pages of its section, other
than itself, leave the queue and become READY (R146). The spec gives no order for several of them; the
model takes them in page-number order (DESIGN CHOICE, log 30). -/
def State.withdrawSection (s : State) (r : Nat) : State :=
  let p := s.page r
  let others := (s.sectionRecords p.edition (s.pageSection p)).filter (fun q =>
    !(q == r) && (s.page q).state == .queued && (s.page q).tier == .first)
  others.foldl State.withdraw s

/-! ### The joins (R145) -/

/-- A READY page joins the tail of its tier and becomes QUEUED, with cause JOIN (R145). -/
def State.joinPage (s : State) (r : Nat) : State :=
  let p := s.page r
  (s.putTypesetter (s.typesetter.append p.tier r)).movePage r { p with state := .queued } .join

/-- The waiting replates in ascending order of edition and page number (R145). -/
def State.waitingReplates (s : State) : List Nat :=
  (List.range' 1 8).flatMap (fun e =>
    ((List.range' 1 (s.edition e).planned).filterMap (s.recordOf e)).filter (fun r =>
      (s.page r).tier == .replate && (s.page r).state == .ready))

/-- The FIRST-tier READY pages of a section, in page order (R145). -/
def State.sectionReady (s : State) (e k : Nat) : List Nat :=
  (s.sectionRecords e k).filter (fun r =>
    (s.page r).tier == .first && (s.page r).state == .ready)

/-- A section is eligible (R145). -/
def State.eligibleSection (s : State) (e k : Nat) : Bool :=
  let x := s.edition e
  (x.state == .running || (x.state == .closed && !x.sealPending && decide (0 < x.counter))) &&
    (x.sectionPages k).all (fun number =>
      match s.recordOf e number with
      | some r =>
        (s.page r).state == .ready || (s.page r).state == .sent || (s.page r).state == .stale
      | none => false) &&
    !(s.sectionReady e k).isEmpty

/-- A section of a CLOSED edition spends 1 from the counter as it joins (R133, R145). -/
def State.spendJoin (s : State) (e : Nat) : State :=
  let x := s.edition e
  if x.state = .closed then s.putEdition e { x with counter := x.counter - 1 } else s

/-- The waiting replates join one by one, each needing a free entry; the answer's second part says that
none was stopped (R145). -/
def joinReplates : List Nat → State → State × Bool
  | [], s => (s, true)
  | r :: rest, s =>
    if 1 ≤ s.typesetter.free then joinReplates rest (s.joinPage r) else (s, false)

/-- The eligible sections join one by one, each needing an entry for each of its FIRST-tier READY pages;
the first that finds too few stops the evaluation (R145). The automatic seal test that the spending
of a counter calls for (R134) cannot find its conditions, since the section's pages are QUEUED. -/
def joinSections : List (Nat × Nat) → State → State
  | [], s => s
  | (e, k) :: rest, s =>
    if s.eligibleSection e k then
      if (s.sectionReady e k).length ≤ s.typesetter.free then
        joinSections rest ((s.sectionReady e k).foldl State.joinPage (s.spendJoin e))
      else s
    else joinSections rest s

/-- Every section of every edition, in ascending order of edition and section. -/
def State.allSections (s : State) : List (Nat × Nat) :=
  (List.range' 1 8).flatMap (fun e =>
    (List.range (s.edition e).sectionCount).map (fun k => (e, k)))

/-- An evaluation of the joins (R145). -/
def State.evaluateJoins (s : State) : State :=
  match joinReplates s.waitingReplates s with
  | (s', true) => joinSections s'.allSections s'
  | (s', false) => s'

/-! ### Lifting stories and freeing pages -/

/-- A story is lifted off its page: its page field is cleared and the change reported (R130, R138). -/
def State.liftStory (s : State) (n : Nat) : State :=
  (s.modStory n (fun st => { st with page := none })).tellChange .lifted n .order

/-- A page record is freed: its stories are lifted in list order, and its PAGE EVENT shows FREE
(R130, R138). The slot is the caller's business. -/
def State.freePage (s : State) (r : Nat) (cause : PageCause) : State :=
  let p := s.page r
  ((p.placement.foldl State.liftStory s).putPage r none).offer (pageFreedEvent r p cause)

/-! ### Seals (R130, R132, R134, R135) -/

/-- The EDITION REPORT of an edition as it stands (R150). -/
def State.editionReportOf (s : State) (e : Nat) (kind : EditionReportKind) : Notice :=
  let x := s.edition e
  .editionReport e kind x.planned x.size x.allowance x.counter x.slots

/-- Steps 1 and 2 of a seal, for every page of the edition but one that is SENDING: the QUEUED pages
leave the typesetter queue, and the records are freed in ascending order (R130, R132). -/
def State.sealPages (s : State) (e : Nat) : State :=
  let removed := (s.recordsWith e (fun p => p.state == .queued)).foldl State.dequeue s
  (s.recordsWith e (fun p => !(p.state == .sending))).foldl (fun acc r => acc.freePage r .seal) removed

/-- The seal of an edition (R130). -/
def State.seal (s : State) (e : Nat) : State :=
  let swept := s.sealPages e
  let reported := swept.offer (swept.editionReportOf e .sealed)
  reported.putEdition e { reported.edition e with state := .sealed, sealPending := false }

/-- The conditions of the automatic seal (R134). -/
def State.sealsItself (s : State) (e : Nat) : Bool :=
  let x := s.edition e
  x.state == .closed && !x.sealPending && x.counter == 0 &&
    (s.recordsWith e (fun p => p.state == .queued || p.state == .sending ||
      (p.tier == .replate && (p.state == .armed || p.state == .ready)))).isEmpty

/-- The automatic seal test (R134). -/
def State.sealTest (s : State) (e : Nat) : State := if s.sealsItself e then s.seal e else s

/-- The complete-report test (R149). -/
def State.completeTest (s : State) (e : Nat) : State :=
  let x := s.edition e
  if (x.state = .running ∨ x.state = .closed) ∧ x.completeReported = false ∧
      x.slots.all (fun slot => slot.code == .sent) = true then
    let marked := s.putEdition e { x with completeReported := true }
    marked.offer (marked.editionReportOf e .complete)
  else s

/-- What follows the end of a send, by completion or abandon: the complete-report test, the end of a
pending seal or the automatic seal test, and an evaluation of the joins (R148). -/
def State.afterSend (s : State) (e : Nat) : State :=
  let tested := s.completeTest e
  let sealed := if (tested.edition e).sealPending then tested.seal e else tested.sealTest e
  sealed.evaluateJoins

/-! ### What the directory tells the page unit (R15) -/

/-- Story `n` has become SET: an ARMED page whose stories are all SET now becomes READY with cause GATE,
and the joins are evaluated (R142). -/
def State.storySet (s : State) (n : Nat) : State :=
  match (s.story n).page with
  | none => s
  | some r =>
    let p := s.page r
    if p.state = .armed ∧ s.allSet p.placement = true then
      (s.movePage r { p with state := .ready } .gate).evaluateJoins
    else s

/-- Story `n` has left SET by a PULL (R143). A page that was QUEUED leaves the typesetter queue; the seal
test and the joins follow, since pages have left QUEUED (R134, R145), in that order (DESIGN CHOICE,
log 33). -/
def State.storyPulled (s : State) (n : Nat) : State :=
  match (s.story n).page with
  | none => s
  | some r =>
    let p := s.page r
    match p.state with
    | .ready =>
      (((s.movePage r { p with state := .armed } .story).withdrawSection r).sealTest
        p.edition).evaluateJoins
    | .queued =>
      ((((s.dequeue r).movePage r { p with state := .armed } .story).withdrawSection r).sealTest
        p.edition).evaluateJoins
    | .sent => (s.movePage r { p with state := .stale } .story).evaluateJoins
    | .opened => s
    | .armed => s
    | .sending => s
    | .stale => s

/-- Story `n`'s revision has changed by a REVISE (R144). -/
def State.storyRevised (s : State) (n : Nat) : State :=
  match (s.story n).page with
  | none => s
  | some r =>
    let p := s.page r
    match p.state with
    | .sending => s.movePage r { p with stalePending := true } .story
    | .sent => (s.movePage r { p with state := .stale } .story).evaluateJoins
    | .opened => s
    | .armed => s
    | .ready => s
    | .queued => s
    | .stale => s

end Sys2Proof.Machine
end

