-- ==== Sys2Proof/Machine/SendUnit.lean ====
section
/-! DEFINITION. What the typesetter unit does inside a handling: calls for page data (R159), the start of a
send (R156), blocks on the typesetter line and their waits (R163, R166), the completion of a send (R165)
and its abandon (R167). -/

namespace Sys2Proof.Machine

/-! ### The send record -/

/-- The send record as a send starts (R156, R158). -/
def Send.initial (r : Nat) : Send :=
  { page := r, expected := 0, call := .none, finalAccepted := false, buffer := [],
    nextSequence := 0, endBlockSent := false, dataTimer := none, blocksBegun := 0 }

/-- The send record is written. -/
def State.putSend (s : State) (x : Send) : State :=
  s.putTypesetter { s.typesetter with send := some x }

/-- A TYPESETTER EVENT about the page SENDING, or about none, as the send stands (R170, R198). -/
def State.typesetterEventOf (s : State) (kind : TypesetterEventKind) (cause : Option AbandonCause) :
    Notice :=
  match s.typesetter.send with
  | some x =>
    .typesetterEvent kind (some (x.page, (s.page x.page).edition, (s.page x.page).number)) cause
      x.expected x.blocksBegun
  | none => .typesetterEvent kind none cause 0 0

/-! ### Calls (R159, R161) -/

/-- The PAGE CALL of a send at its expected offset (R159). -/
def State.pageCallOf (s : State) (x : Send) : Notice :=
  .pageCall x.page (s.page x.page).edition (s.page x.page).number x.expected

/-- A call is offered: with a free entry it becomes OUTSTANDING and the data timer starts, and with none
it becomes OWED (R159, R161). -/
def State.offerCall (s : State) : State :=
  match s.typesetter.send with
  | none => s
  | some x =>
    if 0 < s.noticeFree then
      (s.offer (s.pageCallOf x)).putSend
        { x with call := .outstanding, dataTimer := some (s.after s.timing.stallTimeout) }
    else s.putSend { x with call := .owed }

/-- A call is made when one is due (R159). -/
def State.callDue (s : State) : State :=
  match s.typesetter.send with
  | none => s
  | some x =>
    if x.call = .none ∧ x.finalAccepted = false ∧ 16 ≤ x.freeGalley then s.offerCall else s

/-! ### The start of a send (R156) -/

/-- The conditions of a start for the page `r` at the head of the queue (R156). -/
def State.mayStart (s : State) (r : Nat) : Bool :=
  let x := s.typesetter
  x.mode != .hold && x.send.isNone && s.part == .running && !s.storeLost &&
    (match x.cancel with
     | none => true
     | some c => c.page == some r)

/-- A send starts (R156). -/
def State.startSend (s : State) (r : Nat) : State :=
  (((s.dequeue r).putSend (Send.initial r)).movePage r { s.page r with state := .sending }
    .typesetter).callDue

/-- The start test (R156). -/
def State.startTest (s : State) : State :=
  match s.typesetter.head with
  | none => s
  | some r => if s.mayStart r then s.startSend r else s

/-! ### Blocks on the line (R162, R163) -/

/-- The galley block the buffer offers, with the send record once it has begun: a full block, or the end
block (R162, R163). -/
def Send.nextBlock (x : Send) : Option (Block × Send) :=
  if 64 ≤ x.buffer.length then
    some (.galley x.page x.nextSequence (x.buffer.take 64) false,
      { x with
        buffer := x.buffer.drop 64,
        nextSequence := (x.nextSequence + 1) % 256,
        blocksBegun := x.blocksBegun + 1 })
  else if x.finalAccepted ∧ x.endBlockSent = false then
    some (.galley x.page x.nextSequence x.buffer true,
      { x with
        buffer := [],
        nextSequence := (x.nextSequence + 1) % 256,
        blocksBegun := x.blocksBegun + 1 })
  else none

/-- Whether a block is ready (R163). -/
def Typesetter.blockReady (x : Typesetter) : Bool :=
  x.cancel.isSome || (x.send.bind Send.nextBlock).isSome

/-- A block begins: a stalled mark is cleared and STALL_CLEARED offered (R166). -/
def State.clearStall (s : State) : State :=
  if s.typesetter.stalled then
    let cleared := s.putTypesetter { s.typesetter with stalled := false }
    cleared.offer (cleared.typesetterEventOf .stallCleared none)
  else s

/-- The wait for TSRDY is over (R166). -/
def Typesetter.endWait (x : Typesetter) : Typesetter := { x with waiting := false, waitTimer := none }

/-- The ready block begins (R163): the CANCEL block first, with the start test its beginning calls for
(R156), or else the galley block, with the call its freed room makes due (R159, R162). -/
def State.beginBlock (s : State) : State :=
  let x := s.typesetter
  match x.cancel with
  | some c =>
    ((s.putTypesetter
      { x.endWait with cancel := none, block := some (.cancel c) }).clearStall).startTest
  | none =>
    match x.send.bind Send.nextBlock with
    | some (b, sent) =>
      ((s.putTypesetter { x.endWait with send := some sent, block := some b }).clearStall).callDue
    | none => s

/-- An asserted TSRDY is judged afresh when a block is to begin: on a free line, with a block ready. It may
have fallen since the part was last told of it (R163, R202, log 4). -/
def State.judgeReady (s : State) : State :=
  if s.typesetter.block.isSome || !s.typesetter.blockReady || !s.tsrdy.asserted then s
  else
    match s.tsrdy.falls with
    | [] => s
    | fell :: rest => { s with tsrdy := { asserted := !fell, falls := rest } }

/-- The typesetter line goes on with TSRDY as it stands: a ready block begins, or its wait for TSRDY begins
or goes on, or there is nothing to wait for (R163, R166). -/
def State.tsProceed (s : State) : State :=
  let x := s.typesetter
  if x.block.isSome || !x.blockReady then s.putTypesetter x.endWait
  else if s.tsrdy.asserted then s.beginBlock
  else if x.waiting then s
  else
    s.putTypesetter
      { x with waiting := true, waitTimer := some (s.after s.timing.stallTimeout) }

/-- The typesetter line is looked at in a handling that may have made a block ready: TSRDY is judged if one is
to begin, and the line goes on (R163, R166). -/
def State.tsLine (s : State) : State := s.judgeReady.tsProceed

/-! ### The end of a send (R165, R167) -/

/-- A page that completes: SENT or STALE, its marks cleared, a replate counted (R148). -/
def Page.completed (p : Page) : Page :=
  { p with
    state := if p.stalePending then .stale else .sent,
    broken := false,
    stalePending := false,
    replates := if p.tier = .replate then Nat.min (p.replates + 1) 15 else p.replates }

/-- STEP turns to HOLD (R157). -/
def OutputMode.afterCompletion : OutputMode → OutputMode
  | .step => .hold
  | .hold => .hold
  | .run => .run

/-- The completion of a send (R165). -/
def State.completeSend (s : State) : State :=
  match s.typesetter.send with
  | none => s
  | some x =>
    let p := s.page x.page
    let told := ((s.putTypesetter { s.typesetter with send := none }).movePage x.page p.completed
      .typesetter).afterSend p.edition
    (told.putTypesetter
      { told.typesetter with mode := told.typesetter.mode.afterCompletion }).startTest

/-- A block of an abandoned page is sent to its end, and completes nothing (R167). -/
def Block.cutLoose : Block → Block
  | .galley p q data _ => .galley p q data false
  | .cancel c => .cancel c

/-- A page of the section of page `p` is OPEN or ARMED (R167). -/
def State.sectionUnready (s : State) (p : Page) : Bool :=
  (s.sectionRecords p.edition (s.pageSection p)).any (fun q =>
    (s.page q).state == .opened || (s.page q).state == .armed)

/-- Steps 1 and 2 of an abandon, with the page put back at the head of its tier: the send record goes, and
the CANCEL block is pending with the page and its next sequence (R167). -/
def State.cutSend (s : State) (x : Send) : State :=
  s.putTypesetter
    { s.typesetter.putBack (s.page x.page).tier x.page with
      send := none,
      cancel := some { page := some x.page, sequence := x.nextSequence },
      block := s.typesetter.block.map Block.cutLoose }

/-- A page that an abandon returns to the queue: broken, with no stale-pending mark (R148). -/
def Page.returned (p : Page) : Page :=
  { p with state := .queued, broken := true, stalePending := false }

/-- Steps 3 and 4 of an abandon: the page is QUEUED again, and READY if its section is not whole (R167). -/
def State.returnPage (s : State) (r : Nat) : State :=
  let p := s.page r
  let back := s.movePage r p.returned .typesetter
  if p.tier = .first ∧ back.sectionUnready p = true then back.withdraw r else back

/-- Steps 1 to 5 of an abandon (R167); the notices of a restart's abandon join a queue that the restart
empties (R191, log 18). -/
def State.abandonSend (s : State) (cause : AbandonCause) : State :=
  match s.typesetter.send with
  | none => s
  | some x =>
    let kept := (s.cutSend x).returnPage x.page
    if cause = .restart then kept else kept.offer (s.typesetterEventOf .abandoned (some cause))

/-- A send is abandoned while the part runs on: its seven steps, the CANCEL block beginning at once where
the line and TSRDY allow it (R163, R167, log 15). -/
def State.abandon (s : State) (cause : AbandonCause) : State :=
  match s.typesetter.send with
  | none => s
  | some x =>
    (((s.abandonSend cause).afterSend (s.page x.page).edition).tsLine).startTest

end Sys2Proof.Machine
end

