-- ==== Sys2Proof/Machine/Restart.lean ====
section
/-! DEFINITION. A restart, in the handling of which each block returns to the state its chapter gives for the
cause (R190, R191, and R19, R20, R26, R74, R75, R98 to R100, R122, R152, R153, R171, R172). -/

namespace Sys2Proof.Machine

/-! ### What a warm restart does in each block -/

/-- A story after a warm restart: FILED in place if it was HELD, and no reminder pending (R20). -/
def Story.afterWarm (st : Story) : Story :=
  { st with
    state := if st.state = .held then .filed else st.state, holder := none, nudgeDue := none }

/-- A terminal after a warm restart: WAKING with its desk and role alone if it is configured, and still
ABSENT if it is not (R99, R122). -/
def Terminal.afterWarm (r : Terminal) : Terminal :=
  if r.configured then
    { Terminal.initial with configured := true, desk := r.desk, role := r.role, liveness := .waking }
  else Terminal.initial

/-- A desk's pressure state after a warm restart (R75). -/
def Pressure.afterWarm (inUse : Bool) (p : Pressure) : Pressure :=
  { p with surge := .calm, count := 0, reseedPending := p.reseedPending || inUse }

/-- A line whose cycles begin afresh, with its settings kept (R99). -/
def Line.afresh (x : Line) : Line :=
  { x with position := none, cycle := 0, outputCount := 0, lastOutput := 23 }

/-- The typesetter unit after a restart, with its queue: HOLD, one CANCEL block pending, and nothing in
hand (R171). -/
def Typesetter.afterRestart (x : Typesetter) (c : Cancel) : Typesetter :=
  { x with
    mode := .hold, send := none, cancel := some c, stalled := false, waiting := false,
    waitTimer := none, block := none }

/-- The CANCEL block of a warm restart: the abandoned page's, or none and sequence 0 (R163, R172). -/
def Typesetter.restartCancel (x : Typesetter) : Cancel :=
  match x.send with
  | some send => { page := some send.page, sequence := send.nextSequence }
  | none => { page := none, sequence := 0 }

/-! ### The two kinds of restart -/

/-- The four lines. -/
def allLines : List LineId := [.a, .b, .c, .d]

/-- What every restart does at the store link interface, and its RESTARTED notice (R191). -/
def State.relink (s : State) (cause : RestartCause) : State :=
  ({ s with
    framer := .hunt, part := .loading, storeLost := false, cause := cause, unacknowledged := true,
    reportsDropped := false, queue := [], sending := none, restartPending := none,
    silenceTimer := some (s.after s.timing.silenceTimeout), reporting := Reporting.initial,
    streamPeriod := 0, countdown := none, sampleTimer := none } : State).offer (.restarted cause)

/-- The first turn of each line after a restart, and the wait of its CANCEL block (R100, R166). -/
def State.restartLines (s : State) : State :=
  (allLines.foldl (fun acc l => acc.beginCycle l 0) s).tsLine

/-- A cold reset or a full restart: every block at its reset values; what stands outside the part, the
clock, the pins and the waiting commands, goes on (R191, log 22). -/
def State.coldRestart (s : State) (cause : RestartCause) : State :=
  (({ State.reset with
      pending := s.pending, now := s.now, skrx := s.skrx, lnrx := s.lnrx, tsrdy := s.tsrdy,
      typesetter := Typesetter.initial.afterRestart { page := none, sequence := 0 } } :
    State).relink cause).restartLines

/-- The changes a warm restart makes in every block but the store link interface (R20, R75, R99, R122,
R171, R172). -/
def State.warmBlocks (s : State) : State :=
  let a := s.abandonSend .restart
  { a with
    stories := Table.update none (fun o => o.map Story.afterWarm) (Table.keys a.stories) a.stories,
    pressures := (List.range 16).foldl
      (fun acc d => Table.put Pressure.initial acc d
        ((Table.get Pressure.initial acc d).afterWarm (a.desk d).inUse)) a.pressures,
    lines := { a := a.lines.a.afresh, b := a.lines.b.afresh, c := a.lines.c.afresh,
               d := a.lines.d.afresh },
    terminals := Table.update Terminal.initial Terminal.afterWarm (Table.keys a.terminals)
      a.terminals,
    freeBlocks := Config.frameBlocks,
    typesetter := a.typesetter.afterRestart s.typesetter.restartCancel }

/-- A warm restart. What follows the abandon of a page, a pending seal among it, comes after RESTARTED
(R148, R153, R191, log 18). -/
def State.warmRestart (s : State) : State :=
  let linked := s.warmBlocks.relink .warmOrder
  let sealed :=
    match s.typesetter.send with
    | some x => linked.afterSend (s.page x.page).edition
    | none => linked
  sealed.restartLines

/-- An ordered restart is taken (R190). -/
def State.orderedRestart (s : State) : RestartKind → State
  | .full => s.coldRestart .fullOrder
  | .warm => s.warmRestart

end Sys2Proof.Machine
end

