-- ==== Sys2Proof/Machine/Frames.lean ====
section
/-! DEFINITION. The arrival of a frame on the store link and the judging of an order, shared by every order's
meaning (R176, R177, R188 to R190). -/

namespace Sys2Proof.Machine

/-- What the host runs: every meaning answers a next state. -/
abbrev Answer := Host.Outcome State Fault Refusal

/-- A refused order draws one REFUSED notice (R177). -/
def State.refuseOrder (s : State) (kind : Byte) (code : Code) (identifier : Option Nat) : State :=
  s.offer (.refused kind code identifier)

/-- A frame that fails reception draws a REFUSED notice and leaves the framer hunting (R176). -/
def State.failFrame (s : State) (kind : Byte) (code : Code) : State :=
  ({ s with framer := .hunt } : State).refuseOrder kind code none

/-- The end of store-lost, before the frame that ends it is judged (R189). -/
def State.endStoreLost (s : State) : State :=
  if s.storeLost then
    ((({ s with storeLost := false } : State).attendAll s.liveTerminals .storeBack)).startTest
  else s

/-- A valid frame restarts the store-silence timer and ends store-lost (R177, R188, R189). The timer is set by
the silence timeout held as the frame is handled, so a frame before a SET TIMING uses the old value, though
the last cell of R192's last row says the new one (DEDUCED, log 35). -/
def State.hearFrame (s : State) : State :=
  ({ s with framer := .hunt, silenceTimer := some (s.after s.timing.silenceTimeout) } :
    State).endStoreLost

/-- A frame with a good check arrives. One whose length exceeds 1,040 fails reception; a valid one is
judged, unless an ordered restart is held back, when it is discarded (R176, R177, R190). -/
def State.takeFrame (s : State) (kind : Byte) (body : List Byte) (judge : State → State) : State :=
  if Config.frameLimit < body.length then s.failFrame kind .framing
  else if s.restartPending.isSome then s.hearFrame
  else judge s.hearFrame

/-- The identifier of a LENGTH refusal, for an order whose rule names the thing in the first byte of its body:
that byte, where the body holds it, and else a free value (R177, R198, log 10). -/
def byteIdentifier (kind : Byte) (body : List Byte) : Option Nat :=
  match body with
  | b :: _ => some b.toNat
  | [] => Config.lengthIdentifier kind body

/-- The same for an order whose rule names the story in the first two bytes of its body. -/
def storyIdentifier (kind : Byte) (body : List Byte) : Option Nat :=
  match body with
  | hi :: lo :: _ => some (nat2 hi lo)
  | _ => Config.lengthIdentifier kind body

/-- An order whose body has not the length its layout gives is refused LENGTH (R177); `ident` is the
identifier its notice carries (logs 9 and 10). -/
def State.readBody {α : Type} (s : State) (kind : Byte) (ident : Option Nat) (fields : Option α)
    (judge : α → State) : State :=
  match fields with
  | none => s.refuseOrder kind .length ident
  | some x => judge x

/-- An order is refused at the first check it fails, and taken when it fails none. -/
def State.judge (s : State) (kind : Byte) (ident : Option Nat) (checks : List (Bool × Code))
    (taken : State) : State :=
  match firstRefusal checks with
  | some code => s.refuseOrder kind code ident
  | none => taken

end Sys2Proof.Machine
end

