-- ==== Sys2Proof/Machine/Copy.lean ====
section
/-! DEFINITION. The store processor's orders on stories: ANNOUNCE, REVISE, PURGE, MOVE and PULL (R7 to
R11). -/

namespace Sys2Proof.Machine

/-- The number of a story is outside its range or free: the checks most orders begin with. -/
def State.isFree (s : State) (n : Nat) : Bool := (s.story? n).isNone

/-- A placed story's page is SENDING (R10, R43). -/
def State.onSendingPage (s : State) (n : Nat) : Bool :=
  match (s.story n).page with
  | none => false
  | some r => (s.page r).state == .sending

/-! ### ANNOUNCE (R7) -/

/-- The checks of ANNOUNCE (R7). -/
def State.announceChecks (s : State) (desk cls : Nat) (slug : List Byte) : List (Bool × Code) :=
  [ (decide (15 < desk) || decide (31 < cls), .range),
    (slug.isEmpty, .length),
    (!(s.desk desk).inUse, .noRoute),
    (s.lowestFree.isNone, .full),
    (s.basketFull desk, .full) ]

/-- The record of a story as ANNOUNCE writes it (R6, R7). -/
def announcedStory (desk cls : Nat) (flash : Bool) (slug : List Byte) : Story :=
  { slug := slug.take 12, cls := cls, desk := desk, state := .filed, flash := flash, holder := none,
    revision := 0, page := none, nudgeCount := 0, nudgeDue := none, overdue := false }

/-- A story is created with number `n` (R7). -/
def State.createStory (s : State) (n desk cls : Nat) (flash : Bool) (slug : List Byte) : State :=
  (((s.putStory n (some (announcedStory desk cls flash slug))).joinBasket desk n flash).nudgeArrive
    n).tellChange .announced n .order

/-- A taken ANNOUNCE: the story takes the lowest free number (R5, R7). -/
def State.takeAnnounce (s : State) (desk cls : Nat) (flash : Bool) (slug : List Byte) : State :=
  match s.lowestFree with
  | none => s
  | some n => s.createStory n desk cls flash slug

/-- ANNOUNCE (R7). -/
def execAnnounce (body : List Byte) (s : State) : Answer :=
  .next (s.takeFrame Kind.announce body fun s =>
    s.readBody Kind.announce (byteIdentifier Kind.announce body) (readAnnounce body)
      fun x =>
      s.judge Kind.announce (some x.1) (s.announceChecks x.1 x.2.1 x.2.2.2)
        (s.takeAnnounce x.1 x.2.1 x.2.2.1 x.2.2.2))

/-! ### REVISE (R8) -/

/-- A story with its revision raised, and its slug replaced when one is carried (R8). -/
def Story.revised (st : Story) (slug : List Byte) : Story :=
  { st with
    revision := (st.revision + 1) % 256,
    slug := if slug.isEmpty then st.slug else slug.take 12 }

/-- A taken REVISE (R8, R15). A page that becomes STALE has the joins evaluated, and with them the start
test (R145, R156, log 27). -/
def State.takeRevise (s : State) (n : Nat) (slug : List Byte) : State :=
  ((((s.modStory n (fun st => st.revised slug)).tellChange .revised n .order).storyRevised
    n)).startTest

/-- REVISE (R8). -/
def execRevise (body : List Byte) (s : State) : Answer :=
  .next (s.takeFrame Kind.revise body fun s =>
    s.readBody Kind.revise (storyIdentifier Kind.revise body) (readRevise body) fun x =>
      s.judge Kind.revise (some x.1)
        [(decide (1023 < x.1), .range), (s.isFree x.1, .noStory)] (s.takeRevise x.1 x.2))

/-! ### PURGE (R11) -/

/-- The checks of PURGE (R11). -/
def State.purgeChecks (s : State) (n : Nat) : List (Bool × Code) :=
  [ (decide (1023 < n), .range),
    (s.isFree n, .noStory),
    ((s.story n).state == .held, .held),
    ((s.story n).page.isSome, .placed) ]

/-- A terminal's record without story `n` on its watch list and in its view stack (R11, R113). -/
def Terminal.forget (r : Terminal) (n : Nat) : Terminal :=
  { r with
    watches := r.watches.filter (fun m => !(m == n)),
    views := r.views.filter (fun m => !(m == n)) }

/-- Story `n` leaves every watch list and every view stack (R11). -/
def State.forgetStory (s : State) (n : Nat) : State :=
  { s with
    terminals := Table.update Terminal.initial (fun r => r.forget n) (Table.keys s.terminals)
      s.terminals }

/-- A taken PURGE (R11). -/
def State.takePurge (s : State) (n : Nat) : State :=
  let left := if (s.story n).state = .filed then s.leaveBasket (s.story n).desk n else s
  (((left.tellChange .gone n .order).forgetStory n)).putStory n none

/-- PURGE (R11). -/
def execPurge (body : List Byte) (s : State) : Answer :=
  .next (s.takeFrame Kind.purge body fun s =>
    s.readBody Kind.purge (storyIdentifier Kind.purge body) (readStory body) fun n =>
      s.judge Kind.purge (some n) (s.purgeChecks n) (s.takePurge n))

/-! ### MOVE (R9) -/

/-- The checks of MOVE (R9). -/
def State.moveChecks (s : State) (n d : Nat) : List (Bool × Code) :=
  [ (decide (1023 < n) || decide (15 < d), .range),
    (s.isFree n, .noStory),
    ((s.story n).state == .held, .held),
    ((s.story n).state == .set || (s.story n).state == .spiked, .state),
    (d == (s.story n).desk, .sameDesk),
    (!(s.desk d).inUse, .noRoute),
    (s.basketFull d, .full) ]

/-- A taken MOVE (R9). -/
def State.takeMove (s : State) (n d : Nat) (flash : Bool) : State :=
  ((s.leaveBasket (s.story n).desk n).fileAt n d flash).tellChange .moved n .order

/-- MOVE (R9). -/
def execMove (body : List Byte) (s : State) : Answer :=
  .next (s.takeFrame Kind.move body fun s =>
    s.readBody Kind.move (storyIdentifier Kind.move body) (readStoryDeskFlash body) fun x =>
      s.judge Kind.move (some x.1) (s.moveChecks x.1 x.2.1) (s.takeMove x.1 x.2.1 x.2.2))

/-! ### PULL (R10) -/

/-- The checks of a PULL order (R10). -/
def State.pullChecks (s : State) (n d : Nat) : List (Bool × Code) :=
  [ (decide (1023 < n) || decide (15 < d), .range),
    (s.isFree n, .noStory),
    (!((s.story n).state == .set), .state),
    (!(s.desk d).inUse, .noRoute),
    (s.onSendingPage n, .pageBusy),
    (s.basketFull d, .full) ]

/-- A taken PULL, by order or by a chief's request (R10, R15, R43). -/
def State.takePull (s : State) (n d : Nat) (flash : Bool) (cause : CopyCause) : State :=
  (((s.fileAt n d flash).tellChange .moved n cause).storyPulled n).startTest

/-- PULL (R10). -/
def execPull (body : List Byte) (s : State) : Answer :=
  .next (s.takeFrame Kind.pull body fun s =>
    s.readBody Kind.pull (storyIdentifier Kind.pull body) (readStoryDeskFlash body) fun x =>
      s.judge Kind.pull (some x.1) (s.pullChecks x.1 x.2.1)
        (s.takePull x.1 x.2.1 x.2.2 .order))

end Sys2Proof.Machine
end

