-- ==== Sys2Proof/Machine/Editions.lean ====
section
/-! DEFINITION. The orders on editions: PLAN, START, CLOSE and SEAL EDITION (R127 to R132). -/

namespace Sys2Proof.Machine

/-- An edition number outside 1 to 8. -/
def editionOutside (e : Nat) : Bool := decide (e < 1) || decide (8 < e)

/-! ### PLAN EDITION (R127) -/

/-- The section size held for the size carried (R127). -/
def sectionSize (n : Nat) : Nat := if n ≤ 1 then 1 else if n ≤ 2 then 2 else if n ≤ 5 then 4 else 8

/-- An edition as PLAN EDITION writes it (R127). -/
def plannedEdition (pages size allowance : Nat) : Edition :=
  { state := .planned, planned := clamp 1 64 pages, size := sectionSize size,
    allowance := clamp 0 15 allowance, counter := 0, sealPending := false,
    completeReported := false,
    slots := List.replicate (clamp 1 64 pages) { code := .empty, replates := 0 } }

/-- The checks of PLAN EDITION (R127). -/
def State.planChecks (s : State) (e : Nat) : List (Bool × Code) :=
  [ (editionOutside e, .range),
    (!((s.edition e).state == .empty || (s.edition e).state == .sealed), .edition) ]

/-- PLAN EDITION (R127). -/
def execPlanEdition (body : List Byte) (s : State) : Answer :=
  .next (s.takeFrame Kind.planEdition body fun s =>
    s.readBody Kind.planEdition (byteIdentifier Kind.planEdition body) (readFour body)
      fun x =>
      s.judge Kind.planEdition (some x.1) (s.planChecks x.1)
        (s.putEdition x.1 (plannedEdition x.2.1 x.2.2.1 x.2.2.2)))

/-! ### START EDITION (R129) -/

/-- The checks of START EDITION (R129). -/
def State.startChecks (s : State) (e : Nat) : List (Bool × Code) :=
  [ (editionOutside e, .range),
    (!((s.edition e).state == .planned), .edition),
    (s.editionRunning, .busy) ]

/-- A taken START EDITION: the joins are evaluated (R129). -/
def State.takeStart (s : State) (e : Nat) : State :=
  ((s.putEdition e { s.edition e with state := .running }).evaluateJoins).startTest

/-- START EDITION (R129). -/
def execStartEdition (body : List Byte) (s : State) : Answer :=
  .next (s.takeFrame Kind.startEdition body fun s =>
    s.readBody Kind.startEdition none (readOne body) fun b =>
      s.judge Kind.startEdition none (s.startChecks b.toNat) (s.takeStart b.toNat))

/-! ### CLOSE EDITION (R132) -/

/-- The checks of CLOSE EDITION (R132). -/
def State.closeChecks (s : State) (e : Nat) : List (Bool × Code) :=
  [ (editionOutside e, .range),
    (!((s.edition e).state == .running), .edition) ]

/-- A page of the edition is SENDING (R131). -/
def State.editionSending (s : State) (e : Nat) : Bool :=
  !(s.recordsWith e (fun p => p.state == .sending)).isEmpty

/-- An edition CLOSED without the seal-pending mark (R126). -/
def State.closedOpenly (s : State) (c : Nat) : Bool :=
  (s.edition c).state == .closed && !(s.edition c).sealPending

/-- Another edition that is CLOSED without the mark: sealed at once, or, with a page SENDING, marked
seal-pending with every other page swept (R132, step 1). -/
def State.closeOther (s : State) (c : Nat) : State :=
  if s.closedOpenly c then
    if s.editionSending c then
      (s.putEdition c { s.edition c with sealPending := true }).sealPages c
    else s.seal c
  else s

/-- Step 1 of a CLOSE, with the evaluation of the joins that its freed entries call for, edition `e`
being still RUNNING (R130, R132, log 14). -/
def State.closeOthers (s : State) (e : Nat) : State :=
  let others := ((List.range' 1 8).filter (fun c => !(c == e))).filter s.closedOpenly
  if others.isEmpty then s else (others.foldl State.closeOther s).evaluateJoins

/-- Steps 2 and 3 of a CLOSE: CLOSED, with its counter set, and the automatic seal tested (R132, R134). -/
def State.closeItself (s : State) (e : Nat) : State :=
  let closed := s.putEdition e
    { s.edition e with state := .closed, counter := (s.edition e).allowance }
  if closed.sealsItself e then (closed.seal e).evaluateJoins else closed

/-- A taken CLOSE EDITION (R132). -/
def State.takeClose (s : State) (e : Nat) : State :=
  ((s.closeOthers e).closeItself e).startTest

/-- CLOSE EDITION (R132). -/
def execCloseEdition (body : List Byte) (s : State) : Answer :=
  .next (s.takeFrame Kind.closeEdition body fun s =>
    s.readBody Kind.closeEdition none (readOne body) fun b =>
      s.judge Kind.closeEdition none (s.closeChecks b.toNat) (s.takeClose b.toNat))

/-! ### SEAL EDITION (R131) -/

/-- The checks of SEAL EDITION (R131). -/
def State.sealChecks (s : State) (e : Nat) : List (Bool × Code) :=
  [ (editionOutside e, .range),
    (!((s.edition e).state == .closed), .edition),
    (s.editionSending e, .pageBusy) ]

/-- A taken SEAL EDITION, with the evaluation of the joins for the editions that remain (R130, R131). -/
def State.takeSeal (s : State) (e : Nat) : State := ((s.seal e).evaluateJoins).startTest

/-- SEAL EDITION (R131). -/
def execSealEdition (body : List Byte) (s : State) : Answer :=
  .next (s.takeFrame Kind.sealEdition body fun s =>
    s.readBody Kind.sealEdition none (readOne body) fun b =>
      s.judge Kind.sealEdition none (s.sealChecks b.toNat) (s.takeSeal b.toNat))

end Sys2Proof.Machine
end

