-- ==== Sys2Proof/Machine/LineEvents.lean ====
section
/-! DEFINITION. The events of the terminal lines that carry no request, and a reminder's expiry: poll frames
and windows, NIL and KEYS answers, bad frames, idle waits, ends of output frames (R84 to R88, R96), and
the nudge timer (R50 to R52). -/

namespace Sys2Proof.Machine

/-! ### Polls (R84 to R86) -/

/-- A poll frame has been sent in full: the window starts, and the controller hunts for an answer (R84). -/
def execPollFrameSent (line : LineId) (s : State) : Answer :=
  .next
    (match (s.line line).activity with
     | .sendingPoll drop =>
       s.putLine line
         { s.line line with activity := .awaiting drop (s.now + (s.line line).window) .hunt }
     | .awaiting _ _ _ => s
     | .output _ _ => s
     | .idleWait _ => s)

/-- A NIL answer, or one whose kind is none of NIL, KEYS and REQUEST: no content (R88, R199). -/
def execNil (line : LineId) (drop : Nat) (_kind : Byte) (body : List Byte) (s : State) : Answer :=
  .next (s.takeAnswer line drop body.length id)

/-- The content of a KEYS answer (R88). -/
def State.takeKeys (s : State) (t : Nat) (bytes : List Byte) : State :=
  if bytes.length = 0 ∨ 64 < bytes.length then s.refuseRequest t .keys .length none none
  else if 0 < s.noticeFree then s.offer (.keys t bytes)
  else s.refuseRequest t .keys .busy none none

/-- A KEYS answer (R88). -/
def execKeys (line : LineId) (drop : Nat) (bytes : List Byte) (s : State) : Answer :=
  .next (s.takeAnswer line drop bytes.length fun s => s.takeKeys (terminalOf line drop) bytes)

/-- A frame with a bad check or an oversize length ends an exchange as a miss (R85). -/
def execBadAnswerFrame (line : LineId) (s : State) : Answer :=
  .next
    (match (s.line line).activity with
     | .awaiting drop _ _ => (s.miss (terminalOf line drop)).lineTurn line
     | .sendingPoll _ => s
     | .output _ _ => s
     | .idleWait _ => s)

/-- The poll window expires: a miss, which cuts short a frame still arriving (R85, R86). -/
def execPollWindowExpiry (line : LineId) (s : State) : Answer :=
  .next
    (match (s.line line).activity with
     | .awaiting drop due _ => ((s.reach due).miss (terminalOf line drop)).lineTurn line
     | .sendingPoll _ => s
     | .output _ _ => s
     | .idleWait _ => s)

/-- The idle wait ends: a line turn (R85). -/
def execIdleWaitExpiry (line : LineId) (s : State) : Answer :=
  .next
    (match (s.line line).activity with
     | .idleWait due => (s.reach due).lineTurn line
     | .sendingPoll _ => s
     | .awaiting _ _ _ => s
     | .output _ _ => s)

/-- The last byte of an output frame has been sent: its blocks are returned, and the line turns (R96,
R97, R104). -/
def execOutputFrameEnd (line : LineId) (s : State) : Answer :=
  .next
    (match (s.line line).activity with
     | .output _ w => ({ s with freeBlocks := s.freeBlocks + w.blocks } : State).lineTurn line
     | .sendingPoll _ => s
     | .awaiting _ _ _ => s
     | .idleWait _ => s)

/-! ### Reminders (R50 to R52) -/

/-- The recipients of a NUDGE at desk `d`: the duty terminal while it is LIVE, or else the desk's LIVE
chiefs (R51). -/
def State.nudgeRecipients (s : State) (d : Nat) : List Nat :=
  let chiefs := s.terminalsWith (fun r => r.liveness == .live && r.role == .chief && r.desk == d)
  match (s.desk d).duty with
  | some t => if (s.terminal t).liveness = .live then [t] else chiefs
  | none => chiefs

/-- Steps 3 and 4 of an expiry: the overdue mark with its COPY EVENT, or the next reminder (R50, R52). -/
def State.afterNudge (s : State) (n : Nat) : State :=
  let st := s.story n
  if (s.desk st.desk).r ≤ st.nudgeCount then
    let marked := s.modStory n (fun st => { st with overdue := true, nudgeDue := none })
    marked.tellChange .overdue n .nudge
  else s.modStory n (fun st => { st with nudgeDue := some (s.nudgeDueFor st) })

/-- A reminder of story `n` falls due (R50). -/
def State.nudge (s : State) (n : Nat) : State :=
  let counted := s.modStory n (fun st => { st with nudgeCount := st.nudgeCount + 1 })
  let st := counted.story n
  (counted.attendAll (counted.nudgeRecipients st.desk)
    (.nudge n st.desk st.revision st.nudgeCount)).afterNudge n

/-- The due time of a story's reminder, while one is pending and the part is RUNNING (R45). -/
def State.nudgeDue (s : State) (n : Nat) : Option Nat :=
  if s.part = .running then (s.story n).nudgeDue else none

/-- A pending reminder expires (R50). -/
def execNudgeExpiry (story : Nat) (s : State) : Answer :=
  .next
    (match s.nudgeDue story with
     | none => s
     | some due => (s.reach due).nudge story)

end Sys2Proof.Machine
end

