-- ==== Sys2Proof/Machine/Link.lean ====
section
/-! DEFINITION. The meanings of the orders and events of the store link interface (R174 to R192). -/

namespace Sys2Proof.Machine

/-! ### Part states (R185 to R187) -/

/-- RUN as taken (R186). -/
def State.takeRun (s : State) : State :=
  let running := { s with part := .running, sampleTimer := some (s.after s.timing.samplePeriod) }
  (running.nudgeResume).startTest

/-- IDLE as taken (R187). -/
def State.takeIdle (s : State) : State :=
  ({ s with part := .loading, sampleTimer := none } : State).nudgeStop

/-- IDLE (R187). -/
def execIdle (body : List Byte) (s : State) : Answer :=
  .next (s.takeFrame Kind.idle body fun s =>
    s.readBody Kind.idle none (readEmpty body) fun _ =>
      s.judge Kind.idle none [(s.part == .loading, .state)] s.takeIdle)

/-- RUN (R186). -/
def execRun (body : List Byte) (s : State) : Answer :=
  .next (s.takeFrame Kind.run body fun s =>
    s.readBody Kind.run none (readEmpty body) fun _ =>
      s.judge Kind.run none [(s.part == .running, .state)] s.takeRun)

/-! ### Restarts (R190, R191) -/

/-- A taken RESTART order: at once while no notice is being sent, or else held back (R190). -/
def State.takeRestart (s : State) (kind : RestartKind) : State :=
  match s.sending with
  | none => s.orderedRestart kind
  | some _ => { s with restartPending := some kind }

/-- RESTART (R190). -/
def execRestart (body : List Byte) (s : State) : Answer :=
  .next (s.takeFrame Kind.restart body fun s =>
    s.readBody Kind.restart none (readOne body) fun b =>
      match readRestartKind b with
      | none => s.refuseOrder Kind.restart .range none
      | some kind => s.takeRestart kind)

/-- ACK RESTART (R191). -/
def execAckRestart (body : List Byte) (s : State) : Answer :=
  .next (s.takeFrame Kind.ackRestart body fun s =>
    s.readBody Kind.ackRestart none (readEmpty body) fun _ => { s with unacknowledged := false })

/-- Arrival of supply: a cold reset with cause POWER (R190). -/
def execPowerOn (s : State) : Answer := .next (s.coldRestart .power)

/-- Release of RSTIN: a cold reset with cause PIN (R190). The spec gives an effect to the release alone; the
model holds no level of RSTIN, and while it is held low commands go on as usual (DESIGN CHOICE, log 34). -/
def execRstinRelease (s : State) : Answer := .next (s.coldRestart .pin)

/-- The taking of an ordered full restart that is held back; with none held back nothing happens
(R190, log 6). -/
def execFullRestart (s : State) : Answer :=
  .next (if s.restartPending = some .full then s.orderedRestart .full else s)

/-- The taking of an ordered warm restart that is held back; with none held back nothing happens
(R190, log 6). -/
def execWarmRestart (s : State) : Answer :=
  .next (if s.restartPending = some .warm then s.orderedRestart .warm else s)

/-- The last byte of the notice frame has been sent: a restart held back is taken, or the next notice
begins (R179, R190). -/
def execNoticeFrameEnd (s : State) : Answer :=
  .next
    (match s.sending with
     | none => s
     | some _ =>
       match s.restartPending with
       | some kind => s.orderedRestart kind
       | none => ({ s with sending := none } : State).startNotice)

/-! ### SET TIMING and SET REPORTING (R181, R184) -/

/-- A line with the four settings of a SET TIMING, each clamped (R79, R184). -/
def Line.withSettings (x : Line) (w : LineLoad) : Line :=
  { x with
    window := clamp 5 100 w.window, allowance := clamp 1 8 w.allowance,
    darkLimit := clamp 1 15 w.darkLimit, wakeNeeded := clamp 1 3 w.wakeNeeded }

/-- A taken SET TIMING writes all twenty values (R184). -/
def State.takeTiming (s : State) (x : TimingLoad) : State :=
  { s with
    timing :=
      { samplePeriod := clamp 1 60 x.samplePeriod, lowWater := clamp 16 128 x.lowWater,
        stallTimeout := clamp 5 255 x.stallTimeout, silenceTimeout := clamp 1 60 x.silenceTimeout },
    lines :=
      { a := s.lines.a.withSettings x.a, b := s.lines.b.withSettings x.b,
        c := s.lines.c.withSettings x.c, d := s.lines.d.withSettings x.d } }

/-- SET TIMING (R184). -/
def execSetTiming (body : List Byte) (s : State) : Answer :=
  .next (s.takeFrame Kind.setTiming body fun s =>
    s.readBody Kind.setTiming none (readTimingLoad body) fun x => s.takeTiming x)

/-- A taken SET REPORTING writes the five flags and N, and sets the stream countdown (R71, R181). -/
def State.takeReporting (s : State) (x : Reporting × Nat) : State :=
  { s with
    reporting := x.1, streamPeriod := x.2, countdown := if x.2 = 0 then none else some x.2 }

/-- SET REPORTING (R181). -/
def execSetReporting (body : List Byte) (s : State) : Answer :=
  .next (s.takeFrame Kind.setReporting body fun s =>
    s.readBody Kind.setReporting none (readReportingLoad body) fun x => s.takeReporting x)

/-! ### READ (R182, R183) -/

/-- What a STATUS notice carries, as it stands (R183). -/
def State.status (s : State) : Status :=
  { part := s.part, storeLost := s.storeLost, cause := s.cause,
    unacknowledged := s.unacknowledged, reportsDropped := s.reportsDropped,
    noticeFree := s.noticeFree, blocksFree := s.freeBlocks, directoryCount := s.directoryCount,
    queueDepth := s.typesetter.depth, mode := s.typesetter.mode,
    sending := s.typesetter.sendingPage, stalled := s.typesetter.stalled,
    editions := (List.range' 1 8).map (fun e => (s.edition e).state) }

/-- A READ of STATUS: an admitted STATUS clears the reports-dropped flag (R183). -/
def State.answerStatus (s : State) : State :=
  if 0 < s.noticeFree then
    { s.offer (.status s.status) with reportsDropped := false }
  else s.offer (.status s.status)

/-- A start outside its table's range (R182). -/
def startOutside (table : ReadTable) (desk start : Nat) : Bool :=
  match table with
  | .basket => decide (15 < desk) || decide (127 < start)
  | .status => false
  | t => decide (start < t.bounds.1) || decide (t.bounds.2 ≤ start)

/-- The start of a READ: for BASKET the low byte, the high byte being the desk (R197). -/
def readStart (table : ReadTable) (hi lo : Byte) : Nat :=
  match table with
  | .basket => lo.toNat
  | _ => nat2 hi lo

/-- The desk of a RECORDS notice, for BASKET alone (R182). -/
def recordsDesk (table : ReadTable) (hi : Byte) : Option Nat :=
  match table with
  | .basket => some hi.toNat
  | _ => none

/-- The RECORDS notice of a taken READ, its count clamped (R182). -/
def State.recordsOf (s : State) (table : ReadTable) (hi lo : Byte) (count : Nat) : Notice :=
  .records table.code (recordsDesk table hi) (readStart table hi lo)
    (s.readRecords table hi.toNat (readStart table hi lo) (clamp 1 16 count))

/-- A READ whose body has been read (R182, R183). -/
def State.judgeRead (s : State) (table hi lo : Byte) (count : Nat) : State :=
  match readTable table with
  | none => s.refuseOrder Kind.read .range (some table.toNat)
  | some .status => s.answerStatus
  | some t =>
    s.judge Kind.read (some table.toNat) [(startOutside t hi.toNat (readStart t hi lo), .range)]
      (s.offer (s.recordsOf t hi lo count))

/-- READ (R182). -/
def execRead (body : List Byte) (s : State) : Answer :=
  .next (s.takeFrame Kind.read body fun s =>
    s.readBody Kind.read (byteIdentifier Kind.read body) (readReadOrder body) fun x =>
      s.judgeRead x.1 x.2.1 x.2.2.1 x.2.2.2)

/-- READ of STATUS (R183): the body is the table byte of STATUS and then `rest`. -/
def execReadStatus (rest : List Byte) (s : State) : Answer :=
  .next (s.takeFrame Kind.read (ReadTable.status.code :: rest) fun s =>
    s.readBody Kind.read (byteIdentifier Kind.read (ReadTable.status.code :: rest))
      (readReadOrder (ReadTable.status.code :: rest)) fun _ => s.answerStatus)

/-! ### Frames that are no order (R176, R177) -/

/-- A valid frame whose kind is no order is refused UNKNOWN (R177). -/
def execUnknownOrder (kind : Byte) (body : List Byte) (s : State) : Answer :=
  .next (s.takeFrame kind body fun s => s.refuseOrder kind .unknown none)

/-- A frame whose length exceeds 1,040 (R176). -/
def execFrameLengthOver (kind : Byte) (s : State) : Answer := .next (s.failFrame kind .framing)

/-- A frame completed with a wrong check (R176). -/
def execFrameBadCheck (kind : Byte) (s : State) : Answer := .next (s.failFrame kind .check)

/-! ### The owed call and the silence timer (R159, R188) -/

/-- An owed PAGE CALL is offered again (R159, R179). -/
def execPageCallOwedOffered (s : State) : Answer :=
  .next
    (match s.typesetter.send with
     | none => s
     | some x => if x.call = .owed then s.offerCall else s)

/-- Every open frame of every terminal is discarded (R123). -/
def State.discardOpenFrames (s : State) : State :=
  (Table.keys s.terminals).foldl (fun acc t => acc.discardFrames t OutFrame.isOpen) s

/-- The part enters store-lost (R188). -/
def State.enterStoreLost (s : State) : State :=
  let lost := { s with storeLost := true, silenceTimer := none, framer := .hunt }
  ((lost.attendAll lost.liveTerminals .storeLost).discardOpenFrames).abandon .storeLost

/-- The store-silence timer expires (R188). -/
def execStoreSilenceExpiry (s : State) : Answer :=
  .next
    (match s.silenceTimer with
     | none => s
     | some due => (s.reach due).enterStoreLost)

end Sys2Proof.Machine
end

