-- ==== Sys2Proof/Machine/Pages.lean ====
section
/-! DEFINITION. The orders on pages: MAKE PAGE, PLACE, LIFT, RELEASE, REPLATE and DROP PAGE (R137 to R141,
R147). -/

namespace Sys2Proof.Machine

/-- A page record that is free (R136). -/
def State.pageFree (s : State) (r : Nat) : Bool := (s.page? r).isNone

/-- A page that is QUEUED or SENDING. -/
def PageState.busy (x : PageState) : Bool := x == .queued || x == .sending

/-- A page that is SENT or STALE. -/
def PageState.gone (x : PageState) : Bool := x == .sent || x == .stale

/-! ### MAKE PAGE (R137) -/

/-- A FIRST-tier page of the section of page `number` is QUEUED (R137). -/
def State.sectionQueued (s : State) (e number : Nat) : Bool :=
  (s.sectionRecords e (sectionOf (s.edition e).size number)).any (fun q =>
    (s.page q).state == .queued && (s.page q).tier == .first)

/-- The checks of MAKE PAGE (R137). -/
def State.makePageChecks (s : State) (e number : Nat) : List (Bool × Code) :=
  [ (decide (e < 1) || decide (8 < e) || decide (number < 1) || decide (64 < number), .range),
    ((s.edition e).state == .empty || (s.edition e).state == .sealed ||
      (s.edition e).sealPending, .edition),
    (decide ((s.edition e).planned < number), .range),
    ((s.recordOf e number).isSome || s.sectionQueued e number, .pageBusy),
    (s.lowestFreePage.isNone, .full) ]

/-- A page record as MAKE PAGE writes it (R136). -/
def madePage (e number : Nat) : Page :=
  { edition := e, number := number, placement := [], state := .opened, tier := .first,
    broken := false, stalePending := false, replates := 0 }

/-- A taken MAKE PAGE: the lowest free record (R137). -/
def State.takeMakePage (s : State) (e number : Nat) : State :=
  match s.lowestFreePage with
  | none => s
  | some r => s.movePage r (madePage e number) .order

/-- MAKE PAGE (R137). -/
def execMakePage (body : List Byte) (s : State) : Answer :=
  .next (s.takeFrame Kind.makePage body fun s =>
    s.readBody Kind.makePage (byteIdentifier Kind.makePage body) (readTwo body) fun x =>
      s.judge Kind.makePage (some x.1) (s.makePageChecks x.1 x.2) (s.takeMakePage x.1 x.2))

/-! ### PLACE (R139) -/

/-- The checks of PLACE (R139). -/
def State.placeChecks (s : State) (n r : Nat) : List (Bool × Code) :=
  [ (decide (1023 < n) || decide (127 < r), .range),
    (s.pageFree r, .edition),
    (s.isFree n, .noStory),
    ((s.page r).state.busy, .pageBusy),
    ((s.story n).page.isSome, .placed),
    ((s.story n).state == .spiked, .state),
    (decide (12 ≤ (s.page r).placement.length), .limit) ]

/-- The page moves by its state after a PLACE of a story that is SET or not; a page that leaves READY or
becomes STALE has the joins evaluated (R139, R145, R146), after the seal test where both are called for
(R134, DESIGN CHOICE, log 33). -/
def State.pageAfterPlace (s : State) (r : Nat) (isSet : Bool) : State :=
  let p := s.page r
  match p.state with
  | .opened => s
  | .armed => s
  | .ready =>
    if isSet then s
    else (((s.movePage r { p with state := .armed } .order).withdrawSection r).sealTest
      p.edition).evaluateJoins
  | .queued => s
  | .sending => s
  | .sent => (s.movePage r { p with state := .stale } .order).evaluateJoins
  | .stale => s

/-- A taken PLACE (R139). -/
def State.takePlace (s : State) (n r : Nat) : State :=
  let p := s.page r
  let placed := (s.putPage r (some { p with placement := p.placement ++ [n] })).modStory n
    (fun st => { st with page := some r })
  ((placed.tellChange .placed n .order).pageAfterPlace r ((s.story n).state == .set)).startTest

/-- PLACE (R139). -/
def execPlace (body : List Byte) (s : State) : Answer :=
  .next (s.takeFrame Kind.place body fun s =>
    s.readBody Kind.place (storyIdentifier Kind.place body) (readStoryPage body) fun x =>
      s.judge Kind.place (some x.1) (s.placeChecks x.1 x.2) (s.takePlace x.1 x.2))

/-! ### LIFT (R140) -/

/-- The page a story stands on is QUEUED or SENDING (R140). -/
def State.onBusyPage (s : State) (n : Nat) : Bool :=
  match (s.story n).page with
  | none => false
  | some r => (s.page r).state.busy

/-- The checks of LIFT (R140); the order's rule names no identifier (log 9). -/
def State.liftChecks (s : State) (n : Nat) : List (Bool × Code) :=
  [ (decide (1023 < n), .range),
    (s.isFree n, .noStory),
    ((s.story n).page.isNone, .state),
    (s.onBusyPage n, .pageBusy) ]

/-- The page moves by its state after a LIFT; one that becomes READY is a page whose gate opens
(R140, R142, log 13). -/
def State.pageAfterLift (s : State) (r : Nat) : State :=
  let p := s.page r
  match p.state with
  | .opened => s
  | .armed =>
    if s.allSet p.placement then (s.movePage r { p with state := .ready } .gate).evaluateJoins
    else s
  | .ready => s
  | .queued => s
  | .sending => s
  | .sent => (s.movePage r { p with state := .stale } .order).evaluateJoins
  | .stale => s

/-- A taken LIFT (R140). -/
def State.takeLift (s : State) (n : Nat) : State :=
  match (s.story n).page with
  | none => s
  | some r =>
    let p := s.page r
    let lifted := s.putPage r (some { p with placement := p.placement.filter (fun m => !(m == n)) })
    ((lifted.liftStory n).pageAfterLift r).startTest

/-- LIFT (R140). -/
def execLift (body : List Byte) (s : State) : Answer :=
  .next (s.takeFrame Kind.lift body fun s =>
    s.readBody Kind.lift none (readStory body) fun n =>
      s.judge Kind.lift none (s.liftChecks n) (s.takeLift n))

/-! ### RELEASE (R141) -/

/-- The checks of RELEASE (R141). -/
def State.releaseChecks (s : State) (r : Nat) : List (Bool × Code) :=
  [ (decide (127 < r), .range),
    (s.pageFree r, .edition),
    (!((s.page r).state == .opened), .state) ]

/-- READY or ARMED, as every placed story is SET or not (R141, R147). -/
def State.gateState (s : State) (p : Page) : PageState :=
  if s.allSet p.placement then .ready else .armed

/-- A taken RELEASE (R141). A page that becomes ARMED withdraws its section's QUEUED pages (R146). -/
def State.takeRelease (s : State) (r : Nat) : State :=
  let p := s.page r
  let moved := s.movePage r { p with state := s.gateState p } .order
  if s.gateState p = .ready then moved.evaluateJoins.startTest
  else (moved.withdrawSection r).evaluateJoins.startTest

/-- RELEASE (R141). -/
def execRelease (body : List Byte) (s : State) : Answer :=
  .next (s.takeFrame Kind.release body fun s =>
    s.readBody Kind.release none (readOne body) fun b =>
      s.judge Kind.release none (s.releaseChecks b.toNat) (s.takeRelease b.toNat))

/-! ### REPLATE (R147) -/

/-- The checks of REPLATE (R147). -/
def State.replateChecks (s : State) (r : Nat) : List (Bool × Code) :=
  [ (decide (127 < r), .range),
    (s.pageFree r, .edition),
    ((s.page r).state.busy, .pageBusy),
    (!(s.page r).state.gone, .state),
    ((s.edition (s.page r).edition).state == .closed &&
      (s.edition (s.page r).edition).counter == 0, .late) ]

/-- A taken REPLATE (R147). The automatic seal test is made once the tier and state have been written
(R134). -/
def State.takeReplate (s : State) (r : Nat) : State :=
  let p := s.page r
  let spent := s.spendJoin p.edition
  let moved := spent.movePage r { p with tier := .replate, state := s.gateState p } .order
  let kept := if s.gateState p = .armed then moved.withdrawSection r else moved
  ((kept.sealTest p.edition).evaluateJoins).startTest

/-- REPLATE (R147). -/
def execReplate (body : List Byte) (s : State) : Answer :=
  .next (s.takeFrame Kind.replate body fun s =>
    s.readBody Kind.replate (byteIdentifier Kind.replate body) (readOne body) fun b =>
      s.judge Kind.replate (some b.toNat) (s.replateChecks b.toNat) (s.takeReplate b.toNat))

/-! ### DROP PAGE (R138) -/

/-- The checks of DROP PAGE (R138). -/
def State.dropPageChecks (s : State) (r : Nat) : List (Bool × Code) :=
  [ (decide (127 < r), .range),
    (s.pageFree r, .edition),
    ((s.page r).state.busy, .pageBusy),
    ((s.page r).state.gone, .state) ]

/-- A taken DROP PAGE (R138). The seal test comes before the joins (R134, R145, DESIGN CHOICE, log 33). -/
def State.takeDropPage (s : State) (r : Nat) : State :=
  let p := s.page r
  let lifted := p.placement.foldl State.liftStory s
  let freed := (lifted.putPage r none).writeSlot p.edition p.number { code := .empty, replates := 0 }
  (((freed.offer (pageFreedEvent r p .order)).sealTest p.edition).evaluateJoins).startTest

/-- DROP PAGE (R138). -/
def execDropPage (body : List Byte) (s : State) : Answer :=
  .next (s.takeFrame Kind.dropPage body fun s =>
    s.readBody Kind.dropPage none (readOne body) fun b =>
      s.judge Kind.dropPage none (s.dropPageChecks b.toNat) (s.takeDropPage b.toNat))

end Sys2Proof.Machine
end

