-- ==== Sys2Proof/Machine/Screens.lean ====
section
/-! DEFINITION. The SCREEN order: its checks, continuations, new screens and the low-water degrade (R106 to
R110). -/

namespace Sys2Proof.Machine

/-- The checks of a SCREEN order (R106). -/
def State.screenChecks (s : State) (x : ScreenOrder) : List (Bool × Code) :=
  [ (decide (95 < x.terminal) || (!x.continuation && x.form.isNone), .range),
    (!(s.terminal x.terminal).configured, .noTerminal),
    ((s.terminal x.terminal).liveness == .dark, .dark) ]

/-! ### Continuations (R107) -/

/-- A frame with more text, open or closed by the more flag (R107). -/
def OutFrame.extend (f : OutFrame) (text : List Byte) (more : Bool) : OutFrame :=
  match f with
  | .screen form old _ => .screen form (old ++ text) more
  | .listing l => .listing l

/-- The list with its open frame replaced by `g` (R107). -/
def replaceOpen (g : OutFrame) : List OutFrame → List OutFrame
  | [] => []
  | f :: rest => if f.isOpen then g :: rest else f :: replaceOpen g rest

/-- The open frame `f` of terminal `t` becomes `g`, which takes the blocks it needs more (R107). -/
def State.extendOpen (s : State) (t : Nat) (f g : OutFrame) : State :=
  let r := s.terminal t
  { s.putTerminal t { r with outbound := replaceOpen g r.outbound } with
    freeBlocks := s.freeBlocks - (g.blocks - f.blocks) }

/-- A continuation (R107). -/
def State.continueScreen (s : State) (x : ScreenOrder) : State :=
  match (s.terminal x.terminal).openFrame with
  | none => s.refuseOrder Kind.screen .state (some x.terminal)
  | some f =>
    if 2048 < f.size + x.text.length then
      (s.discardFrames x.terminal OutFrame.isOpen).refuseOrder Kind.screen .length
        (some x.terminal)
    else if s.freeBlocks < (f.extend x.text x.more).blocks - f.blocks then
      (s.discardFrames x.terminal OutFrame.isOpen).refuseOrder Kind.screen .busy (some x.terminal)
    else s.extendOpen x.terminal f (f.extend x.text x.more)

/-! ### New screens (R108 to R110) -/

/-- The frames a new screen discards: an open frame, and for a REFRESH every pending screen (R108). -/
def supersededBy (form : Form) (f : OutFrame) : Bool :=
  f.isOpen || (form == .refresh && f.isPendingScreen)

/-- The low-water degrade applies (R109). -/
def State.degrades (s : State) (t : Nat) (form : Form) : Bool :=
  decide (s.freeBlocks < s.timing.lowWater) && form == .delta &&
    !s.inSurge (s.terminal t).desk &&
    decide (4 ≤ ((s.terminal t).outbound.filter OutFrame.isPendingScreen).length)

/-- The room check of a new screen (R110). -/
def State.roomForScreen (s : State) (x : ScreenOrder) (form : Form) : State :=
  if s.freeBlocks < blocksFor x.text.length then
    s.refuseOrder Kind.screen .busy (some x.terminal)
  else s.appendFrame x.terminal (.screen form x.text x.more)

/-- A new screen (R108 to R110). -/
def State.newScreen (s : State) (x : ScreenOrder) (form : Form) : State :=
  let cleared := s.discardFrames x.terminal (supersededBy form)
  if cleared.degrades x.terminal form then
    (cleared.discardFrames x.terminal OutFrame.isPendingScreen).wantRefresh x.terminal .degrade
  else cleared.roomForScreen x form

/-- A SCREEN order that has passed its checks (R106). -/
def State.takeScreen (s : State) (x : ScreenOrder) : State :=
  if x.continuation then s.continueScreen x
  else
    match x.form with
    | none => s
    | some form => s.newScreen x form

/-- A SCREEN order whose body has been read (R106). -/
def State.judgeScreen (s : State) (x : ScreenOrder) : State :=
  s.judge Kind.screen (some x.terminal) (s.screenChecks x) (s.takeScreen x)

/-- SCREEN with the continuation flag no (R106, R108). -/
def execScreen (body : List Byte) (s : State) : Answer :=
  .next (s.takeFrame Kind.screen body fun s =>
    s.readBody Kind.screen (byteIdentifier Kind.screen body) (readScreen body) fun x =>
      s.judgeScreen x)

/-- SCREEN with the continuation flag yes (R106, R107). -/
def execScreenContinuation (body : List Byte) (s : State) : Answer :=
  .next (s.takeFrame Kind.screen body fun s =>
    s.readBody Kind.screen (byteIdentifier Kind.screen body) (readScreen body) fun x =>
      s.judgeScreen x)

end Sys2Proof.Machine
end

