-- ==== Sys2Proof/Machine/Pressure.lean ====
section
/-! DEFINITION. The pressure monitor: SET PRESSURE, RESEED and the samples (R56 to R75). -/

namespace Sys2Proof.Machine

/-! ### Load and rounding (R61, R69) -/

/-- The weight of a story in the ordinary (1) or flash (2) tier: that weight while it is not held, and one
more while it is overdue (R61). -/
def Story.weight (st : Story) (unheld : Nat) : Nat :=
  (if st.state = .held then 0 else unheld) + st.overdue.toNat

/-- The load sample of desk `d`, counted from its basket (R61). -/
def State.loadSample (s : State) (d : Nat) : Nat :=
  Nat.min 255
    (((s.basket d).ordinary.map (fun n => (s.story n).weight 1)).sum +
      ((s.basket d).flash.map (fun n => (s.story n).weight 2)).sum)

/-- A baseline rounded to the nearest story, a half upward (R69). -/
def roundBaseline (b : Nat) : Nat := (b + 128) / 256

/-- The PRESSURE EVENT of a desk as it stands (R70). -/
def State.pressureEventOf (s : State) (d : Nat) (on : Bool) (cause : PressureCause) : Notice :=
  .pressureEvent d on cause (s.pressure d).load (roundBaseline (s.pressure d).baseline)

/-! ### SET PRESSURE (R58) -/

/-- The ten parameters, clamped (R57, R58). -/
def PressureParams.clamped (p : PressureParams) : PressureParams :=
  { quietBeta := clamp 1 8 p.quietBeta, deadlineBeta := clamp 1 8 p.deadlineBeta,
    fastBeta := clamp 0 8 p.fastBeta, fastBand := p.fastBand, floor := clamp 1 63 p.floor,
    proportional := p.proportional, hysteresis := p.hysteresis,
    enterDebounce := clamp 1 15 p.enterDebounce, exitDebounce := clamp 1 15 p.exitDebounce,
    hold := p.hold }

/-- SET PRESSURE (R58). -/
def execSetPressure (body : List Byte) (s : State) : Answer :=
  .next (s.takeFrame Kind.setPressure body fun s =>
    s.readBody Kind.setPressure none (readPressureLoad body) fun x =>
      s.judge Kind.setPressure none [(decide (15 < x.1), .range)]
        (s.putDesk x.1 { s.desk x.1 with params := x.2.clamped }))

/-! ### RESEED (R72, R75) -/

/-- The state a reseed gives for a load: the baseline at it, CALM, count 0, mark clear (R72, R75). -/
def Pressure.reseeded (load : Nat) : Pressure :=
  { load := load, baseline := 256 * load, surge := .calm, count := 0, reseedPending := false }

/-- Desk `d` is reseeded to its present load (R72, R75). -/
def State.reseedDesk (s : State) (d : Nat) : State :=
  s.putPressure d (Pressure.reseeded (s.loadSample d))

/-- A taken RESEED (R72). -/
def State.takeReseed (s : State) (d : Nat) : State :=
  let seeded := s.reseedDesk d
  if s.inSurge d then seeded.offer (seeded.pressureEventOf d false .reseed) else seeded

/-- RESEED (R72). -/
def execReseed (body : List Byte) (s : State) : Answer :=
  .next (s.takeFrame Kind.reseed body fun s =>
    s.readBody Kind.reseed none (readOne body) fun b =>
      s.judge Kind.reseed none
        [(decide (15 < b.toNat), .range), (!(s.desk b.toNat).inUse, .state)]
        (s.takeReseed b.toNat))

/-! ### One sample (R62 to R68) -/

/-- The class of a sample by its deviation (R63). -/
inductive SampleClass where
  | above | below | neither
  deriving DecidableEq, Repr

/-- The enter margin E (R63). -/
def enterMargin (p : PressureParams) (baseline : Nat) : Nat :=
  256 * p.floor + baseline * p.proportional / 256

/-- The exit margin X (R63). -/
def exitMargin (p : PressureParams) (baseline : Nat) : Nat :=
  enterMargin p baseline - enterMargin p baseline * p.hysteresis / 256

/-- The deviation D of a load from a baseline (R62). -/
def deviation (load baseline : Nat) : Int := 256 * (load : Int) - (baseline : Int)

/-- The class of a sample (R63). -/
def sampleClass (p : PressureParams) (load baseline : Nat) : SampleClass :=
  let d := deviation load baseline
  if (enterMargin p baseline : Int) < d then .above
  else if d < (exitMargin p baseline : Int) then .below
  else .neither

/-- The surge state machine's move (R64). -/
def surgeMove (p : PressureParams) (before : SurgeState) (count : Nat) (c : SampleClass) :
    SurgeState × Nat :=
  match before, c with
  | .calm, .above => (if p.enterDebounce ≤ 1 then .surge else .rising, 1)
  | .calm, .below => (.calm, 0)
  | .calm, .neither => (.calm, 0)
  | .rising, .above => (if p.enterDebounce ≤ count + 1 then .surge else .rising, count + 1)
  | .rising, .below => (.calm, 0)
  | .rising, .neither => (.calm, 0)
  | .surge, .below => (if p.exitDebounce ≤ 1 then .calm else .easing, 1)
  | .surge, .above => (.surge, count)
  | .surge, .neither => (.surge, count)
  | .easing, .below => (if p.exitDebounce ≤ count + 1 then .calm else .easing, count + 1)
  | .easing, .above => (.surge, 0)
  | .easing, .neither => (.surge, 0)

/-- The beta a baseline update uses (R67). -/
def chooseBeta (p : PressureParams) (editionRunning : Bool) (d : Int) : Nat :=
  if p.fastBand ≠ 0 ∧ 256 * p.fastBand < d.natAbs then p.fastBeta
  else if editionRunning then p.deadlineBeta
  else p.quietBeta

/-- The step of a baseline update: |D| itself for beta 0, or |D| / 2^beta and at least 1 (R68). -/
def baselineStep (beta : Nat) (d : Int) : Nat :=
  if beta = 0 then d.natAbs else Nat.max 1 (d.natAbs / 2 ^ beta)

/-- The baseline moved toward the load (R68). -/
def moveBaseline (beta baseline : Nat) (d : Int) : Nat :=
  if d = 0 then baseline
  else if 0 < d then baseline + baselineStep beta d
  else baseline - baselineStep beta d

/-- The desk's pressure state after a sample of load `load` (R60 to R68). -/
def Pressure.sampled (p : PressureParams) (editionRunning : Bool) (load : Nat) (x : Pressure) :
    Pressure :=
  let d := deviation load x.baseline
  let moved := surgeMove p x.surge x.count (sampleClass p load x.baseline)
  let held := p.hold && moved.1.inSurge
  { x with
    load := load, surge := moved.1, count := moved.2,
    baseline :=
      if held then x.baseline
      else moveBaseline (chooseBeta p editionRunning d) x.baseline d }

/-- One desk's sample, with the PRESSURE EVENT of a surge-on or surge-off (R60, R65, R70). -/
def State.sampleDesk (s : State) (d : Nat) : State :=
  let x := s.pressure d
  let t := s.putPressure d (x.sampled (s.desk d).params s.editionRunning (s.loadSample d))
  if x.surge.inSurge = (t.pressure d).surge.inSurge then t
  else t.offer (t.pressureEventOf d (t.pressure d).surge.inSurge .sample)

/-- A desk's part of a sample period: nothing out of use, a reseed while its mark is set, or a sample
(R60, R75). -/
def State.periodAtDesk (s : State) (d : Nat) : State :=
  if (s.desk d).inUse then
    if (s.pressure d).reseedPending then s.reseedDesk d else s.sampleDesk d
  else s

/-- The PRESSURE REPORT: every desk in use, ascending (R71). -/
def State.pressureReportOf (s : State) : Notice :=
  .pressureReport
    (((List.range 16).filter (fun d => (s.desk d).inUse)).map (fun d =>
      { desk := d, load := (s.pressure d).load, rounded := roundBaseline (s.pressure d).baseline,
        surge := (s.pressure d).surge }))

/-- The stream countdown falls; at 0 it is set again and a PRESSURE REPORT offered, which a disabled
group does not admit (R71, R180). -/
def State.stream (s : State) : State :=
  match s.countdown with
  | none => s
  | some k =>
    if k - 1 = 0 then
      ({ s with countdown := some s.streamPeriod } : State).offer s.pressureReportOf
    else { s with countdown := some (k - 1) }

/-- The sample timer expires (R59, R60, R71). -/
def execSamplePeriod (s : State) : Answer :=
  .next
    (match s.sampleTimer with
     | none => s
     | some due =>
       let reached := s.reach due
       let timed := { reached with sampleTimer := some (reached.after s.timing.samplePeriod) }
       ((List.range 16).foldl State.periodAtDesk timed).stream)

end Sys2Proof.Machine
end

