-- ==== Sys2Proof/Machine/Tables.lean ====
section
/-! DEFINITION. The table orders: LOAD DESK, LOAD ROUTE, LOAD DIVERSION (R22, R23, R27, R28, R73) and LOAD
TERMINAL (R81, R82). -/

namespace Sys2Proof.Machine

/-! ### LOAD DESK (R22, R23, R73) -/

/-- The checks of LOAD DESK (R22). -/
def State.loadDeskChecks (s : State) (x : DeskLoad) : List (Bool × Code) :=
  [ (decide (15 < x.desk) || (match x.duty with
      | some t => decide (95 < t)
      | none => false), .range),
    (x.inUse && x.name.isEmpty, .length),
    (x.inUse && decide (clamp 1 128 x.capacity < (s.basket x.desk).count), .occupied),
    (!x.inUse && (decide (0 < (s.basket x.desk).count) || s.deskHasTerminal x.desk), .occupied) ]

/-- A desk comes into use, or goes out of it with the SURGE_OFF of a desk in surge (R73). -/
def State.deskTurns (s : State) (d : Nat) (wasInUse inUse : Bool) : State :=
  if wasInUse = inUse then s
  else
    let cleared := s.putPressure d Pressure.initial
    if wasInUse && s.inSurge d then cleared.offer (cleared.pressureEventOf d false .closed)
    else cleared

/-- A taken LOAD DESK (R22, R73). -/
def State.takeLoadDesk (s : State) (x : DeskLoad) : State :=
  let old := s.desk x.desk
  (s.putDesk x.desk
    { old with
      inUse := x.inUse, name := x.name.take 8, capacity := clamp 1 128 x.capacity, duty := x.duty,
      t := clamp 1 255 x.t, m := clamp 1 4 x.m, r := clamp 0 7 x.r }).deskTurns x.desk
    old.inUse x.inUse

/-- LOAD DESK (R22). -/
def execLoadDesk (body : List Byte) (s : State) : Answer :=
  .next (s.takeFrame Kind.loadDesk body fun s =>
    s.readBody Kind.loadDesk none (readDeskLoad body) fun x =>
      s.judge Kind.loadDesk none (s.loadDeskChecks x) (s.takeLoadDesk x))

/-! ### LOAD ROUTE (R27) -/

/-- A route row whose 16 targets are all desks, SET or NONE (R27). -/
def routeRowOf (targets : List (Option RouteTarget)) : List RouteTarget :=
  targets.map (fun t => t.getD RouteTarget.none)

/-- LOAD ROUTE (R27). -/
def execLoadRoute (body : List Byte) (s : State) : Answer :=
  .next (s.takeFrame Kind.loadRoute body fun s =>
    s.readBody Kind.loadRoute none (readRouteLoad body) fun x =>
      s.judge Kind.loadRoute none
        [(decide (31 < x.1) || x.2.any Option.isNone, .range)]
        { s with routes := Table.put routeRowInitial s.routes x.1 (routeRowOf x.2) })

/-! ### LOAD DIVERSION (R28) -/

/-- A LOAD DIVERSION that is refused RANGE (R28). -/
def DiversionLoad.outside (x : DiversionLoad) : Bool :=
  decide (7 < x.index) ||
    (x.inUse &&
      (decide (15 < x.fromDesk) || decide (15 < x.toDesk) || x.fromDesk == x.toDesk ||
        x.condition.isNone ||
        (match x.cls with
         | some c => decide (31 < c)
         | none => false)))

/-- The entry a taken LOAD DIVERSION writes (R28). -/
def DiversionLoad.entry (x : DiversionLoad) : Diversion :=
  if x.inUse then
    { inUse := true, fromDesk := x.fromDesk, cls := x.cls,
      condition := x.condition.getD .always, toDesk := x.toDesk }
  else Diversion.initial

/-- LOAD DIVERSION (R28). -/
def execLoadDiversion (body : List Byte) (s : State) : Answer :=
  .next (s.takeFrame Kind.loadDiversion body fun s =>
    s.readBody Kind.loadDiversion none (readDiversionLoad body) fun x =>
      s.judge Kind.loadDiversion none [(x.outside, .range)]
        { s with diversions := Table.put Diversion.initial s.diversions x.index x.entry })

/-! ### LOAD TERMINAL (R81, R82) -/

/-- The checks of LOAD TERMINAL (R81). -/
def State.loadTerminalChecks (s : State) (x : TerminalLoad) : List (Bool × Code) :=
  [ (decide (95 < x.terminal) || decide (15 < x.desk) || x.role.isNone, .range),
    (x.configured && !(s.desk x.desk).inUse, .noRoute),
    (!(s.terminal x.terminal).holds.isEmpty, .occupied) ]

/-- A taken LOAD TERMINAL (R82). -/
def State.takeLoadTerminal (s : State) (x : TerminalLoad) : State :=
  let role := x.role.getD .writer
  let old := s.terminal x.terminal
  if x.configured then
    if old.liveness = .absent then
      s.putTerminal x.terminal
        { Terminal.initial with
          configured := true, desk := x.desk, role := role, liveness := .waking }
    else s.putTerminal x.terminal { old with desk := x.desk, role := role }
  else
    (s.discardFrames x.terminal (fun _ => true)).putTerminal x.terminal Terminal.initial

/-- LOAD TERMINAL (R81, R82). -/
def execLoadTerminal (body : List Byte) (s : State) : Answer :=
  .next (s.takeFrame Kind.loadTerminal body fun s =>
    s.readBody Kind.loadTerminal (byteIdentifier Kind.loadTerminal body)
      (readTerminalLoad body) fun x =>
      s.judge Kind.loadTerminal (some x.terminal) (s.loadTerminalChecks x) (s.takeLoadTerminal x))

end Sys2Proof.Machine
end

