-- ==== Sys2Proof/Machine/TypesetOrders.lean ====
section
/-! DEFINITION. The orders and events of the typesetter unit: TYPESET MODE, ABORT SEND, PAGE DATA, TSRDY, the
end of a block, and the data and wait timers (R157, R160, R161, R163, R165, R166, R168). -/

namespace Sys2Proof.Machine

/-! ### TYPESET MODE and ABORT SEND (R157, R168) -/

/-- The output mode is written. -/
def State.setMode (s : State) (m : OutputMode) : State :=
  s.putTypesetter { s.typesetter with mode := m }

/-- TYPESET MODE (R157). -/
def execTypesetMode (body : List Byte) (s : State) : Answer :=
  .next (s.takeFrame Kind.typesetMode body fun s =>
    s.readBody Kind.typesetMode none (readOne body) fun b =>
      match readMode b with
      | none => s.refuseOrder Kind.typesetMode .range none
      | some m => (s.setMode m).startTest)

/-- ABORT SEND (R168). -/
def execAbortSend (body : List Byte) (s : State) : Answer :=
  .next (s.takeFrame Kind.abortSend body fun s =>
    s.readBody Kind.abortSend none (readEmpty body) fun _ => (s.setMode .hold).abandon .abort)

/-! ### PAGE DATA (R160) -/

/-- Whether page `r` is the one SENDING. -/
def State.isSending (s : State) (r : Nat) : Bool := s.typesetter.sendingPage == some r

/-- The call state of the send, NONE without one (R158). -/
def State.callState (s : State) : CallState :=
  match s.typesetter.send with
  | some x => x.call
  | none => .none

/-- The expected offset of the send. -/
def State.expectedOffset (s : State) : Nat :=
  match s.typesetter.send with
  | some x => x.expected
  | none => 0

/-- The checks of PAGE DATA (R160). -/
def State.pageDataChecks (s : State) (x : PageDataOrder) : List (Bool × Code) :=
  [ (decide (127 < x.record), .range),
    (!s.isSending x.record, .offset),
    (!(s.callState == .outstanding), .offset),
    (!(x.offset == s.expectedOffset), .offset),
    (x.bytes.isEmpty && !x.final, .length),
    (decide (Config.offsetLimit < x.offset + x.bytes.length), .length) ]

/-- The send record with an accepted PAGE DATA (R160). -/
def Send.accept (x : Send) (y : PageDataOrder) : Send :=
  { x with
    buffer := x.buffer ++ y.bytes, expected := x.expected + y.bytes.length, call := .none,
    dataTimer := none, finalAccepted := x.finalAccepted || y.final }

/-- An accepted PAGE DATA: a block that it makes ready begins or waits, and the next call is made if it
is due (R159, R160, R163). -/
def State.takePageData (s : State) (y : PageDataOrder) : State :=
  match s.typesetter.send with
  | none => s
  | some x => ((s.putSend (x.accept y)).callDue).tsLine

/-- PAGE DATA (R160). -/
def execPageData (body : List Byte) (s : State) : Answer :=
  .next (s.takeFrame Kind.pageData body fun s =>
    s.readBody Kind.pageData (byteIdentifier Kind.pageData body) (readPageData body)
      fun x => s.judge Kind.pageData (some x.record) (s.pageDataChecks x) (s.takePageData x))

/-! ### The typesetter line and its timers (R161, R163, R165, R166) -/

/-- The TSRDY input stands at a level the part has been told of. -/
def State.setReady (s : State) (level : Bool) : State :=
  { s with tsrdy := { asserted := level, falls := s.tsrdy.falls } }

/-- TSRDY becomes asserted: a ready block begins if the line is free (R163). -/
def execTsrdyAsserted (s : State) : Answer := .next (s.setReady true).tsProceed

/-- A block on the typesetter line has ended, with TSRDY at `level`: an end block completes its send, and the
next ready block begins or waits (R163, R165). With no block on the line nothing happens (log 3). -/
def State.endBlock (s : State) (level : Bool) : State :=
  match s.typesetter.block with
  | none => s
  | some b =>
    let freed := (s.setReady level).putTypesetter { s.typesetter with block := none }
    (match b with
     | .galley _ _ _ true => freed.completeSend
     | .galley _ _ _ false => freed
     | .cancel _ => freed).tsProceed

/-- The last byte of a block on the typesetter line has been sent (R163). -/
def execGalleyBlockEnd (tsrdy : Bool) (s : State) : Answer := .next (s.endBlock tsrdy)

/-- The data timer's expiry, while it runs (R161). -/
def State.dataDue (s : State) : Option Nat :=
  match s.typesetter.send with
  | some x => x.dataTimer
  | none => none

/-- The data timer expires: the send is abandoned with cause NO_DATA (R161). -/
def execDataTimerExpiry (s : State) : Answer :=
  .next
    (match s.dataDue with
     | none => s
     | some due => (s.reach due).abandon .noData)

/-- The wait has lasted the stall timeout: the stalled mark is set and one STALL offered (R166). -/
def State.stall (s : State) : State :=
  let timed := s.putTypesetter { s.typesetter with waitTimer := none }
  if s.typesetter.stalled then timed
  else
    let marked := timed.putTypesetter { timed.typesetter with stalled := true }
    marked.offer (marked.typesetterEventOf .stall none)

/-- The wait timer expires (R166). -/
def execWaitTimerExpiry (s : State) : Answer :=
  .next
    (match s.typesetter.waitTimer with
     | none => s
     | some due => (s.reach due).stall)

end Sys2Proof.Machine
end

