-- ==== Sys2Proof/Machine/Requests.lean ====
section
/-! DEFINITION. The terminals' copy requests: GET, GET NEXT, SEND, RETURN, SPIKE and PULL (R29 to R43). -/

namespace Sys2Proof.Machine

/-! ### What every request shares (R29, R30, R88) -/

/-- A request arrives in an answer of the polled terminal, and is judged in the handling of that answer;
arguments that do not fit its kind are refused LENGTH (R88). -/
def State.takeRequest {α : Type} (s : State) (l : LineId) (drop : Nat) (q : RequestKind)
    (args : List Byte) (read : List Byte → Option α) (judge : State → Nat → α → State) : State :=
  s.takeAnswer l drop (args.length + 1) fun s =>
    match read args with
    | none => s.refuseRequest (terminalOf l drop) q .length none none
    | some x => judge s (terminalOf l drop) x

/-- A request is refused at the first check it fails, and taken when it fails none; a refusal FULL names
the desk `full` (R30). -/
def State.judgeRequest (s : State) (t : Nat) (q : RequestKind) (known full : Option Nat)
    (checks : List (Bool × Code)) (taken : State) : State :=
  match firstRefusal checks with
  | some code => s.refuseRequest t q code known (if code = .full then full else none)
  | none => taken

/-- The story a request acts on: the one it names, or the top of the view stack (R29). -/
def State.subject (s : State) (t : Nat) (named : Option Nat) : Option Nat :=
  match named with
  | some n => some n
  | none => (s.terminal t).views.head?

/-- The story a REFUSED attention names: the one the request acts on, when its number is a story number
(R30, log 12). -/
def State.knownStory (s : State) (t : Nat) (named : Option Nat) : Option Nat :=
  (s.subject t named).filter (fun n => decide (n ≤ 1023))

/-- The checks every copy request but GET NEXT begins with (R29). -/
def State.requestChecks (s : State) (t : Nat) (named : Option Nat) (needsStore : Bool) :
    List (Bool × Code) :=
  [ (s.part == .loading, .notReady),
    (needsStore && s.storeLost, .storeLost),
    (match named with
     | some n => decide (1023 < n)
     | none => false, .range),
    (match s.subject t named with
     | some n => s.isFree n
     | none => true, .noStory) ]

/-- The number a request acts on, once its checks have passed. -/
def State.subjectOf (s : State) (t : Nat) (named : Option Nat) : Nat := (s.subject t named).getD 0

/-- The story is HELD by terminal `t` (R4). -/
def State.heldBy (s : State) (n t : Nat) : Bool :=
  (s.story n).state == .held && (s.story n).holder == some t

/-! ### GET and GET NEXT (R32 to R34) -/

/-- The checks of GET (R32). -/
def State.getChecks (s : State) (t : Nat) (named : Option Nat) : List (Bool × Code) :=
  let n := s.subjectOf t named
  s.requestChecks t named true ++
  [ ((s.story n).state == .set || (s.story n).state == .spiked, .state),
    ((s.story n).state == .held, .held),
    (!((s.story n).desk == (s.terminal t).desk) && !((s.terminal t).role == .chief), .role),
    (decide (4 ≤ (s.terminal t).holds.length), .limit),
    (s.noticeFree == 0, .busy) ]

/-- A story becomes HELD by a terminal, and its text is wanted (R34). -/
def State.holdStory (s : State) (t n : Nat) (q : RequestKind) : State :=
  let held := (s.modStory n (fun st => { st with state := .held, holder := some t })).nudgeLeave n
  (((((held.addHold t n).pushView t n).textWanted t n q)).tellChange .held n (.terminal t))

/-- GET (R32, R34). -/
def execGet (line : LineId) (drop : Nat) (args : List Byte) (s : State) : Answer :=
  .next (s.takeRequest line drop .get args readStoryArg fun s t named =>
    s.judgeRequest t .get (s.knownStory t named) none (s.getChecks t named)
      (s.holdStory t (s.subjectOf t named) .get))

/-- The story GET NEXT chooses: the first in the own desk's basket that is not held (R33). -/
def State.nextUnheld (s : State) (t : Nat) : Option Nat :=
  (s.basket (s.terminal t).desk).all.find? (fun n => !((s.story n).state == .held))

/-- The checks of GET NEXT (R29, R33). -/
def State.getNextChecks (s : State) (t : Nat) : List (Bool × Code) :=
  [ (s.part == .loading, .notReady),
    (s.storeLost, .storeLost),
    (decide (4 ≤ (s.terminal t).holds.length), .limit),
    ((s.nextUnheld t).isNone, .noStory),
    (s.noticeFree == 0, .busy) ]

/-- The story a REFUSED GET NEXT names: the one chosen, when the refusal comes after the choice
(R30, R33, log 12). -/
def State.getNextKnown (s : State) (t : Nat) : Option Nat :=
  if firstRefusal (s.getNextChecks t) = some .busy then s.nextUnheld t else none

/-- GET NEXT (R33, R34). -/
def execGetNext (line : LineId) (drop : Nat) (args : List Byte) (s : State) : Answer :=
  .next (s.takeRequest line drop .getNext args readNoArgs fun s t _ =>
    s.judgeRequest t .getNext (s.getNextKnown t) none (s.getNextChecks t)
      (s.holdStory t ((s.nextUnheld t).getD 0) .getNext))

/-! ### SEND (R35 to R40) -/

/-- The outcome of a SEND's resolution (R36 to R38). -/
inductive Resolution where
  | refused (code : Code) (full : Option Nat)
  | toSet
  | toDesk (d : Nat)
  deriving DecidableEq, Repr

/-- The base target of a SEND (R36). -/
def State.baseTarget (s : State) (st : Story) (named : Option Nat) : RouteTarget :=
  match named with
  | some d => .desk d
  | none => s.route st.cls st.desk

/-- A diversion entry that matches and is not skipped (R37). -/
def State.diverts (s : State) (st : Story) (base : Nat) (e : Diversion) : Bool :=
  e.inUse && e.fromDesk == base && (e.cls == none || e.cls == some st.cls) &&
    (e.condition == .always || s.inSurge e.fromDesk) &&
    !(e.toDesk == st.desk) && (s.desk e.toDesk).inUse

/-- The diversion scan (R37). -/
def State.divertedTarget (s : State) (st : Story) (base : Nat) : Option Nat :=
  (((List.range 8).map s.diversion).find? (s.diverts st base)).map Diversion.toDesk

/-- The room check (R38). -/
def State.roomFor (s : State) (base : Nat) (diverted : Option Nat) : Resolution :=
  match diverted with
  | some d =>
    if !s.basketFull d then .toDesk d
    else if !s.basketFull base then .toDesk base
    else .refused .full (some base)
  | none => if !s.basketFull base then .toDesk base else .refused .full (some base)

/-- The resolution of a SEND: base target, diversion scan, room check (R36 to R38). -/
def State.resolveSend (s : State) (st : Story) (role : Role) (named : Option Nat) : Resolution :=
  match s.baseTarget st named with
  | .none => .refused .noRoute none
  | .set => if role = .writer then .refused .role none else .toSet
  | .desk d =>
    if (s.desk d).inUse = false then .refused .noRoute none
    else if d = st.desk then .refused .sameDesk none
    else s.roomFor d (s.divertedTarget st d)

/-- The checks of SEND before its resolution (R35). -/
def State.sendChecks (s : State) (t : Nat) (named desk : Option Nat) : List (Bool × Code) :=
  s.requestChecks t named false ++
  [ (match desk with
     | some d => decide (15 < d)
     | none => false, .range),
    (!s.heldBy (s.subjectOf t named) t, .notHolder),
    (desk.isSome && (s.terminal t).role == .writer, .role) ]

/-- A SEND that reaches a desk (R39). -/
def State.sendToDesk (s : State) (t n d : Nat) (flash : Bool) : State :=
  let filed := (((s.leaveBasket (s.story n).desk n).fileAt n d flash).dropHold t n)
  (filed.done t .send n false).tellChange .moved n (.terminal t)

/-- A SEND resolved to SET (R40). -/
def State.sendToSet (s : State) (t n : Nat) : State :=
  let set := ((s.leaveBasket (s.story n).desk n).modStory n (fun st =>
    { st with state := .set, holder := none, overdue := false, nudgeDue := none })).dropHold t n
  ((((set.done t .send n true).tellChange .set n (.terminal t)).storySet n)).startTest

/-- A SEND after its checks (R36 to R40). -/
def State.takeSend (s : State) (t n : Nat) (known desk : Option Nat) (flash : Bool) : State :=
  match s.resolveSend (s.story n) (s.terminal t).role desk with
  | .refused code full => s.refuseRequest t .send code known full
  | .toSet => s.sendToSet t n
  | .toDesk d => s.sendToDesk t n d flash

/-- SEND (R35 to R40). -/
def execSend (line : LineId) (drop : Nat) (args : List Byte) (s : State) : Answer :=
  .next (s.takeRequest line drop .send args readSendArgs fun s t x =>
    s.judgeRequest t .send (s.knownStory t x.1) none (s.sendChecks t x.1 x.2.1)
      (s.takeSend t (s.subjectOf t x.1) (s.knownStory t x.1) x.2.1 x.2.2))

/-! ### RETURN (R41) -/

/-- The checks of RETURN (R41). -/
def State.returnChecks (s : State) (t : Nat) (named : Option Nat) : List (Bool × Code) :=
  s.requestChecks t named false ++ [(!s.heldBy (s.subjectOf t named) t, .notHolder)]

/-- A taken RETURN (R41). -/
def State.takeReturn (s : State) (t n : Nat) : State :=
  (((s.releaseInPlace n).dropHold t n).done t .returnStory n false).tellChange .released n
    (.terminal t)

/-- RETURN (R41). -/
def execReturn (line : LineId) (drop : Nat) (args : List Byte) (s : State) : Answer :=
  .next (s.takeRequest line drop .returnStory args readStoryArg fun s t named =>
    s.judgeRequest t .returnStory (s.knownStory t named) none (s.returnChecks t named)
      (s.takeReturn t (s.subjectOf t named)))

/-! ### SPIKE (R42) -/

/-- The story is FILED at terminal `t`'s own desk (R42). -/
def State.filedAtOwnDesk (s : State) (n t : Nat) : Bool :=
  (s.story n).state == .filed && (s.story n).desk == (s.terminal t).desk

/-- The checks of SPIKE (R42). -/
def State.spikeChecks (s : State) (t : Nat) (named : Option Nat) : List (Bool × Code) :=
  let n := s.subjectOf t named
  s.requestChecks t named false ++
  [ ((s.story n).page.isSome, .placed),
    (s.heldBy n t && (s.terminal t).role == .writer, .role),
    (s.filedAtOwnDesk n t && !((s.terminal t).role == .chief), .role),
    (!s.heldBy n t && !s.filedAtOwnDesk n t, .notHolder) ]

/-- A taken SPIKE (R42). -/
def State.takeSpike (s : State) (t n : Nat) : State :=
  let spiked := (((s.leaveBasket (s.story n).desk n).modStory n (fun st =>
    { st with state := .spiked, holder := none })).nudgeLeave n).dropHold t n
  (spiked.done t .spike n false).tellChange .spiked n (.terminal t)

/-- SPIKE (R42). -/
def execSpike (line : LineId) (drop : Nat) (args : List Byte) (s : State) : Answer :=
  .next (s.takeRequest line drop .spike args readStoryArg fun s t named =>
    s.judgeRequest t .spike (s.knownStory t named) none (s.spikeChecks t named)
      (s.takeSpike t (s.subjectOf t named)))

/-! ### PULL (R43) -/

/-- The checks of a PULL request (R43). -/
def State.pullRequestChecks (s : State) (t : Nat) (named : Option Nat) : List (Bool × Code) :=
  let n := s.subjectOf t named
  s.requestChecks t named false ++
  [ (!((s.terminal t).role == .chief), .role),
    (!((s.story n).state == .set), .state),
    (!(s.desk (s.terminal t).desk).inUse, .noRoute),
    (s.onSendingPage n, .pageBusy),
    (s.basketFull (s.terminal t).desk, .full) ]

/-- A taken PULL request: DONE, and the effects of a PULL order naming the own desk (R43). -/
def State.takePullRequest (s : State) (t n : Nat) (flash : Bool) : State :=
  let pulled := s.takePull n (s.terminal t).desk flash (.terminal t)
  pulled.done t .pull n false

/-- PULL (R43). -/
def execPullRequest (line : LineId) (drop : Nat) (args : List Byte) (s : State) : Answer :=
  .next (s.takeRequest line drop .pull args readPullArgs fun s t x =>
    s.judgeRequest t .pull (s.knownStory t x.1) (some (s.terminal t).desk)
      (s.pullRequestChecks t x.1) (s.takePullRequest t (s.subjectOf t x.1) x.2))

end Sys2Proof.Machine
end

