-- ==== Sys2Proof/Machine/Views.lean ====
section
/-! DEFINITION. The terminals' view, listing and watch requests: VIEW, BACK, LIST, WATCH and UNWATCH (R114 to
R118). -/

namespace Sys2Proof.Machine

/-- The number a view or watch request carries, when it is a story number (log 12). -/
def carriedStory (named : Option Nat) : Option Nat := named.filter (fun n => decide (n ≤ 1023))

/-- A number outside the range of story numbers; none is not one (R114, R117, R118). -/
def storyOutside (named : Option Nat) : Bool :=
  match named with
  | some n => decide (1023 < n)
  | none => false

/-- A number that is free; none is not one. -/
def State.namesFree (s : State) (named : Option Nat) : Bool :=
  match named with
  | some n => s.isFree n
  | none => false

/-! ### VIEW and BACK (R114, R115) -/

/-- The checks of VIEW (R114). -/
def State.viewChecks (s : State) (named : Option Nat) : List (Bool × Code) :=
  [ (s.part == .loading, .notReady),
    (s.storeLost, .storeLost),
    (named.isNone, .noStory),
    (storyOutside named, .range),
    (s.namesFree named, .noStory),
    (s.noticeFree == 0, .busy) ]

/-- VIEW (R114). -/
def execView (line : LineId) (drop : Nat) (args : List Byte) (s : State) : Answer :=
  .next (s.takeRequest line drop .view args readStoryArg fun s t named =>
    s.judgeRequest t .view (carriedStory named) none (s.viewChecks named)
      ((s.pushView t (named.getD 0)).textWanted t (named.getD 0) .view))

/-- The checks of BACK (R115). -/
def State.backChecks (s : State) (t : Nat) : List (Bool × Code) :=
  [ (s.part == .loading, .notReady),
    (s.storeLost, .storeLost),
    (decide ((s.terminal t).views.length < 2), .noStory),
    (s.noticeFree == 0, .busy) ]

/-- A taken BACK (R115). -/
def State.takeBack (s : State) (t : Nat) : State :=
  let r := s.terminal t
  let popped := s.putTerminal t { r with views := r.views.tail }
  popped.textWanted t (r.views.tail.headD 0) .back

/-- BACK (R115). -/
def execBack (line : LineId) (drop : Nat) (args : List Byte) (s : State) : Answer :=
  .next (s.takeRequest line drop .back args readNoArgs fun s t _ =>
    s.judgeRequest t .back none none (s.backChecks t) (s.takeBack t))

/-! ### LIST (R116) -/

/-- The listing of a desk's basket from a start position: up to 12 entries (R116). -/
def State.listingOf (s : State) (desk start : Nat) : Listing :=
  { desk := desk, start := start, basketCount := (s.basket desk).count,
    entries := (((s.basket desk).all.drop start).take 12).map s.listEntry }

/-- The checks of LIST (R116). -/
def State.listChecks (s : State) (desk start : Nat) : List (Bool × Code) :=
  [ (s.part == .loading, .notReady),
    (decide (15 < desk) || decide (127 < start), .range),
    (decide (s.freeBlocks < (OutFrame.listing (s.listingOf desk start)).blocks), .busy) ]

/-- LIST (R116). -/
def execList (line : LineId) (drop : Nat) (args : List Byte) (s : State) : Answer :=
  .next (s.takeRequest line drop .list args readListArgs fun s t x =>
    s.judgeRequest t .list none none (s.listChecks x.1 x.2)
      (s.appendFrame t (.listing (s.listingOf x.1 x.2))))

/-! ### WATCH and UNWATCH (R117, R118) -/

/-- The checks of WATCH (R117). -/
def State.watchChecks (s : State) (t : Nat) (named : Option Nat) : List (Bool × Code) :=
  [ (s.part == .loading, .notReady),
    (named.isNone, .noStory),
    (storyOutside named, .range),
    (s.namesFree named, .noStory),
    ((s.terminal t).watches.contains (named.getD 0), .duplicate),
    (decide (4 ≤ (s.terminal t).watches.length), .limit) ]

/-- A taken WATCH (R117). -/
def State.takeWatch (s : State) (t n : Nat) : State :=
  let r := s.terminal t
  (s.putTerminal t { r with watches := r.watches ++ [n] }).done t .watch n false

/-- WATCH (R117). -/
def execWatch (line : LineId) (drop : Nat) (args : List Byte) (s : State) : Answer :=
  .next (s.takeRequest line drop .watch args readStoryArg fun s t named =>
    s.judgeRequest t .watch (carriedStory named) none (s.watchChecks t named)
      (s.takeWatch t (named.getD 0)))

/-- The checks of UNWATCH (R118). -/
def State.unwatchChecks (s : State) (t : Nat) (named : Option Nat) : List (Bool × Code) :=
  [ (s.part == .loading, .notReady),
    (named.isNone, .noStory),
    (storyOutside named, .range),
    (!(s.terminal t).watches.contains (named.getD 0), .noStory) ]

/-- A taken UNWATCH (R118). -/
def State.takeUnwatch (s : State) (t n : Nat) : State :=
  let r := s.terminal t
  (s.putTerminal t { r with watches := r.watches.filter (fun m => !(m == n)) }).done t .unwatch n
    false

/-- UNWATCH (R118). -/
def execUnwatch (line : LineId) (drop : Nat) (args : List Byte) (s : State) : Answer :=
  .next (s.takeRequest line drop .unwatch args readStoryArg fun s t named =>
    s.judgeRequest t .unwatch (carriedStory named) none (s.unwatchChecks t named)
      (s.takeUnwatch t (named.getD 0)))

/-! ### Requests that are not handed on (R88) -/

/-- The request kind shown for a body that begins with no listed kind: a listed one, left free (R193,
DESIGN CHOICE, log 11). -/
def unlistedKind (body : List Byte) : RequestKind :=
  requestKinds.getD (Config.unlistedRequestKind body).val .get

/-- The refusal of a request that is not handed on: UNKNOWN for its kind, LENGTH for its arguments, and
LENGTH for a body that carries no kind (R88, R200, log 11). -/
def State.refuseUnknown (s : State) (t : Nat) (body : List Byte) : State :=
  match body with
  | [] => s.refuseRequest t (unlistedKind body) .length none none
  | k :: _ =>
    match readRequestKind k with
    | none => s.refuseRequest t (unlistedKind body) .unknown none none
    | some .keys => s.refuseRequest t .keys .unknown none none
    | some q => s.refuseRequest t q .length none none

/-- A REQUEST answer that is no known request, or whose arguments do not fit it (R88). -/
def execUnknownRequest (line : LineId) (drop : Nat) (body : List Byte) (s : State) : Answer :=
  .next (s.takeAnswer line drop body.length fun s => s.refuseUnknown (terminalOf line drop) body)

end Sys2Proof.Machine
end

