-- ==== Sys2Proof/Machine/Dispatch.lean ====
section
/-! DEFINITION. One arm for each command of the table: one direct call of its meaning. -/

namespace Sys2Proof.Machine

def exec (i : Instr) (s : State) : Host.Outcome State Fault Refusal :=
  match i with
  | .idle b => Sys2Proof.Machine.execIdle b s
  | .run b => Sys2Proof.Machine.execRun b s
  | .restart b => Sys2Proof.Machine.execRestart b s
  | .ackRestart b => Sys2Proof.Machine.execAckRestart b s
  | .loadDesk b => Sys2Proof.Machine.execLoadDesk b s
  | .loadRoute b => Sys2Proof.Machine.execLoadRoute b s
  | .loadDiversion b => Sys2Proof.Machine.execLoadDiversion b s
  | .loadTerminal b => Sys2Proof.Machine.execLoadTerminal b s
  | .setPressure b => Sys2Proof.Machine.execSetPressure b s
  | .reseed b => Sys2Proof.Machine.execReseed b s
  | .setTiming b => Sys2Proof.Machine.execSetTiming b s
  | .setReporting b => Sys2Proof.Machine.execSetReporting b s
  | .read b => Sys2Proof.Machine.execRead b s
  | .readStatus b => Sys2Proof.Machine.execReadStatus b s
  | .announce b => Sys2Proof.Machine.execAnnounce b s
  | .revise b => Sys2Proof.Machine.execRevise b s
  | .purge b => Sys2Proof.Machine.execPurge b s
  | .move b => Sys2Proof.Machine.execMove b s
  | .pull b => Sys2Proof.Machine.execPull b s
  | .screen b => Sys2Proof.Machine.execScreen b s
  | .screenContinuation b => Sys2Proof.Machine.execScreenContinuation b s
  | .planEdition b => Sys2Proof.Machine.execPlanEdition b s
  | .startEdition b => Sys2Proof.Machine.execStartEdition b s
  | .closeEdition b => Sys2Proof.Machine.execCloseEdition b s
  | .sealEdition b => Sys2Proof.Machine.execSealEdition b s
  | .makePage b => Sys2Proof.Machine.execMakePage b s
  | .place b => Sys2Proof.Machine.execPlace b s
  | .lift b => Sys2Proof.Machine.execLift b s
  | .release b => Sys2Proof.Machine.execRelease b s
  | .replate b => Sys2Proof.Machine.execReplate b s
  | .dropPage b => Sys2Proof.Machine.execDropPage b s
  | .typesetMode b => Sys2Proof.Machine.execTypesetMode b s
  | .abortSend b => Sys2Proof.Machine.execAbortSend b s
  | .pageData b => Sys2Proof.Machine.execPageData b s
  | .unknownOrder k b => Sys2Proof.Machine.execUnknownOrder k b s
  | .frameLengthOver k => Sys2Proof.Machine.execFrameLengthOver k s
  | .frameBadCheck k => Sys2Proof.Machine.execFrameBadCheck k s
  | .powerOn => Sys2Proof.Machine.execPowerOn s
  | .rstinRelease => Sys2Proof.Machine.execRstinRelease s
  | .fullRestart => Sys2Proof.Machine.execFullRestart s
  | .warmRestart => Sys2Proof.Machine.execWarmRestart s
  | .noticeFrameEnd => Sys2Proof.Machine.execNoticeFrameEnd s
  | .pageCallOwedOffered => Sys2Proof.Machine.execPageCallOwedOffered s
  | .storeSilenceExpiry => Sys2Proof.Machine.execStoreSilenceExpiry s
  | .pollFrameSent l => Sys2Proof.Machine.execPollFrameSent l s
  | .nil l d k b => Sys2Proof.Machine.execNil l d k b s
  | .keys l d b => Sys2Proof.Machine.execKeys l d b s
  | .get l d a => Sys2Proof.Machine.execGet l d a s
  | .getNext l d a => Sys2Proof.Machine.execGetNext l d a s
  | .send l d a => Sys2Proof.Machine.execSend l d a s
  | .returnStory l d a => Sys2Proof.Machine.execReturn l d a s
  | .spike l d a => Sys2Proof.Machine.execSpike l d a s
  | .pullRequest l d a => Sys2Proof.Machine.execPullRequest l d a s
  | .view l d a => Sys2Proof.Machine.execView l d a s
  | .back l d a => Sys2Proof.Machine.execBack l d a s
  | .list l d a => Sys2Proof.Machine.execList l d a s
  | .watch l d a => Sys2Proof.Machine.execWatch l d a s
  | .unwatch l d a => Sys2Proof.Machine.execUnwatch l d a s
  | .badAnswerFrame l => Sys2Proof.Machine.execBadAnswerFrame l s
  | .pollWindowExpiry l => Sys2Proof.Machine.execPollWindowExpiry l s
  | .idleWaitExpiry l => Sys2Proof.Machine.execIdleWaitExpiry l s
  | .outputFrameEnd l => Sys2Proof.Machine.execOutputFrameEnd l s
  | .nudgeExpiry n => Sys2Proof.Machine.execNudgeExpiry n s
  | .samplePeriod => Sys2Proof.Machine.execSamplePeriod s
  | .tsrdyAsserted => Sys2Proof.Machine.execTsrdyAsserted s
  | .galleyBlockEnd r => Sys2Proof.Machine.execGalleyBlockEnd r s
  | .dataTimerExpiry => Sys2Proof.Machine.execDataTimerExpiry s
  | .waitTimerExpiry => Sys2Proof.Machine.execWaitTimerExpiry s
  | .unknownRequest l d b => Sys2Proof.Machine.execUnknownRequest l d b s

end Sys2Proof.Machine
end

