-- ==== Sys2Proof/Decode.lean ====
section
/-! DEFINITION. Which command a frame or an answer is (R177, R195, R197, R199, R200), and the frame or answer
of a command. The opcode table gives its rows no bits, so no word spells a command. -/

namespace Sys2Proof

open Machine

/-- The command that the bits of an opcode table row spell: none, since no row of the table has bits. -/
def decodeTableWord (_nbits _w : Nat) : Option Instr := none

/-- The READ order of a body, by its table (R182, R183). -/
def Instr.ofReadBody : List Byte → Instr
  | [] => .read []
  | b :: rest => if b = ReadTable.status.code then .readStatus rest else .read (b :: rest)

/-- The SCREEN order of a body, by its continuation flag (R106). -/
def Instr.ofScreenBody (body : List Byte) : Instr :=
  if continuationFlag body then .screenContinuation body else .screen body

/-- The constructors of the order kinds that need no look at the body, with their codes (R195). -/
def orderTable : List (Byte × (List Byte → Instr)) :=
  [ (Kind.idle, .idle), (Kind.run, .run), (Kind.restart, .restart),
    (Kind.ackRestart, .ackRestart), (Kind.loadDesk, .loadDesk), (Kind.loadRoute, .loadRoute),
    (Kind.loadDiversion, .loadDiversion), (Kind.loadTerminal, .loadTerminal),
    (Kind.setPressure, .setPressure), (Kind.reseed, .reseed), (Kind.setTiming, .setTiming),
    (Kind.setReporting, .setReporting), (Kind.read, Instr.ofReadBody),
    (Kind.announce, .announce), (Kind.revise, .revise), (Kind.purge, .purge),
    (Kind.move, .move), (Kind.pull, .pull), (Kind.screen, Instr.ofScreenBody),
    (Kind.planEdition, .planEdition), (Kind.startEdition, .startEdition),
    (Kind.closeEdition, .closeEdition), (Kind.sealEdition, .sealEdition),
    (Kind.makePage, .makePage), (Kind.place, .place), (Kind.lift, .lift),
    (Kind.release, .release), (Kind.replate, .replate), (Kind.dropPage, .dropPage),
    (Kind.typesetMode, .typesetMode), (Kind.abortSend, .abortSend), (Kind.pageData, .pageData) ]

/-- The constructor of an order kind in a table. -/
def lookupOrder (kind : Byte) : List (Byte × (List Byte → Instr)) → Option (List Byte → Instr)
  | [] => none
  | (k, f) :: rest => if kind = k then some f else lookupOrder kind rest

/-- Whether a kind byte is the code of an order (R177, R195). -/
def isOrderKind (kind : Byte) : Bool := (lookupOrder kind orderTable).isSome

/-- The command of a valid frame (R177). -/
def Instr.ofFrame (kind : Byte) (body : List Byte) : Instr :=
  match lookupOrder kind orderTable with
  | some f => f body
  | none => .unknownOrder kind body

/-- The command of a REQUEST answer (R88, R200). -/
def Instr.ofRequest (line : LineId) (drop : Nat) (body : List Byte) : Instr :=
  if requestFits body then
    match body with
    | [] => .unknownRequest line drop []
    | k :: args =>
      match readRequestKind k with
      | some .get => .get line drop args
      | some .getNext => .getNext line drop args
      | some .view => .view line drop args
      | some .back => .back line drop args
      | some .send => .send line drop args
      | some .returnStory => .returnStory line drop args
      | some .spike => .spike line drop args
      | some .pull => .pullRequest line drop args
      | some .list => .list line drop args
      | some .watch => .watch line drop args
      | some .unwatch => .unwatch line drop args
      | some .keys => .unknownRequest line drop (k :: args)
      | none => .unknownRequest line drop (k :: args)
  else .unknownRequest line drop body

/-- The kind codes of KEYS and REQUEST answers (R199). -/
def keysKind : Byte := 0x62

/-- The kind code of a REQUEST answer (R199). -/
def requestKind : Byte := 0x63

/-- The command of an answer frame with a good check (R87, R199). -/
def Instr.ofAnswer (line : LineId) (drop : Nat) (kind : Byte) (body : List Byte) : Instr :=
  if kind = keysKind then .keys line drop body
  else if kind = requestKind then .ofRequest line drop body
  else .nil line drop kind body

/-- The kind and body of the valid frame a command arrives in, for the commands that arrive in one
(R195, R197). -/
def Instr.frame? : Instr → Option (Byte × List Byte)
  | .idle b => some (Kind.idle, b)
  | .run b => some (Kind.run, b)
  | .restart b => some (Kind.restart, b)
  | .ackRestart b => some (Kind.ackRestart, b)
  | .loadDesk b => some (Kind.loadDesk, b)
  | .loadRoute b => some (Kind.loadRoute, b)
  | .loadDiversion b => some (Kind.loadDiversion, b)
  | .loadTerminal b => some (Kind.loadTerminal, b)
  | .setPressure b => some (Kind.setPressure, b)
  | .reseed b => some (Kind.reseed, b)
  | .setTiming b => some (Kind.setTiming, b)
  | .setReporting b => some (Kind.setReporting, b)
  | .read b => some (Kind.read, b)
  | .readStatus b => some (Kind.read, ReadTable.status.code :: b)
  | .announce b => some (Kind.announce, b)
  | .revise b => some (Kind.revise, b)
  | .purge b => some (Kind.purge, b)
  | .move b => some (Kind.move, b)
  | .pull b => some (Kind.pull, b)
  | .screen b => some (Kind.screen, b)
  | .screenContinuation b => some (Kind.screen, b)
  | .planEdition b => some (Kind.planEdition, b)
  | .startEdition b => some (Kind.startEdition, b)
  | .closeEdition b => some (Kind.closeEdition, b)
  | .sealEdition b => some (Kind.sealEdition, b)
  | .makePage b => some (Kind.makePage, b)
  | .place b => some (Kind.place, b)
  | .lift b => some (Kind.lift, b)
  | .release b => some (Kind.release, b)
  | .replate b => some (Kind.replate, b)
  | .dropPage b => some (Kind.dropPage, b)
  | .typesetMode b => some (Kind.typesetMode, b)
  | .abortSend b => some (Kind.abortSend, b)
  | .pageData b => some (Kind.pageData, b)
  | .unknownOrder k b => some (k, b)
  | .frameLengthOver _ | .frameBadCheck _ | .powerOn | .rstinRelease | .fullRestart | .warmRestart
  | .noticeFrameEnd | .pageCallOwedOffered | .storeSilenceExpiry | .pollFrameSent _
  | .nil .. | .keys .. | .get .. | .getNext .. | .send .. | .returnStory .. | .spike ..
  | .pullRequest .. | .view .. | .back .. | .list .. | .watch .. | .unwatch ..
  | .badAnswerFrame _ | .pollWindowExpiry _ | .idleWaitExpiry _ | .outputFrameEnd _
  | .nudgeExpiry _ | .samplePeriod | .tsrdyAsserted | .galleyBlockEnd _ | .dataTimerExpiry
  | .waitTimerExpiry | .unknownRequest .. => none

/-- The line, address, kind and body of the answer frame a command arrives in, for the commands that
arrive in one (R199, R200). -/
def Instr.answer? : Instr → Option (LineId × Nat × Byte × List Byte)
  | .nil l d k b => some (l, d, k, b)
  | .keys l d b => some (l, d, keysKind, b)
  | .get l d a => some (l, d, requestKind, RequestKind.get.code :: a)
  | .getNext l d a => some (l, d, requestKind, RequestKind.getNext.code :: a)
  | .send l d a => some (l, d, requestKind, RequestKind.send.code :: a)
  | .returnStory l d a => some (l, d, requestKind, RequestKind.returnStory.code :: a)
  | .spike l d a => some (l, d, requestKind, RequestKind.spike.code :: a)
  | .pullRequest l d a => some (l, d, requestKind, RequestKind.pull.code :: a)
  | .view l d a => some (l, d, requestKind, RequestKind.view.code :: a)
  | .back l d a => some (l, d, requestKind, RequestKind.back.code :: a)
  | .list l d a => some (l, d, requestKind, RequestKind.list.code :: a)
  | .watch l d a => some (l, d, requestKind, RequestKind.watch.code :: a)
  | .unwatch l d a => some (l, d, requestKind, RequestKind.unwatch.code :: a)
  | .unknownRequest l d b => some (l, d, requestKind, b)
  | .idle _ | .run _ | .restart _ | .ackRestart _ | .loadDesk _ | .loadRoute _ | .loadDiversion _
  | .loadTerminal _ | .setPressure _ | .reseed _ | .setTiming _ | .setReporting _ | .read _
  | .readStatus _ | .announce _ | .revise _ | .purge _ | .move _ | .pull _ | .screen _
  | .screenContinuation _ | .planEdition _ | .startEdition _ | .closeEdition _ | .sealEdition _
  | .makePage _ | .place _ | .lift _ | .release _ | .replate _ | .dropPage _ | .typesetMode _
  | .abortSend _ | .pageData _ | .unknownOrder .. | .frameLengthOver _ | .frameBadCheck _
  | .powerOn | .rstinRelease | .fullRestart | .warmRestart | .noticeFrameEnd
  | .pageCallOwedOffered | .storeSilenceExpiry | .pollFrameSent _ | .badAnswerFrame _
  | .pollWindowExpiry _ | .idleWaitExpiry _ | .outputFrameEnd _ | .nudgeExpiry _ | .samplePeriod
  | .tsrdyAsserted | .galleyBlockEnd _ | .dataTimerExpiry | .waitTimerExpiry => none

end Sys2Proof
end

