-- ==== Sys2Proof/Machine/Framer.lean ====
section
/-! DEFINITION. The receive framer of the store link (R174, R175), those of the terminal lines (R85, R199), and
what the part does while no command waits: it takes the next byte on SKRX, or on a terminal line, or,
with none there, lets a millisecond pass (logs 1 and 2). -/

namespace Sys2Proof.Machine

/-- SYN (R193). -/
def syn : Byte := 0x5A

/-- The command of a completed frame: the frame's order when the check it carries is the one computed,
and otherwise a frame with a wrong check (R174, R176). -/
def checkedFrame (kind : Byte) (body : List Byte) (check : Nat) : Instr :=
  if check = checkSum (kind :: be2 body.length ++ body) then Instr.ofFrame kind body
  else .frameBadCheck kind

/-- The framer once its length is known: a frame that is too long is abandoned (R174, R176). -/
def Framer.afterLength (k : Byte) (n : Nat) : Framer × Option Instr :=
  if Config.frameLimit < n then (.hunt, some (.frameLengthOver k))
  else if n = 0 then (.check1 k [], none)
  else (.body k n [], none)

/-- The framer takes one byte, with the command of the frame that byte completes or spoils (R174). -/
def Framer.take (f : Framer) (b : Byte) : Framer × Option Instr :=
  match f with
  | .hunt => if b = syn then (.kind, none) else (.hunt, none)
  | .kind => (.length1 b, none)
  | .length1 k => (.length2 k b, none)
  | .length2 k hi => Framer.afterLength k (nat2 hi b)
  | .body k n got =>
    if got.length + 1 < n then (.body k n (got ++ [b]), none) else (.check1 k (got ++ [b]), none)
  | .check1 k bytes => (.check2 k bytes b, none)
  | .check2 k bytes hi => (.hunt, some (checkedFrame k bytes (nat2 hi b)))

/-- The framer takes bytes one after another, with the commands of the frames they complete or spoil, in
order (R174). -/
def Framer.takeAll (f : Framer) : List Byte → Framer × List Instr
  | [] => (f, [])
  | b :: rest =>
    let one := f.take b
    let more := one.1.takeAll rest
    (more.1, one.2.toList ++ more.2)

/-! ### Terminal lines (R85, R199) -/

/-- The command of a completed frame on a line: the answer it is when the check it carries is the one
computed, and otherwise a bad frame (R85, R199). -/
def checkedAnswer (l : LineId) (kind address : Byte) (body : List Byte) (check : Nat) : Instr :=
  if check = checkSum (kind :: address :: be2 body.length ++ body) then
    Instr.ofAnswer l address.toNat kind body
  else .badAnswerFrame l

/-- The line's framer once the length is known: a frame longer than the largest answer is a bad one from its
second length byte, and what follows it is discarded (R85, R199). -/
def LineFramer.afterLength (l : LineId) (k a : Byte) (n : Nat) : LineFramer × Option Instr :=
  if Config.answerLimit < n then (.hunt, some (.badAnswerFrame l))
  else if n = 0 then (.check1 k a [], none)
  else (.body k a n [], none)

/-- The framer of line `l` takes one byte, with the command of the frame that byte completes or spoils
(R199). -/
def LineFramer.take (l : LineId) (f : LineFramer) (b : Byte) : LineFramer × Option Instr :=
  match f with
  | .hunt => if b = syn then (.kind, none) else (.hunt, none)
  | .kind => (.address b, none)
  | .address k => (.length1 k b, none)
  | .length1 k a => (.length2 k a b, none)
  | .length2 k a hi => LineFramer.afterLength l k a (nat2 hi b)
  | .body k a n got =>
    if got.length + 1 < n then (.body k a n (got ++ [b]), none) else (.check1 k a (got ++ [b]), none)
  | .check1 k a bytes => (.check2 k a bytes b, none)
  | .check2 k a bytes hi => (.hunt, some (checkedAnswer l k a bytes (nat2 hi b)))

/-- The line's framer takes bytes one after another, with the commands of the frames they complete or spoil,
in order (R199). -/
def LineFramer.takeAll (l : LineId) (f : LineFramer) : List Byte → LineFramer × List Instr
  | [] => (f, [])
  | b :: rest =>
    let one := f.take l b
    let more := one.1.takeAll l rest
    (more.1, one.2.toList ++ more.2)

/-- A byte arrives on line `l`: the controller frames it while the window of an exchange runs, and discards
it otherwise (R84, R85, R199, log 28). -/
def State.takeLineByte (s : State) (l : LineId) (b : Byte) : State :=
  match (s.line l).activity with
  | .awaiting drop due f =>
    { s.putLine l { s.line l with activity := .awaiting drop due (f.take l b).1 } with
      pending := s.pending ++ (f.take l b).2.toList }
  | .sendingPoll _ => s
  | .output _ _ => s
  | .idleWait _ => s

/-! ### No command waits (logs 1 and 2) -/

/-- What the part does while no command waits (logs 1 and 2). -/
def State.idleStep (s : State) : State :=
  match s.skrx, s.lnrx with
  | b :: rest, _ =>
    { s with
      skrx := rest, framer := (s.framer.take b).1, pending := s.pending ++ (s.framer.take b).2.toList }
  | [], (l, b) :: rest => ({ s with lnrx := rest } : State).takeLineByte l b
  | [], [] => { s with now := s.now + 1 }

end Sys2Proof.Machine
end

