-- ==== Sys2Proof/Safety.lean ====
section
/-! DEFINITION. The terms the claims use: which fields of the state two states share, when the part listens to
orders and to a terminal, and the invariants that every step keeps. -/

namespace Sys2Proof.Machine

/-! ### Frames -/

/-- The fields of the state, by name. -/
inductive Field where
  | pending | now | skrx | lnrx | tsrdy | framer | part | storeLost | cause | unacknowledged
  | reportsDropped | queue | sending | restartPending | silenceTimer | reporting | streamPeriod
  | countdown | timing | stories | desks | baskets | routes | diversions | pressures
  | sampleTimer | lines | terminals | freeBlocks | editions | pages | typesetter
  deriving DecidableEq, Repr

/-- Two states share a field. -/
def Field.same (s t : State) : Field → Prop
  | .pending => s.pending = t.pending
  | .now => s.now = t.now
  | .skrx => s.skrx = t.skrx
  | .lnrx => s.lnrx = t.lnrx
  | .tsrdy => s.tsrdy = t.tsrdy
  | .framer => s.framer = t.framer
  | .part => s.part = t.part
  | .storeLost => s.storeLost = t.storeLost
  | .cause => s.cause = t.cause
  | .unacknowledged => s.unacknowledged = t.unacknowledged
  | .reportsDropped => s.reportsDropped = t.reportsDropped
  | .queue => s.queue = t.queue
  | .sending => s.sending = t.sending
  | .restartPending => s.restartPending = t.restartPending
  | .silenceTimer => s.silenceTimer = t.silenceTimer
  | .reporting => s.reporting = t.reporting
  | .streamPeriod => s.streamPeriod = t.streamPeriod
  | .countdown => s.countdown = t.countdown
  | .timing => s.timing = t.timing
  | .stories => s.stories = t.stories
  | .desks => s.desks = t.desks
  | .baskets => s.baskets = t.baskets
  | .routes => s.routes = t.routes
  | .diversions => s.diversions = t.diversions
  | .pressures => s.pressures = t.pressures
  | .sampleTimer => s.sampleTimer = t.sampleTimer
  | .lines => s.lines = t.lines
  | .terminals => s.terminals = t.terminals
  | .freeBlocks => s.freeBlocks = t.freeBlocks
  | .editions => s.editions = t.editions
  | .pages => s.pages = t.pages
  | .typesetter => s.typesetter = t.typesetter

/-- Two states share every field but those of the list. -/
def State.onlyChanges (fs : List Field) (s t : State) : Prop :=
  ∀ f : Field, f ∉ fs → f.same s t

/-- What the offering of notices may change (R179, R180). -/
def noticeFields : List Field := [.queue, .sending, .reportsDropped]

/-- What the arrival of a valid frame may change while the part listens (R177, R188). -/
def frameFields : List Field := [.framer, .silenceTimer]

/-- What an order may change besides its own effect: its frame's arrival, and the notices it draws. -/
def orderFields : List Field := frameFields ++ noticeFields

/-- What the page unit and the typesetter unit may change when pages move, queue and start (R145, R156). -/
def pageFields : List Field := [.pages, .editions, .typesetter] ++ noticeFields

/-- What a seal or a lifting of stories may change besides (R130). -/
def sealFields : List Field := [.stories, .terminals] ++ pageFields

/-! ### When a command is judged -/

/-- The part listens to orders: no ordered restart is held back (R190), and the store processor is not
lost (R189). -/
def State.listening (s : State) : Prop := s.restartPending = none ∧ s.storeLost = false

/-- The state in which a valid frame is judged while the part listens: the framer hunts, and the silence
timer expires one silence timeout from now, by the value held (R174, R177, R188, log 35). -/
def State.heard (s : State) : State :=
  { s with framer := .hunt, silenceTimer := some (s.now + s.timing.silenceTimeout * 1000) }

/-- An order is refused: one REFUSED notice, and nothing else but its frame's arrival (R177). -/
def State.refused (s : State) (kind : Byte) (code : Code) (identifier : Option Nat) : State :=
  s.heard.offer (.refused kind code identifier)

/-- An answer leaves terminal `t` LIVE, from LIVE or FAINT, or from WAKING by its wake count (R89). -/
def State.wakes (s : State) (t : Nat) : Prop :=
  (s.terminal t).liveness = .live ∨ (s.terminal t).liveness = .faint ∨
    ((s.terminal t).liveness = .waking ∧
      (s.line (lineOf t)).wakeNeeded ≤ (s.terminal t).wakeCount + 1)

/-- The content of an answer of the terminal at `drop` is acted on: its line waits for its answer, and the
answer leaves it LIVE, not having been DARK (R84, R87). -/
def State.hears (s : State) (l : LineId) (drop : Nat) : Prop :=
  (∃ due f, (s.line l).activity = .awaiting drop due f) ∧ s.wakes (terminalOf l drop)

/-- The state in which that content is acted on: the liveness update is made (R87, R89, R91). -/
def State.answered (s : State) (l : LineId) (drop : Nat) : State :=
  s.answerLiveness (terminalOf l drop)

/-- Terminal requests are judged, and the store processor is there to answer them (R29, R114). -/
def State.inService (s : State) : Prop := s.part = .running ∧ s.storeLost = false

/-! ### Invariants -/

/-- The collections of bounded size (R34, R113, R117, R120, R179). -/
def State.bounded (s : State) : Prop :=
  s.queue.length ≤ 64 ∧
    ∀ t, (s.terminal t).holds.length ≤ 4 ∧ (s.terminal t).views.length ≤ 8 ∧
      (s.terminal t).watches.length ≤ 4 ∧ (s.terminal t).attentions.length ≤ 4

/-- No basket holds more stories than its desk's capacity, no capacity exceeds 128, and a desk not in use has
an empty basket (R24). -/
def State.basketsFit (s : State) : Prop :=
  ∀ d, (s.basket d).count ≤ (s.desk d).capacity ∧ (s.desk d).capacity ≤ 128 ∧
    ((s.desk d).inUse = false → (s.basket d).count = 0)

/-- A terminal has at most one open frame (R105). -/
def State.oneOpenFrame (s : State) : Prop :=
  ∀ x, ((s.terminal x).outbound.filter OutFrame.isOpen).length ≤ 1

/-- Every table is in its canonical form. -/
def State.canonical (s : State) : Prop :=
  Table.wf none s.stories = true ∧ Table.wf Desk.initial s.desks = true ∧
    Table.wf Basket.initial s.baskets = true ∧ Table.wf routeRowInitial s.routes = true ∧
    Table.wf Diversion.initial s.diversions = true ∧
    Table.wf Pressure.initial s.pressures = true ∧
    Table.wf Terminal.initial s.terminals = true ∧ Table.wf Edition.initial s.editions = true ∧
    Table.wf none s.pages = true

/-- The blocks in use by the frames on the outbound lists. -/
def State.blocksWaiting (s : State) : Nat :=
  (s.terminals.map (fun e => framesBlocks e.2.outbound)).sum

/-- The blocks in use by the frames the four lines are sending. -/
def State.blocksOnLines (s : State) : Nat :=
  s.lines.a.activity.blocks + s.lines.b.activity.blocks + s.lines.c.activity.blocks +
    s.lines.d.activity.blocks

/-- The frame store: the free blocks, those of waiting frames and those of frames being sent are 256
(R103); a terminal is configured exactly when it is not ABSENT, and an ABSENT one has no frame waiting
(R80); the terminal table is in its canonical form. -/
structure State.frameStoreWhole (s : State) : Prop where
  canonical : Table.wf Terminal.initial s.terminals = true
  whole : s.freeBlocks + s.blocksWaiting + s.blocksOnLines = 256
  configured : ∀ x, (s.terminal x).configured = true ↔ (s.terminal x).liveness ≠ .absent
  absent : ∀ x, (s.terminal x).liveness = .absent → (s.terminal x).outbound = []

/-- The timers and the reminders (R45, R49, R50, R54, R59, R188, R189): the sample timer runs exactly while
the part is RUNNING, the store-silence timer exactly while it is not store-lost; a story has a reminder
pending exactly while the part is RUNNING and the story is FILED, unheld and not overdue; no nudge count
exceeds 7, nor 6 for a FILED or HELD story that is not overdue; no desk's R exceeds 7. -/
structure State.timersKept (s : State) : Prop where
  sample : s.sampleTimer.isSome = true ↔ s.part = .running
  silence : s.silenceTimer.isSome = true ↔ s.storeLost = false
  due : ∀ n st, s.story? n = some st →
    (st.nudgeDue.isSome = true ↔
      s.part = .running ∧ st.state = .filed ∧ st.holder = none ∧ st.overdue = false)
  counts : ∀ n st, s.story? n = some st → st.nudgeCount ≤ 7 ∧
    (st.overdue = false → st.state = .filed ∨ st.state = .held → st.nudgeCount ≤ 6)
  limits : ∀ d, (s.desk d).r ≤ 7

/-- The galley buffer never holds more than 32 blocks, and holds at most 1,024 bytes while a call is in hand
(R162); a page has at most 16,777,215 bytes (R158). -/
def State.galleyFits (s : State) : Prop :=
  ∀ x, s.typesetter.send = some x →
    x.buffer.length ≤ 2048 ∧ (x.call ≠ .none → x.buffer.length ≤ 1024) ∧ x.expected ≤ 16777215

/-- Stories, baskets and holds agree (R3, R4, R24, R80): a story is in a basket exactly when it is FILED or
HELD and that desk is its desk, and once; it is HELD exactly when it has a holder, and on a hold list
exactly when that terminal is its holder, and once; a terminal that holds a story is neither ABSENT nor
DARK; a terminal is configured exactly when it is not ABSENT. -/
structure State.storiesStand (s : State) : Prop where
  canonical : Table.wf Terminal.initial s.terminals = true
  filed : ∀ d n, n ∈ (s.basket d).all ↔ ∃ st, s.story? n = some st ∧ st.desk = d ∧
    (st.state = .filed ∨ st.state = .held)
  once : ∀ d, (s.basket d).all.Nodup
  held : ∀ n st, s.story? n = some st → (st.state = .held ↔ st.holder.isSome = true)
  holds : ∀ x n, n ∈ (s.terminal x).holds ↔ ∃ st, s.story? n = some st ∧ st.holder = some x
  holdsOnce : ∀ x, (s.terminal x).holds.Nodup
  awake : ∀ x, (s.terminal x).holds ≠ [] →
    (s.terminal x).liveness ≠ .absent ∧ (s.terminal x).liveness ≠ .dark
  configured : ∀ x, (s.terminal x).configured = true ↔ (s.terminal x).liveness ≠ .absent

/-- Pages, stories, editions and the typesetter queue agree (R126, R136, R142, R149, R155, R158): a page
record in use is one of a page of a PLANNED, RUNNING or CLOSED edition, and no other record is; a story
names a page exactly when the page lists it, at most 12 of them, once each, none SPIKED; a READY, QUEUED
or SENDING page's stories are all SET; the two tiers list exactly the QUEUED pages of their tier, once
each; the page SENDING is the send record's. -/
structure State.pagesStand (s : State) : Prop where
  canonical : Table.wf none s.pages = true
  inRange : ∀ r p, s.page? r = some p → r < 128 ∧ 1 ≤ p.edition ∧ p.edition ≤ 8 ∧ 1 ≤ p.number ∧
    p.number ≤ (s.edition p.edition).planned
  distinct : ∀ r q p o, s.page? r = some p → s.page? q = some o → p.edition = o.edition →
    p.number = o.number → r = q
  alive : ∀ r p, s.page? r = some p → (s.edition p.edition).state = .planned ∨
    (s.edition p.edition).state = .running ∨ (s.edition p.edition).state = .closed
  slots : ∀ e, (s.edition e).slots.length = (s.edition e).planned
  sized : ∀ e, (s.edition e).planned = 0 ∨ 1 ≤ (s.edition e).size
  listed : ∀ r p, s.page? r = some p → p.placement.length ≤ 12 ∧ p.placement.Nodup ∧
    ∀ n ∈ p.placement, ∃ st, s.story? n = some st ∧ st.page = some r ∧ st.state ≠ .spiked ∧
      (p.state = .ready ∨ p.state = .queued ∨ p.state = .sending → st.state = .set)
  placed : ∀ n st r, s.story? n = some st → st.page = some r →
    ∃ p, s.page? r = some p ∧ n ∈ p.placement
  first : ∀ r, r ∈ s.typesetter.firstTier ↔
    ∃ p, s.page? r = some p ∧ p.state = .queued ∧ p.tier = .first
  replate : ∀ r, r ∈ s.typesetter.replateTier ↔
    ∃ p, s.page? r = some p ∧ p.state = .queued ∧ p.tier = .replate
  once : s.typesetter.firstTier.Nodup ∧ s.typesetter.replateTier.Nodup
  sending : ∀ r, (∃ p, s.page? r = some p ∧ p.state = .sending) ↔
    ∃ x, s.typesetter.send = some x ∧ x.page = r
  room : s.typesetter.replateTier.length + s.typesetter.firstTier.length +
    (if s.typesetter.send.isSome then 1 else 0) ≤ 64

/-- The editions (R125, R126): those that have been planned are numbered 1 to 8; at most one is RUNNING, at
most one is CLOSED without the seal-pending mark, and at most one bears that mark; the one that bears it is
CLOSED and holds exactly one page record, of the page SENDING. -/
structure State.editionsStand (s : State) : Prop where
  numbered : ∀ e, (s.edition e).state ≠ .empty → 1 ≤ e ∧ e ≤ 8
  running : ∀ d e, (s.edition d).state = .running → (s.edition e).state = .running → d = e
  closed : ∀ d e, (s.edition d).state = .closed → (s.edition d).sealPending = false →
    (s.edition e).state = .closed → (s.edition e).sealPending = false → d = e
  pending : ∀ d e, (s.edition d).sealPending = true → (s.edition e).sealPending = true → d = e
  sole : ∀ e, (s.edition e).sealPending = true → (s.edition e).state = .closed ∧
    ∃ r p, s.page? r = some p ∧ p.edition = e ∧ p.state = .sending ∧
      ∀ q o, s.page? q = some o → o.edition = e → q = r

/-- A section with a FIRST-tier page QUEUED has no page OPEN or ARMED (R146). -/
def State.sectionsWhole (s : State) : Prop :=
  ∀ r p q o, s.page? r = some p → s.page? q = some o → o.edition = p.edition →
    (o.number - 1) / (s.edition p.edition).size = (p.number - 1) / (s.edition p.edition).size →
    p.state = .queued → p.tier = .first → o.state ≠ .opened ∧ o.state ≠ .armed

/-- Every desk's last load and baseline are within their ranges (R56). -/
def State.pressureInRange (s : State) : Prop :=
  ∀ d, (s.pressure d).load ≤ 255 ∧ (s.pressure d).baseline ≤ 65280

end Sys2Proof.Machine
end

