-- ==== Sys2Proof/WellFormed.lean ====
section
/-! DEFINITION. Which commands can reach the part: an order in a valid frame of its own kind (R174, R195,
R197), an answer of a drop and a body that fit a line (R199, R200), an event of a story that can have a
number (R1). -/

namespace Sys2Proof

open Machine

/-- A body a valid frame can carry (R174). -/
def bodyFits (body : List Byte) : Bool := decide (body.length ≤ Config.frameLimit)

/-- A drop of a line (R78). -/
def dropFits (drop : Nat) : Bool := decide (drop < 24)

/-- A body an answer can carry (R199). -/
def answerBodyFits (body : List Byte) : Bool := decide (body.length ≤ Config.answerLimit)

/-- The well-formed commands. -/
def Instr.wellFormed : Instr → Bool
  | .idle b | .run b | .restart b | .ackRestart b | .loadDesk b | .loadRoute b
  | .loadDiversion b | .loadTerminal b | .setPressure b | .reseed b | .setTiming b
  | .setReporting b | .announce b | .revise b | .purge b | .move b | .pull b
  | .planEdition b | .startEdition b | .closeEdition b | .sealEdition b | .makePage b | .place b
  | .lift b | .release b | .replate b | .dropPage b | .typesetMode b | .abortSend b
  | .pageData b => bodyFits b
  | .read b => bodyFits b && b.head? != some ReadTable.status.code
  | .readStatus b => bodyFits (ReadTable.status.code :: b)
  | .screen b => bodyFits b && !continuationFlag b
  | .screenContinuation b => bodyFits b && continuationFlag b
  | .unknownOrder k b => bodyFits b && !isOrderKind k
  | .frameLengthOver _ | .frameBadCheck _ | .powerOn | .rstinRelease | .fullRestart | .warmRestart
  | .noticeFrameEnd | .pageCallOwedOffered | .storeSilenceExpiry | .pollFrameSent _ => true
  | .nil _ d k b => dropFits d && answerBodyFits b && k != keysKind && k != requestKind
  | .keys _ d b => dropFits d && answerBodyFits b
  | .get _ d a | .returnStory _ d a | .spike _ d a | .view _ d a | .watch _ d a
  | .unwatch _ d a => dropFits d && a.length == 2
  | .getNext _ d a | .back _ d a => dropFits d && a.length == 0
  | .send _ d a => dropFits d && a.length == 4
  | .pullRequest _ d a => dropFits d && a.length == 3
  | .list _ d a => dropFits d && a.length == 2
  | .unknownRequest _ d b => dropFits d && answerBodyFits b && !requestFits b
  | .nudgeExpiry n => decide (n < Config.storyCount)
  | .badAnswerFrame _ | .pollWindowExpiry _ | .idleWaitExpiry _ | .outputFrameEnd _
  | .samplePeriod | .tsrdyAsserted | .galleyBlockEnd _ | .dataTimerExpiry | .waitTimerExpiry => true

/-- The body of an order has the length its layout gives, a layout that ends in a field of carried length
counting that length, and a SCREEN text and a PAGE DATA byte count being at most 1,024 (R106, R160,
R177, R197). A command that is no order has no layout. -/
def Instr.lengthFits : Instr → Bool
  | .idle b | .run b | .ackRestart b | .abortSend b => b.length == 0
  | .restart b | .reseed b | .startEdition b | .closeEdition b | .sealEdition b | .release b
  | .replate b | .dropPage b | .typesetMode b => b.length == 1
  | .purge b | .lift b | .makePage b => b.length == 2
  | .place b | .readStatus b => b.length == 3
  | .loadTerminal b | .read b | .move b | .pull b | .planEdition b => b.length == 4
  | .loadDiversion b | .setReporting b => b.length == 6
  | .setPressure b => b.length == 11
  | .loadRoute b => b.length == 17
  | .setTiming b => b.length == 20
  | .loadDesk b => decide (8 ≤ b.length) && b.length == 8 + (b.getD 7 0).toNat
  | .announce b => decide (4 ≤ b.length) && b.length == 4 + (b.getD 3 0).toNat
  | .revise b => decide (3 ≤ b.length) && b.length == 3 + (b.getD 2 0).toNat
  | .screen b | .screenContinuation b =>
    decide (6 ≤ b.length) && b.length == 6 + nat2 (b.getD 4 0) (b.getD 5 0) &&
      decide (b.length ≤ 1030)
  | .pageData b =>
    decide (7 ≤ b.length) && b.length == 7 + nat2 (b.getD 5 0) (b.getD 6 0) &&
      decide (b.length ≤ 1031)
  | _ => true

end Sys2Proof
end

