-- ==== Sys2Proof/Certificates/Slice0/Obligations.lean ====
section
/-! DEFINITION. The statements for the provers: what the manual's rules say of the model's commands, operations
and steps. `State.heard` is the state in which a valid frame is judged, `State.answered` the one in
which an answer's content is acted on (Safety.lean). -/

open Sys2Proof Sys2Proof.Machine

/-- For every state whose queue begins with a command c, one step answers what exec answers for c on
the same state with the queue's rest. (95_what_each_step_holds.md: What each step holds.) -/
def Obligations.StepRunsTheFrontCommand : Prop :=
  ∀ (c : Instr) (rest : List Instr) (s : State), s.pending = c :: rest →
    step s = exec c { s with pending := rest }

/-- The model's choice (logs 1, 2 and 28): with an empty queue of commands, a step hands the next
byte on SKRX to the framer and queues the command of the frame that byte completes or spoils;
with no byte there, it hands the next byte of a terminal line to the line's framer in the same
way while the line's window runs, and drops it otherwise; with no byte there either it only moves
the clock by one millisecond. (09_the_store_link.md, R174, 05_terminal_lines.md, R84, R85,
10_frame_and_record_layouts.md, R199.) -/
def Obligations.IdleStepTakesAByteOrAMillisecond : Prop :=
  ∀ s : State, s.pending = [] →
    (∀ b rest, s.skrx = b :: rest →
      step s = .next
        { s with
          skrx := rest, framer := (s.framer.take b).1, pending := (s.framer.take b).2.toList }) ∧
    (∀ l b rest, s.skrx = [] → s.lnrx = (l, b) :: rest →
      (∀ drop due f, (s.line l).activity = .awaiting drop due f →
        step s = .next
          (State.putLine { s with lnrx := rest, pending := (f.take l b).2.toList } l
            { s.line l with activity := .awaiting drop due (f.take l b).1 })) ∧
      ((∀ drop due f, (s.line l).activity ≠ .awaiting drop due f) →
        step s = .next { s with lnrx := rest })) ∧
    (s.skrx = [] → s.lnrx = [] → step s = .next { s with now := s.now + 1 })

/-- With no command waiting and the framer in HUNT, a byte of SKRX that is not SYN is dropped:
nothing else of the state changes, so it draws no notice and does not restart the silence timer.
(R175.) -/
def Obligations.HuntDropsStrayBytes : Prop :=
  ∀ (s : State) (b : Byte) (rest : List Byte),
    s.pending = [] → s.framer = .hunt → s.skrx = b :: rest → b ≠ 0x5A →
    step s = .next { s with skrx := rest }

/-- For every command and every state, exec answers a next state (never a fault or a refusal), and
the commands still waiting are the same. The model's choices in it: a restart keeps the waiting
commands (log 22), an event that cannot occur completes and changes nothing (log 3), and so does
every operand, also one that no frame can bring (log 23). (95_what_each_step_holds.md: What each
step holds, 00_scope.md, Conventions (taken and refused).) -/
def Obligations.EveryCommandCompletes : Prop :=
  ∀ (c : Instr) (s : State), ∃ t, exec c s = .next t ∧ t.pending = s.pending

/-- The reset state: every story number, page record and terminal is free or unconfigured, every desk
out of use with an empty basket and the default parameters, routes NONE, diversions out of use,
editions EMPTY, every frame store block free, timing and reporting at their defaults, the part
LOADING and not store-lost with cause POWER, unacknowledged, the typesetter in HOLD with one
CANCEL block (page none, sequence 0) pending. The model's choices: the RESTARTED notice is being
sent already and the queue is empty (log 7), and TSRDY is deasserted, so that the CANCEL block
still waits (log 4). (01_stories_and_the_copy_directory.md, R19, 02_desks_baskets_and_routing.md,
R21, R26 to R28, 04_desk_pressure.md, R57, R74, 05_terminal_lines.md, R79, R80, R98,
06_screens_views_and_watches.md, R122, 07_editions_and_pages.md, R152, 08_the_typesetter_line.md,
R171, 09_the_store_link.md, R181, R184, R191.) -/
def Obligations.ResetLeavesThePartClear : Prop :=
  (∀ n, State.reset.story? n = none) ∧ (∀ r, State.reset.page? r = none) ∧
    (∀ t, State.reset.terminal t = Terminal.initial) ∧
    (∀ d, State.reset.desk d = Desk.initial ∧ State.reset.basket d = Basket.initial ∧
      State.reset.pressure d = Pressure.initial) ∧
    (∀ c d, State.reset.route c d = .none) ∧ (∀ i, State.reset.diversion i = Diversion.initial) ∧
    (∀ e, State.reset.edition e = Edition.initial) ∧ State.reset.freeBlocks = 256 ∧
    (∀ l, (State.reset.line l).window = 20 ∧ (State.reset.line l).allowance = 2 ∧
      (State.reset.line l).darkLimit = 3 ∧ (State.reset.line l).wakeNeeded = 2 ∧
      (State.reset.line l).position = none ∧ (State.reset.line l).cycle = 0 ∧
      (State.reset.line l).outputCount = 0 ∧ (State.reset.line l).lastOutput = 23) ∧
    State.reset.timing =
      { samplePeriod := 5, lowWater := 32, stallTimeout := 30, silenceTimeout := 5 } ∧
    State.reset.reporting =
      { copy := true, terminal := true, pressure := true, page := true, typesetter := true } ∧
    State.reset.streamPeriod = 0 ∧ State.reset.countdown = none ∧
    State.reset.part = .loading ∧ State.reset.storeLost = false ∧ State.reset.cause = .power ∧
    State.reset.unacknowledged = true ∧ State.reset.reportsDropped = false ∧
    State.reset.framer = .hunt ∧ State.reset.sending = some (.restarted .power) ∧
    State.reset.queue = [] ∧ State.reset.silenceTimer = some 5000 ∧
    State.reset.sampleTimer = none ∧ State.reset.typesetter.mode = .hold ∧
    State.reset.typesetter.send = none ∧ State.reset.typesetter.depth = 0 ∧
    State.reset.typesetter.stalled = false ∧
    State.reset.typesetter.cancel = some { page := none, sequence := 0 } ∧
    State.reset.tsrdy = { asserted := false, falls := [] }

/-- The reset state has its collections and pressure values within their bounds, its tables in
canonical form, its frame store whole, its timers as its part state has them, its galley buffer
within its bounds, its stories, baskets, holds, pages and typesetter queue in agreement, no
basket above its capacity, no terminal with two open frames, and no two editions RUNNING, CLOSED
without the seal-pending mark, or bearing it. (02_desks_baskets_and_routing.md, R24,
05_terminal_lines.md, R80, 06_screens_views_and_watches.md, R103, R105, 07_editions_and_pages.md,
R126, R146, 09_the_store_link.md, R179, R188.) -/
def Obligations.ResetMeetsTheInvariants : Prop :=
  State.reset.bounded ∧ State.reset.pressureInRange ∧ State.reset.canonical ∧
    State.reset.frameStoreWhole ∧ State.reset.timersKept ∧ State.reset.galleyFits ∧
    State.reset.storiesStand ∧ State.reset.pagesStand ∧ State.reset.basketsFit ∧
    State.reset.oneOpenFrame ∧ State.reset.editionsStand ∧ State.reset.sectionsWhole

/-- From every state in which the free blocks, the blocks of waiting frames and the blocks of frames
being sent on the four lines add up to 256, a terminal is configured exactly when it is not
ABSENT, and an ABSENT one has no frame waiting (the terminal table being canonical), a step leads
to such a state: no block is lost or used twice. (06_screens_views_and_watches.md, R103, R104,
05_terminal_lines.md, R80, R82, R96, R97.) -/
def Obligations.FrameStoreStaysWhole : Prop :=
  ∀ s t : State, s.frameStoreWhole → step s = .next t → t.frameStoreWhole

/-- From every state whose nine tables list rising numbers and no reset value, a step leads to such a
state, so that equal tables are equal data (the model's own form of holding them).
(10_frame_and_record_layouts.md, READ records.) -/
def Obligations.TablesStayCanonical : Prop :=
  ∀ s t : State, s.canonical → step s = .next t → t.canonical

/-- From every state in which the send's buffer holds at most 2,048 bytes, at most 1,024 while a call
is owed or outstanding, and its expected offset is at most 16,777,215, a step leads to such a
state. (08_the_typesetter_line.md, R158, R159, R160, R162.) -/
def Obligations.GalleyBufferNeverOverflows : Prop :=
  ∀ s t : State, s.galleyFits → step s = .next t → t.galleyFits

/-- From every state in which the notice queue holds at most 64 notices, every terminal at most 4
holds, 8 view entries, 4 watches and 4 attentions, and every desk a last load of at most 255 and
a baseline of at most 65,280, a step leads to such a state. It keeps two more things that hold
before it: that no basket holds more stories than its desk's capacity, no capacity exceeds 128
and a desk not in use has an empty basket; and that no terminal has more than one open frame.
(02_desks_baskets_and_routing.md, R24, R25, 04_desk_pressure.md, R56, R61, R68,
05_terminal_lines.md, R80, 06_screens_views_and_watches.md, R105, R113, R117, R120,
09_the_store_link.md, R179.) -/
def Obligations.CollectionsStayBounded : Prop :=
  ∀ s t : State, s.bounded → s.pressureInRange → step s = .next t →
    t.bounded ∧ t.pressureInRange ∧ (s.basketsFit → t.basketsFit) ∧
    (s.oneOpenFrame → t.oneOpenFrame)

/-- From every state in which the sample timer runs exactly while the part is RUNNING, and the
store-silence timer exactly while it is not store-lost; a story has a reminder pending exactly
while the part is RUNNING and the story FILED, unheld and not overdue; and no nudge count exceeds
7, nor 6 for a FILED or HELD story that is not overdue, and no desk's R exceeds 7: a step leads
to such a state. (Stories and hold lists are in agreement.) (03_unattended_copy.md, R45, R47 to
R50, R54, 04_desk_pressure.md, R59, 09_the_store_link.md, R185, R188, R189.) -/
def Obligations.TimersFollowThePartState : Prop :=
  ∀ s t : State, s.timersKept → s.storiesStand → step s = .next t → t.timersKept

/-- From HUNT, the bytes of a store link frame (SYN, kind, length, body, check) with any kind and any
body of up to 1,040 bytes, taken one at a time, lead the framer back to HUNT with exactly one
command, the order of that kind and body; with any other check they lead to exactly one command,
the frame with a wrong check of that kind. The framer of a terminal line does the same with the
bytes of an answer of up to 80 body bytes (the address standing after the kind): the command is
the answer of that line, address, kind and body, or with any other check a bad frame of that
line. (09_the_store_link.md, R174, R176, 05_terminal_lines.md, R85,
10_frame_and_record_layouts.md, R194, R199.) -/
def Obligations.FramerDeliversTheFrame : Prop :=
  ∀ (kind : Byte) (body : List Byte),
    (body.length ≤ 1040 →
      Framer.takeAll .hunt (storeFrame kind body) = (.hunt, [Instr.ofFrame kind body]) ∧
      ∀ hi lo : Byte, nat2 hi lo ≠ checkSum (kind :: be2 body.length ++ body) →
        Framer.takeAll .hunt ([0x5A, kind] ++ be2 body.length ++ body ++ [hi, lo]) =
          (.hunt, [.frameBadCheck kind])) ∧
    (body.length ≤ 80 → ∀ (l : LineId) (address : Byte),
      LineFramer.takeAll l .hunt (lineFrame kind address.toNat body) =
        (.hunt, [Instr.ofAnswer l address.toNat kind body]) ∧
      ∀ hi lo : Byte, nat2 hi lo ≠ checkSum (kind :: address :: be2 body.length ++ body) →
        LineFramer.takeAll l .hunt ([0x5A, kind, address] ++ be2 body.length ++ body ++ [hi, lo]) =
          (.hunt, [.badAnswerFrame l]))

/-- From HUNT, SYN, any kind and two length bytes that give more than 1,040 lead the framer back to
HUNT with one command, the frame length over of that kind; two length bytes that give 1 to 1,040
leave it in BODY, and 0 in CHECK, with no command yet. On a terminal line, with the address after
the kind, two length bytes that give more than 80 lead back to HUNT with one bad frame of the
line, 1 to 80 to the body, and 0 to the check. (09_the_store_link.md, R174, R176,
05_terminal_lines.md, R85, 10_frame_and_record_layouts.md, R199.) -/
def Obligations.OversizeFrameIsAbandoned : Prop :=
  ∀ kind hi lo : Byte,
    let n := hi.toNat * 256 + lo.toNat
    let taken := Framer.takeAll .hunt [0x5A, kind, hi, lo]
    (1040 < n → taken = (.hunt, [.frameLengthOver kind])) ∧
    (n = 0 → taken = (.check1 kind [], [])) ∧
    (0 < n → n ≤ 1040 → taken = (.body kind n [], [])) ∧
    ∀ (l : LineId) (address : Byte),
      let answer := LineFramer.takeAll l .hunt [0x5A, kind, address, hi, lo]
      (80 < n → answer = (.hunt, [.badAnswerFrame l])) ∧
      (n = 0 → answer = (.check1 kind address [], [])) ∧
      (0 < n → n ≤ 80 → answer = (.body kind address n [], []))

/-- For every well-formed command that arrives in a store link frame, the command of its frame's kind
and body is the command itself; for every one that arrives in a poll answer, so is the command of
its line, drop, kind and body. (09_the_store_link.md, R177, 05_terminal_lines.md, R87, R88,
10_frame_and_record_layouts.md, R195, R197, R199, R200.) -/
def Obligations.CommandsReadBackFromTheirFrames : Prop :=
  ∀ i : Instr, i.wellFormed = true →
    (∀ kind body, i.frame? = some (kind, body) → Instr.ofFrame kind body = i) ∧
    (∀ l drop kind body, i.answer? = some (l, drop, kind, body) →
      Instr.ofAnswer l drop kind body = i)

/-- For every command that arrives in a frame of at most 1,040 bytes: while an ordered restart is
held back and the part is not store-lost, the frame restarts the silence timer and does nothing
else. With no restart held back and the part store-lost, the part stops being store-lost and the
silence timer is started, STORE_BACK is offered to every LIVE terminal, the start test is made,
and the frame is then judged in the state all this leaves; with a restart held back and the part
store-lost, all this happens and the frame is then discarded. The timer is set by the silence
timeout held as the frame is handled, as R188 says; that R192 has another value for a frame
before a SET TIMING is settled so by the model (log 35). (09_the_store_link.md, R177, R188, R189,
R190.) -/
def Obligations.ValidFramesEndStoreLostOrAreDiscarded : Prop :=
  ∀ (i : Instr) (kind : Byte) (body : List Byte) (s : State),
    i.frame? = some (kind, body) → body.length ≤ 1040 →
    (s.restartPending.isSome = true → s.storeLost = false → exec i s = .next s.heard) ∧
    (s.storeLost = true →
      let back := (State.attendAll { s.heard with storeLost := false } s.liveTerminals
        .storeBack).startTest
      (s.restartPending = none → exec i s = exec i back) ∧
      (s.restartPending.isSome = true → exec i s = .next back))

/-- A frame that is too long draws REFUSED with FRAMING and one with a wrong check REFUSED with
CHECK, each with its kind and no identifier, leaving the framer in HUNT and the silence timer as
it was. While the part listens, a valid frame of a kind that is no order draws REFUSED with
UNKNOWN and no identifier, and an order whose body has not the length of its layout draws one
REFUSED with its kind and LENGTH, changing nothing but its frame's arrival. That notice has no
identifier where the order's rule names none (log 9 reads which); it has the first byte of the
body where the rule names a desk, terminal, edition, page record or table that stands there, and
the first two bytes where it names a story. Only for a body too short to hold it is the
identifier left open (the model's choice, log 10). The refusal codes have their values of R196.
(09_the_store_link.md, R176, R177, 10_frame_and_record_layouts.md, R196, R197, R198.) -/
def Obligations.BadFramesAreRefused : Prop :=
  ∀ (s : State) (kind : Byte) (body : List Byte),
    exec (.frameLengthOver kind) s =
      .next (State.offer { s with framer := .hunt } (.refused kind .framing none)) ∧
    exec (.frameBadCheck kind) s =
      .next (State.offer { s with framer := .hunt } (.refused kind .check none)) ∧
    (s.listening → body.length ≤ 1040 →
      exec (.unknownOrder kind body) s = .next (s.refused kind .unknown none) ∧
      ∀ i : Instr, i.frame? = some (kind, body) → i.lengthFits = false →
        ∃ ident, exec i s = .next (s.refused kind .length ident) ∧
          (kind.toNat ∈ [0x01, 0x02, 0x03, 0x04, 0x05, 0x06, 0x07, 0x09, 0x0A, 0x0B, 0x0C, 0x15,
            0x17, 0x18, 0x1B, 0x1C, 0x1E, 0x1F, 0x20] → ident = none) ∧
          (∀ b rest, kind.toNat ∈ [0x08, 0x0D, 0x0E, 0x13, 0x14, 0x19, 0x1D, 0x21] →
            body = b :: rest → ident = some b.toNat) ∧
          (∀ hi lo rest, kind.toNat ∈ [0x0F, 0x10, 0x11, 0x12, 0x1A] →
            body = hi :: lo :: rest → ident = some (hi.toNat * 256 + lo.toNat))) ∧
    [Code.notReady, .storeLost, .noStory, .held, .notHolder, .limit, .role, .state, .noRoute,
      .sameDesk, .full, .placed, .pageBusy, .late, .edition, .busy, .range, .occupied, .duplicate,
      .noTerminal, .dark, .offset, .unknown, .length, .check, .framing].map
        (fun c => c.code.toNat) =
      List.range' 1 17 ++ List.range' 19 9

/-- An answer or traffic notice needs 1 free entry and a report of an enabled group 8; a report of a
disabled group is not admitted and sets no flag; an answer or an enabled report that finds no
room sets the reports-dropped flag and nothing else, and a traffic notice that finds none changes
nothing; RESTARTED is always admitted. An admitted notice joins the tail of the queue behind the
notice being sent, and is itself sent at once when the transmitter is free and the queue empty
(log 7). At the end of a notice's frame the oldest queued notice begins or the line is free; a
restart held back is taken instead; with no notice being sent nothing happens (log 3). No owed
PAGE CALL is offered within the end of a frame (the model's reading, log 5). A notice's frame is
SYN, its kind, its length, its body and the check, each kind with the body R198 lays out; with no
notice being sent SKTX carries the filler byte 00h. (09_the_store_link.md, R179, R180, R181,
R190, 10_frame_and_record_layouts.md, R193, R194, R195, R198.) -/
def Obligations.NoticesAreAdmittedAndSent : Prop :=
  ∀ (s : State) (n : Notice),
    let room : Nat := match n.noticeClass with
      | .answer => 1
      | .traffic => 1
      | .report _ => 8
      | .restart => 0
    let disabled : Bool := match n.noticeClass with
      | .report g => !s.reporting.enabled g
      | _ => false
    (disabled = true → s.offer n = s) ∧
    (disabled = false → 64 - s.queue.length < room →
      s.offer n =
        if n.noticeClass = .traffic then s else { s with reportsDropped := true }) ∧
    (disabled = false → room ≤ 64 - s.queue.length →
      (s.sending.isSome = true → s.offer n = { s with queue := s.queue ++ [n] }) ∧
      (s.sending = none → s.restartPending = none → s.queue = [] →
        s.offer n = { s with sending := some n })) ∧
    (s.sending = some n → s.restartPending = none →
      (s.queue = [] → exec .noticeFrameEnd s = .next { s with sending := none }) ∧
      ∀ m rest, s.queue = m :: rest →
        exec .noticeFrameEnd s = .next { s with sending := some m, queue := rest }) ∧
    (s.sending = some n → s.restartPending = some .full →
      exec .noticeFrameEnd s = .next (s.coldRestart .fullOrder)) ∧
    (s.sending = some n → s.restartPending = some .warm →
      exec .noticeFrameEnd s = .next s.warmRestart) ∧
    (s.sending = none → exec .noticeFrameEnd s = .next s ∧ s.sktx = [0x00]) ∧
    (s.sending = some n → s.sktx = n.frame) ∧
    (let two := fun k : Nat => [byte (k / 256), byte k]
      let three := fun k : Nat => [byte (k / 65536), byte (k / 256), byte k]
      let one := fun o : Option Nat => o.elim 0xFF byte
      let pair := fun o : Option Nat => o.elim [0xFF, 0xFF] two
      let flag := fun b : Bool => if b then (0x01 : Byte) else 0x00
      let is := fun (m : Notice) (kind : Byte) (body : List Byte) =>
        m.frame = [0x5A, kind] ++ two body.length ++ body ++
          two (((kind :: two body.length ++ body).map BitVec.toNat).sum % 65536)
      (∀ k c i, is (.refused k c i) 0x40 ([k, c.code] ++ pair i)) ∧
      (∀ c, is (.restarted c) 0x41 [c.code]) ∧
      (∀ x : Status, is (.status x) 0x42
        ([x.part.code, flag x.storeLost, x.cause.code, flag x.unacknowledged,
          flag x.reportsDropped, byte x.noticeFree] ++ two x.blocksFree ++ two x.directoryCount ++
        [byte x.queueDepth, x.mode.code, one x.sending, flag x.stalled] ++
          x.editions.map EditionState.code)) ∧
      (∀ b d k rs, is (.records b d k rs) 0x43
        ([b, one d] ++ two k ++ [byte rs.length] ++ rs.flatten)) ∧
      (∀ t bs, is (.keys t bs) 0x44 ([byte t, byte bs.length] ++ bs)) ∧
      (∀ t k r c, is (.textWanted t k r c) 0x45 ([byte t] ++ two k ++ [byte r, c.code])) ∧
      (∀ t r, is (.refreshWanted t r) 0x46 [byte t, r.code]) ∧
      (∀ r e k o, is (.pageCall r e k o) 0x48
        ([byte r, byte e, byte k] ++ three o ++ [0x04, 0x00])) ∧
      (∀ c k st d r cause slug, is (.copyEvent c k st d r cause slug none) 0x49
        ([c.code] ++ two k ++ [st.code, byte d, byte r, cause.code, byte slug.length] ++ slug)) ∧
      (∀ c k st d r cause slug m, is (.copyEvent c k st d r cause slug (some m)) 0x49
        ([c.code] ++ two k ++ [st.code, byte d, byte r, cause.code, byte m])) ∧
      (∀ t live d r m, is (.terminalEvent t live d r m) 0x4A
        [byte t, flag live, byte d, r.code, byte m]) ∧
      (∀ d on c k b, is (.pressureEvent d on c k b) 0x4B
        [byte d, if on then 0x00 else 0x01, c.code, byte k, byte b]) ∧
      (∀ es, is (.pressureReport es) 0x4C (byte es.length ::
        es.flatMap (fun e => [byte e.desk, byte e.load, byte e.rounded, e.surge.code]))) ∧
      (∀ r e k st t b p m c, is (.pageEvent r e k st t b p m c) 0x4D
        [byte r, byte e, byte k, st.elim 0x07 PageState.code, t.code, flag b, flag p, byte m,
          c.code]) ∧
      (∀ e k p z a c slots, is (.editionReport e k p z a c slots) 0x4E
        ([byte e, k.code, byte p, byte z, byte a, byte c] ++
          slots.map (fun x => byte (x.code.code * 16 + x.replates)))) ∧
      (∀ k r e p cause a b, is (.typesetterEvent k (some (r, e, p)) cause a b) 0x4F
        ([k.code, byte r, byte e, byte p, abandonCode cause] ++ three a ++ three b)) ∧
      (∀ k cause a b, is (.typesetterEvent k none cause a b) 0x4F
        ([k.code, 0xFF, 0xFF, 0xFF, abandonCode cause] ++ three a ++ three b))) ∧
    [PartState.loading, .running].map PartState.code = [0, 1] ∧
    [RestartCause.power, .pin, .fullOrder, .warmOrder].map RestartCause.code = [0, 1, 2, 3] ∧
    [OutputMode.hold, .run, .step].map OutputMode.code = [0, 1, 2] ∧
    [Change.announced, .held, .released, .moved, .set, .spiked, .revised, .placed, .lifted, .gone,
      .overdue].map Change.code = [0, 1, 2, 3, 4, 5, 6, 7, 8, 9, 10] ∧
    requestKinds.map RequestKind.code = [1, 2, 3, 4, 5, 6, 7, 8, 9, 10, 11, 12] ∧
    (∀ x, (CopyCause.terminal x).code = byte x) ∧
    [CopyCause.order, .darkness, .nudge].map CopyCause.code = [0xFC, 0xFD, 0xFE] ∧
    [PageCause.order, .gate, .story, .join, .withdrawn, .typesetter, .seal].map PageCause.code =
      [0, 1, 2, 3, 4, 5, 6] ∧
    [PressureCause.sample, .reseed, .closed].map PressureCause.code = [0, 1, 2] ∧
    [RefreshReason.live, .degrade].map RefreshReason.code = [0, 1] ∧
    [EditionReportKind.complete, .sealed].map EditionReportKind.code = [0, 1] ∧
    [TypesetterEventKind.stall, .stallCleared, .abandoned].map TypesetterEventKind.code =
      [0, 1, 2] ∧
    [some AbandonCause.noData, some .storeLost, some .abort, none].map abandonCode =
      [0, 1, 2, 0xFF]

/-- While the part listens: ACK RESTART clears the restart-unacknowledged flag; SET REPORTING writes
its five flags and N and sets the stream countdown to N, or to absent for 0; SET TIMING writes
its twenty values, each clamped to its range, and nothing else; SET PRESSURE of a desk above 15
is refused RANGE, and any other writes the ten parameters, clamped, and nothing else. RESEED of a
desk above 15 is refused RANGE and of a desk out of use STATE; any other sets the last load to
the load sample, the baseline to 256 times it, CALM, count 0 and no mark, and offers PRESSURE
EVENT SURGE_OFF with cause RESEED when the desk was in SURGE or EASING. None names an identifier
(log 9). (09_the_store_link.md, R181, R184, R191, 05_terminal_lines.md, R79, 04_desk_pressure.md,
R57, R58, R72.) -/
def Obligations.SettingOrdersWriteTheirValues : Prop :=
  ∀ s : State, s.listening →
    exec (.ackRestart []) s = .next { s.heard with unacknowledged := false } ∧
    (∀ c t p g y n : Byte, exec (.setReporting [c, t, p, g, y, n]) s = .next
      { s.heard with
        reporting := { copy := c != 0, terminal := t != 0, pressure := p != 0, page := g != 0,
                       typesetter := y != 0 },
        streamPeriod := n.toNat, countdown := if n = 0 then none else some n.toNat }) ∧
    (∀ (p low stall silence : Byte) (w k d n : LineId → Byte),
      ∃ t, exec (.setTiming
          [p, w .a, k .a, d .a, n .a, w .b, k .b, d .b, n .b, w .c, k .c, d .c, n .c, w .d, k .d,
            d .d, n .d, low, stall, silence]) s = .next t ∧
        t.timing =
          { samplePeriod := max 1 (min 60 p.toNat), lowWater := max 16 (min 128 low.toNat),
            stallTimeout := max 5 stall.toNat, silenceTimeout := max 1 (min 60 silence.toNat) } ∧
        (∀ l, t.line l =
          { s.line l with
            window := max 5 (min 100 (w l).toNat), allowance := max 1 (min 8 (k l).toNat),
            darkLimit := max 1 (min 15 (d l).toNat),
            wakeNeeded := max 1 (min 3 (n l).toNat) }) ∧
        s.onlyChanges (frameFields ++ [.timing, .lines]) t) ∧
    (∀ d bq bd bf w f k h de dx hold : Byte,
      exec (.setPressure [d, bq, bd, bf, w, f, k, h, de, dx, hold]) s = .next
        (if 15 < d.toNat then s.refused Kind.setPressure .range none
        else s.heard.putDesk d.toNat
          { s.desk d.toNat with
            params :=
              { quietBeta := max 1 (min 8 bq.toNat), deadlineBeta := max 1 (min 8 bd.toNat),
                fastBeta := min 8 bf.toNat, fastBand := w.toNat, floor := max 1 (min 63 f.toNat),
                proportional := k.toNat, hysteresis := h.toNat,
                enterDebounce := max 1 (min 15 de.toNat),
                exitDebounce := max 1 (min 15 dx.toNat), hold := hold != 0 } })) ∧
    (∀ d : Byte, exec (.reseed [d]) s = .next
      (if 15 < d.toNat then s.refused Kind.reseed .range none
      else if (s.desk d.toNat).inUse = false then s.refused Kind.reseed .state none
      else
        let load := s.loadSample d.toNat
        let t := s.heard.putPressure d.toNat
          { load := load, baseline := 256 * load, surge := .calm, count := 0,
            reseedPending := false }
        if (s.pressure d.toNat).surge = .surge ∨ (s.pressure d.toNat).surge = .easing then
          t.offer (.pressureEvent d.toNat false .reseed load load)
        else t))

/-- While the part listens: RUN taken in LOADING completes; it makes the part RUNNING, sets the first
sample P seconds from now, schedules a reminder at its own count for every FILED unheld story
that is not overdue and leaves every other story as it was, touches nothing else, and then makes
the start test, which a send that may start now starts; RUN in RUNNING is refused STATE. IDLE
taken in RUNNING completes; it makes the part LOADING, withdraws the sample, clears every due
time with counts and marks kept, and touches nothing else; IDLE in LOADING is refused STATE.
Neither names an identifier. (09_the_store_link.md, R186, R187, 03_unattended_copy.md, R46, R54,
04_desk_pressure.md, R59, 08_the_typesetter_line.md, R156.) -/
def Obligations.RunResumesAndIdleRests : Prop :=
  ∀ s : State, s.listening →
    (s.part = .loading → ∃ u : State, exec (.run []) s = .next u.startTest ∧
      u.part = .running ∧
      u.sampleTimer = some (s.now + s.timing.samplePeriod * 1000) ∧
      (∀ n, u.story? n = (s.story? n).map (fun st =>
        if st.state = .filed ∧ st.holder = none ∧ st.overdue = false then
          { st with nudgeDue := some (s.now + 1000 *
              min ((s.desk st.desk).t * (s.desk st.desk).m ^ st.nudgeCount) 3600) }
        else st)) ∧
      s.heard.onlyChanges [.part, .sampleTimer, .stories] u) ∧
    (s.part = .running → exec (.run []) s = .next (s.refused Kind.run .state none)) ∧
    (s.part = .running → ∃ t, exec (.idle []) s = .next t ∧ t.part = .loading ∧
      t.sampleTimer = none ∧
      (∀ n, t.story? n = (s.story? n).map (fun st => { st with nudgeDue := none })) ∧
      s.heard.onlyChanges [.part, .sampleTimer, .stories] t) ∧
    (s.part = .loading → exec (.idle []) s = .next (s.refused Kind.idle .state none))

/-- While the part listens: a RESTART of kind FULL or WARM is taken at once when no notice is being
sent, and otherwise held back with nothing else changed; any other kind is refused RANGE. A
restart held back is taken by FULL RESTART or WARM RESTART of its own kind, and without one held
back those change nothing: that these two commands take it, beside the end of the notice's frame,
is the model's reading (log 6). (09_the_store_link.md, R190.) -/
def Obligations.RestartOrderIsTakenOrHeld : Prop :=
  ∀ (s : State) (k : Byte) (n : Notice), s.listening →
    (s.sending = none →
      exec (.restart [0]) s = .next (s.heard.coldRestart .fullOrder) ∧
      exec (.restart [1]) s = .next s.heard.warmRestart) ∧
    (s.sending = some n →
      exec (.restart [0]) s = .next { s.heard with restartPending := some .full } ∧
      exec (.restart [1]) s = .next { s.heard with restartPending := some .warm }) ∧
    (k ≠ 0 → k ≠ 1 → exec (.restart [k]) s = .next (s.refused Kind.restart .range none)) ∧
    exec .fullRestart { s with restartPending := some .full } =
      .next (State.coldRestart { s with restartPending := some .full } .fullOrder) ∧
    exec .warmRestart { s with restartPending := some .warm } =
      .next (State.warmRestart { s with restartPending := some .warm }) ∧
    exec .fullRestart s = .next s ∧ exec .warmRestart s = .next s

/-- POWER ON and RSTIN RELEASE, in every state, and FULL RESTART and the end of a notice frame with a
full restart held back, and RESTART FULL taken with no notice being sent, leave the reset state
but for what stands outside the part (the waiting commands, the clock, the bytes on SKRX and the
lines, and TSRDY: the model's choice, log 22): every table, directory, edition, page and terminal
at its reset values, the line defaults, cause POWER, PIN or FULL ORDER, RESTARTED with that cause
being sent and an empty notice queue (log 7), the silence timer started, each line in its first
idle wait in cycle 0 (log 8), and the CANCEL block pending or, with TSRDY found asserted, begun
at once (log 4: the level the part was last told of, judged afresh). That FULL RESTART and the
frame's end each take the restart held back is log 6. (09_the_store_link.md, R190, R191,
01_stories_and_the_copy_directory.md, R19, 02_desks_baskets_and_routing.md, R26 to R28,
04_desk_pressure.md, R74, 05_terminal_lines.md, R98, R100, 06_screens_views_and_watches.md, R122,
07_editions_and_pages.md, R152, 08_the_typesetter_line.md, R171.) -/
def Obligations.ColdResetClearsThePart : Prop :=
  ∀ (s : State) (c : Instr) (cause : RestartCause),
    (c = .powerOn ∧ cause = .power ∨ c = .rstinRelease ∧ cause = .pin ∨
      cause = .fullOrder ∧
        (c = .fullRestart ∧ s.restartPending = some .full ∨
          c = .noticeFrameEnd ∧ s.restartPending = some .full ∧ s.sending.isSome = true ∨
          c = .restart [0] ∧ s.listening ∧ s.sending = none)) →
    ∃ t, exec c s = .next t ∧ t.cause = cause ∧ t.sending = some (.restarted cause) ∧
      t.queue = [] ∧ t.restartPending = none ∧ t.unacknowledged = true ∧
      t.reportsDropped = false ∧ t.silenceTimer = some (s.now + 5000) ∧
      (∀ l, (t.line l).position = none ∧ (t.line l).cycle = 0 ∧ (t.line l).outputCount = 0 ∧
        (t.line l).lastOutput = 23 ∧ (t.line l).window = 20 ∧ (t.line l).allowance = 2 ∧
        (t.line l).darkLimit = 3 ∧ (t.line l).wakeNeeded = 2 ∧
        (t.line l).activity = .idleWait (s.now + 20)) ∧
      t.typesetter.mode = .hold ∧ t.typesetter.send = none ∧ t.typesetter.depth = 0 ∧
      t.typesetter.stalled = false ∧
      ( let level := s.tsrdy.asserted && !(s.tsrdy.falls.headD false)
        t.tsrdy = (if s.tsrdy.asserted then { asserted := level, falls := s.tsrdy.falls.tail }
          else s.tsrdy) ∧
        (level = false → t.typesetter.block = none ∧
          t.typesetter.cancel = some { page := none, sequence := 0 } ∧
          t.typesetter.waitTimer = some (s.now + 30000)) ∧
        (level = true → t.typesetter.cancel = none ∧
          t.typesetter.block = some (.cancel { page := none, sequence := 0 }))) ∧
      State.reset.onlyChanges
        [.pending, .now, .skrx, .lnrx, .tsrdy, .cause, .sending, .silenceTimer, .lines,
          .typesetter] t ∧
      s.onlyChanges
        [.tsrdy, .framer, .part, .storeLost, .cause, .unacknowledged, .reportsDropped, .queue,
          .sending, .restartPending, .silenceTimer, .reporting, .streamPeriod, .countdown, .timing,
          .stories, .desks, .baskets, .routes, .diversions, .pressures, .sampleTimer, .lines,
          .terminals, .freeBlocks, .editions, .pages, .typesetter] t

/-- A warm restart keeps desks, baskets, routes, diversions, the timing values and the line settings;
makes every HELD story FILED in place and clears every due time, the rest of a story kept; makes
every desk CALM with count 0 and marks every desk in use for a reseed; makes every configured
terminal WAKING with its desk and role and nothing else; frees every block; leaves the part
LOADING, cause WARM ORDER, reporting at its defaults, RESTARTED being sent (log 7); keeps what
stands outside the part (log 22). Editions, report tables, pages and the typesetter queue are
kept, but that a page SENDING is abandoned with no notice: broken and not stale-pending, QUEUED
at the head of its tier, or READY when it is FIRST tier and a page of its section is OPEN or
ARMED, its slot showing so; what follows the end of a send comes after RESTARTED (log 18), and
with the seal-pending mark the edition is SEALED and the page freed. The CANCEL block, of that
page and its next sequence or of none and 0, is pending, or begun at once when TSRDY is found
asserted (log 4). Each line polls its lowest configured drop, or waits idle, in cycle 0 (log 8).
(The terminal table is canonical, and pages and queue agree.) (09_the_store_link.md, R190, R191,
01_stories_and_the_copy_directory.md, R20, 04_desk_pressure.md, R75, 05_terminal_lines.md, R99,
R100, 06_screens_views_and_watches.md, R122, 07_editions_and_pages.md, R135, R153,
08_the_typesetter_line.md, R163, R167, R171, R172.) -/
def Obligations.WarmRestartKeepsTheTables : Prop :=
  ∀ s : State, Table.wf Terminal.initial s.terminals = true → ∃ u t : State,
    let v := match s.typesetter.send with
      | some x => u.afterSend (s.page x.page).edition
      | none => u
    let c : Cancel := match s.typesetter.send with
      | some x => { page := some x.page, sequence := x.nextSequence }
      | none => { page := none, sequence := 0 }
    let level := s.tsrdy.asserted && !(s.tsrdy.falls.headD false)
    let ready := fun l d => d < 24 ∧ (s.terminal (terminalOf l d)).configured = true
    exec .warmRestart { s with restartPending := some .warm } = .next t ∧
    (∀ n, u.story? n = (s.story? n).map (fun st =>
      { st with
        state := if st.state = .held then .filed else st.state, holder := none,
        nudgeDue := none })) ∧
    (∀ d, d < 16 → u.pressure d =
      { s.pressure d with
        surge := .calm, count := 0,
        reseedPending := (s.pressure d).reseedPending || (s.desk d).inUse }) ∧
    (∀ x, u.terminal x =
      if (s.terminal x).configured then
        { Terminal.initial with
          configured := true, desk := (s.terminal x).desk, role := (s.terminal x).role,
          liveness := .waking }
      else Terminal.initial) ∧
    u.freeBlocks = 256 ∧ u.part = .loading ∧ u.storeLost = false ∧ u.cause = .warmOrder ∧
    u.unacknowledged = true ∧ u.reportsDropped = false ∧ u.restartPending = none ∧
    u.framer = .hunt ∧ u.sampleTimer = none ∧ u.countdown = none ∧ u.streamPeriod = 0 ∧
    u.reporting = Reporting.initial ∧ u.queue = [] ∧ u.sending = some (.restarted .warmOrder) ∧
    u.silenceTimer = some (s.now + s.timing.silenceTimeout * 1000) ∧
    s.onlyChanges
      [.framer, .part, .storeLost, .cause, .unacknowledged, .reportsDropped, .queue, .sending,
        .restartPending, .silenceTimer, .reporting, .streamPeriod, .countdown, .stories,
        .pressures, .sampleTimer, .lines, .terminals, .freeBlocks, .editions, .pages,
        .typesetter] u ∧
    u.typesetter =
      { u.typesetter with
        mode := .hold, send := none, cancel := some c, stalled := false, waiting := false,
        waitTimer := none, block := none } ∧
    (s.typesetter.send = none → u.pages = s.pages ∧ u.editions = s.editions ∧
      u.typesetter.replateTier = s.typesetter.replateTier ∧
      u.typesetter.firstTier = s.typesetter.firstTier) ∧
    (∀ x p, s.typesetter.send = some x → s.page? x.page = some p → s.pagesStand →
      let unready := p.tier = .first ∧ ∃ r q, s.page? r = some q ∧ q.edition = p.edition ∧
        (q.number - 1) / (s.edition p.edition).size =
          (p.number - 1) / (s.edition p.edition).size ∧
        (q.state = .opened ∨ q.state = .armed)
      let slot : SlotCode → Edition := fun code =>
        { s.edition p.edition with
          slots := (s.edition p.edition).slots.set (p.number - 1)
            { code := code, replates := p.replates } }
      (∀ r, r ≠ x.page → u.page? r = s.page? r) ∧
      (∀ e, e ≠ p.edition → u.edition e = s.edition e) ∧
      (unready → u.edition p.edition = slot .ready) ∧
      (¬ unready → u.edition p.edition = slot .queued) ∧
      (unready →
        u.page? x.page = some { p with state := .ready, broken := true, stalePending := false } ∧
        u.typesetter.firstTier = s.typesetter.firstTier ∧
        u.typesetter.replateTier = s.typesetter.replateTier) ∧
      (¬ unready →
        u.page? x.page = some { p with state := .queued, broken := true, stalePending := false } ∧
        u.typesetter.firstTier =
          (if p.tier = .first then [x.page] else []) ++ s.typesetter.firstTier ∧
        u.typesetter.replateTier =
          (if p.tier = .replate then [x.page] else []) ++ s.typesetter.replateTier) ∧
      ((s.edition p.edition).sealPending = true →
        t.page? x.page = none ∧ (t.edition p.edition).state = .sealed)) ∧
    t.typesetter.firstTier = v.typesetter.firstTier ∧
    t.typesetter.replateTier = v.typesetter.replateTier ∧
    t.typesetter.mode = .hold ∧ t.typesetter.send = none ∧ t.typesetter.stalled = false ∧
    (level = true → t.typesetter.cancel = none ∧ t.typesetter.block = some (.cancel c)) ∧
    (level = false → t.typesetter.cancel = some c ∧ t.typesetter.block = none ∧
      t.typesetter.waitTimer = some (s.now + s.timing.stallTimeout * 1000)) ∧
    t.tsrdy = (if s.tsrdy.asserted then { asserted := level, falls := s.tsrdy.falls.tail }
      else s.tsrdy) ∧
    (∀ l, (t.line l).window = (s.line l).window ∧
      (t.line l).allowance = (s.line l).allowance ∧
      (t.line l).darkLimit = (s.line l).darkLimit ∧
      (t.line l).wakeNeeded = (s.line l).wakeNeeded ∧ (t.line l).cycle = 0 ∧
      (t.line l).outputCount = 0 ∧ (t.line l).lastOutput = 23 ∧
      (∀ d, ready l d → (∀ e, ready l e → d ≤ e) →
        (t.line l).position = some d ∧ (t.line l).activity = .sendingPoll d) ∧
      ((∀ d, ¬ ready l d) → (t.line l).position = none ∧
        (t.line l).activity = .idleWait (s.now + (s.line l).window))) ∧
    v.onlyChanges [.lines, .tsrdy, .typesetter] t

/-- With the store-silence timer running and a canonical terminal table, its expiry completes: the
part is store-lost, the timer stopped and the framer in HUNT; a STORE_LOST attention is queued
for every LIVE terminal and for no other (a queue of 4 loses its oldest, and the new one carries
the earlier lost mark); every open frame is discarded and its blocks return to the store; the
clock stands at the expiry or later (the model's choice, log 1); nothing else changes. A page
SENDING is then abandoned with cause STORE_LOST, and with none nothing follows. With the timer
stopped nothing happens (log 3). (09_the_store_link.md, R176, R188,
06_screens_views_and_watches.md, R104, R120, R123, 08_the_typesetter_line.md, R169.) -/
def Obligations.StoreSilenceEntersStoreLost : Prop :=
  ∀ (s : State) (due : Nat),
    (s.silenceTimer = some due → Table.wf Terminal.initial s.terminals = true →
      ∃ u : State, exec .storeSilenceExpiry s = .next (u.abandon .storeLost) ∧
        (s.typesetter.send = none → u.abandon .storeLost = u) ∧
        u.storeLost = true ∧ u.silenceTimer = none ∧ u.framer = .hunt ∧ u.now = max s.now due ∧
        (∀ x, u.terminal x =
          { s.terminal x with
            outbound := (s.terminal x).outbound.filter (fun f => !f.isOpen),
            attentions :=
              if (s.terminal x).liveness ≠ .live then (s.terminal x).attentions
              else if (s.terminal x).attentions.length < 4 then
                (s.terminal x).attentions ++ [{ body := .storeLost, earlierLost := false }]
              else
                (s.terminal x).attentions.tail ++
                  [{ body := .storeLost, earlierLost := true }] }) ∧
        u.freeBlocks = s.freeBlocks + (s.terminals.map (fun e =>
          ((e.2.outbound.filter OutFrame.isOpen).map OutFrame.blocks).sum)).sum ∧
        s.onlyChanges [.storeLost, .silenceTimer, .framer, .now, .terminals, .freeBlocks] u) ∧
    (s.silenceTimer = none → exec .storeSilenceExpiry s = .next s)

/-- While the part listens. READ of STATUS, whatever its start and count: with a free entry a STATUS
notice with the values as they stand, the free entries counting the one it takes, is offered and
the reports-dropped flag is cleared; with none the flag is set; nothing else changes. READ of any
other table: a byte that names no table is refused RANGE with the table as identifier, and so is
a start outside the table (for BASKET, the desk in the high byte and the start in the low byte);
otherwise one RECORDS notice is offered with the records from the start, as many as the count
clamped to 1 to 16, and not beyond the table's last record. Each record is the bytes R203 lays
out, the enumerations in it coded by R193; for a terminal with more than 255 frames waiting the
frame count byte is left open (the model's choice, log 29). (09_the_store_link.md, R182, R183,
10_frame_and_record_layouts.md, R193, R197, R201, R203.) -/
def Obligations.ReadsAnswerWithPresentValues : Prop :=
  ∀ (s : State) (table hi lo count : Byte), s.listening →
    ( let st : Status :=
        { part := s.part, storeLost := false, cause := s.cause,
          unacknowledged := s.unacknowledged, reportsDropped := s.reportsDropped,
          noticeFree := 64 - s.queue.length, blocksFree := s.freeBlocks,
          directoryCount := s.stories.length,
          queueDepth := s.typesetter.replateTier.length + s.typesetter.firstTier.length,
          mode := s.typesetter.mode, sending := s.typesetter.send.map Send.page,
          stalled := s.typesetter.stalled,
          editions := [(s.edition 1).state, (s.edition 2).state, (s.edition 3).state,
            (s.edition 4).state, (s.edition 5).state, (s.edition 6).state, (s.edition 7).state,
            (s.edition 8).state] }
      exec (.readStatus [hi, lo, count]) s = .next
        (if s.queue.length < 64 then
          { s.heard.offer (.status st) with reportsDropped := false }
        else { s.heard with reportsDropped := true })) ∧
    (table ≠ 9 →
        let start := hi.toNat * 256 + lo.toNat
        let c := max 1 (min 16 count.toNat)
        let refused := s.refused Kind.read .range (some table.toNat)
        let upTo := fun (last : Nat) (record : Nat → List Byte) =>
          s.heard.offer (.records table none start
            ((List.range' start (min c (last - start))).map record))
        exec (.read [table, hi, lo, count]) s = .next
          (if table = 1 then if 1023 < start then refused else upTo 1024 s.storyRecord
          else if table = 2 then if 15 < start then refused else upTo 16 s.deskRecord
          else if table = 3 then if 95 < start then refused else upTo 96 s.terminalRecord
          else if table = 4 then if 31 < start then refused else upTo 32 s.routeRecord
          else if table = 5 then if 7 < start then refused else upTo 8 s.diversionRecord
          else if table = 6 then if 127 < start then refused else upTo 128 s.pageRecord
          else if table = 7 then
            if start < 1 ∨ 8 < start then refused else upTo 9 s.editionRecord
          else if table = 8 then
            if 15 < hi.toNat ∨ 127 < lo.toNat then refused
            else s.heard.offer (.records table (some hi.toNat) lo.toNat
              ((((s.basket hi.toNat).all.drop lo.toNat).take c).map
                (fun n => (s.listEntry n).bytes)))
          else refused)) ∧
    (let two := fun k : Nat => [byte (k / 256), byte k]
      let one := fun o : Option Nat => o.elim 0xFF byte
      let pair := fun o : Option Nat => o.elim [0xFF, 0xFF] two
      let flag := fun b : Bool => if b then (0x01 : Byte) else 0x00
      let pad := fun (k : Nat) (l : List Byte) => (l ++ List.replicate k 0x00).take k
      let stories := fun (k : Nat) (ns : List Nat) =>
        (ns.flatMap two ++ List.replicate (2 * k) 0xFF).take (2 * k)
      (∀ n, s.story? n = none → s.storyRecord n = two n ++ List.replicate 25 0x00) ∧
      (∀ n st, s.story? n = some st → s.storyRecord n =
        two n ++ [0x01, byte st.slug.length] ++ pad 12 st.slug ++
        [byte st.cls, byte st.desk, st.state.code, flag st.flash, one st.holder, byte st.revision,
          one st.page, byte st.nudgeCount, flag st.overdue] ++
        pair (st.nudgeDue.map (fun due => (due - s.now + 999) / 1000))) ∧
      (∀ d, let e := s.desk d
        let q := e.params
        let p := s.pressure d
        s.deskRecord d = [byte d, flag e.inUse, byte e.name.length] ++ pad 8 e.name ++
          [byte e.capacity, one e.duty, byte e.t, byte e.m, byte e.r,
            byte ((s.basket d).flash.length + (s.basket d).ordinary.length), byte q.quietBeta,
            byte q.deadlineBeta, byte q.fastBeta, byte q.fastBand, byte q.floor,
            byte q.proportional, byte q.hysteresis, byte q.enterDebounce, byte q.exitDebounce,
            flag q.hold, byte p.load] ++ two p.baseline ++
          [p.surge.code, byte p.count, flag p.reseedPending]) ∧
      (∀ t, let r := s.terminal t
        s.terminalRecord t =
          [byte t, flag r.configured, byte r.desk, r.role.code, r.liveness.code, byte r.missCount,
            byte r.wakeCount, flag r.wasDark, flag r.refreshOwed.isSome, byte r.holds.length] ++
          stories 4 r.holds ++ [byte r.views.length] ++ pair r.views.head? ++
          [byte r.watches.length] ++ stories 4 r.watches ++
          [byte r.attentions.length,
            if r.outbound.length ≤ 255 then byte r.outbound.length
            else Config.frameCountByte r.outbound.length] ++
          two (r.outbound.map OutFrame.blocks).sum) ∧
      (∀ c, s.routeRecord c = byte c :: (List.range 16).map (fun d => match s.route c d with
        | .desk k => byte k
        | .set => 0xFE
        | .none => 0xFF)) ∧
      (∀ i, let e := s.diversion i
        s.diversionRecord i = [byte i, flag e.inUse, byte e.fromDesk, one e.cls,
          if e.condition = .always then 0x00 else 0x01, byte e.toDesk]) ∧
      (∀ r, s.page? r = none → s.pageRecord r = byte r :: List.replicate 33 0x00) ∧
      (∀ r p, s.page? r = some p → s.pageRecord r =
        [byte r, 0x01, byte p.edition, byte p.number, p.state.code, p.tier.code, flag p.broken,
          flag p.stalePending, byte p.replates, byte p.placement.length] ++
        stories 12 p.placement) ∧
      (∀ k, let x := s.edition k
        s.editionRecord k =
          [byte k, x.state.code, byte x.planned, byte x.size, byte x.allowance, byte x.counter,
            flag x.sealPending, flag x.completeReported, byte x.slots.length] ++
          x.slots.map (fun y => byte (y.code.code * 16 + y.replates))) ∧
      (∀ e : ListEntry, e.bytes = two e.story ++ pad 12 e.slug ++
        [byte (e.flash.toNat + 2 * e.held.toNat + 4 * e.overdue.toNat), byte e.revision])) ∧
    [StoryState.filed, .held, .set, .spiked].map StoryState.code = [0, 1, 2, 3] ∧
    [Role.writer, .editor, .chief].map Role.code = [0, 1, 2] ∧
    [Liveness.absent, .waking, .live, .faint, .dark].map Liveness.code = [0, 1, 2, 3, 4] ∧
    [SurgeState.calm, .rising, .surge, .easing].map SurgeState.code = [0, 1, 2, 3] ∧
    [EditionState.empty, .planned, .running, .closed, .sealed].map EditionState.code =
      [0, 1, 2, 3, 4] ∧
    [PageState.opened, .armed, .ready, .queued, .sending, .sent, .stale].map PageState.code =
      [0, 1, 2, 3, 4, 5, 6] ∧
    [SlotCode.opened, .armed, .ready, .queued, .sent, .stale, .empty].map SlotCode.code =
      [0, 1, 2, 3, 5, 6, 7] ∧
    [Tier.first, .replate].map Tier.code = [0, 1]

/-- For every state and desk, the load sample is the number of unheld ordinary stories in the basket,
plus twice the number of unheld flash stories, plus the number of overdue ones, held or not, and
255 where that sum exceeds 255; a sample writes it into the desk's last load. (R61.) -/
def Obligations.LoadSampleCountsTheBasket : Prop :=
  ∀ (s : State) (d : Nat),
    let unheld := fun n => !((s.story n).state == .held)
    let overdue := fun n => (s.story n).overdue
    let b := s.basket d
    s.loadSample d =
      min 255 (b.ordinary.countP unheld + 2 * b.flash.countP unheld +
        (b.ordinary ++ b.flash).countP overdue) ∧
    ((s.sampleDesk d).pressure d).load = s.loadSample d

/-- For every desk state, parameters, edition condition and load: with D = 256 L - B, E = 256 F +
floor(B K / 256) and X = E - floor(E H / 256), the sample is above when D > E, below when D < X
and neither otherwise; the surge state and count move as R64's table gives; the baseline stays
when hold is on and the state reached is SURGE or EASING, and otherwise moves toward the load by
|D|, or by |D| / 2^beta and at least 1, with beta the fast beta when W is not 0 and |D| > 256 W,
else the deadline beta while an edition runs, else the quiet beta. The load is written and the
mark kept. (04_desk_pressure.md, R62, R63, R64, R66, R67, R68.) -/
def Obligations.SampleMovesTheDesk : Prop :=
  ∀ (p : PressureParams) (running : Bool) (load : Nat) (x : Pressure),
    let y := x.sampled p running load
    let gap : Int := 256 * (load : Int) - (x.baseline : Int)
    let enter : Nat := 256 * p.floor + x.baseline * p.proportional / 256
    let exit : Nat := enter - enter * p.hysteresis / 256
    let beta : Nat :=
      if p.fastBand ≠ 0 ∧ 256 * p.fastBand < gap.natAbs then p.fastBeta
      else if running then p.deadlineBeta
      else p.quietBeta
    let m : Nat := if beta = 0 then gap.natAbs else max 1 (gap.natAbs / 2 ^ beta)
    y.load = load ∧ y.reseedPending = x.reseedPending ∧
    (x.surge = .calm →
      ((enter : Int) < gap → y.count = 1 ∧
        y.surge = if 1 ≥ p.enterDebounce then .surge else .rising) ∧
      (gap ≤ (enter : Int) → y.count = 0 ∧ y.surge = .calm)) ∧
    (x.surge = .rising →
      ((enter : Int) < gap → y.count = x.count + 1 ∧
        y.surge = if y.count ≥ p.enterDebounce then .surge else .rising) ∧
      (gap ≤ (enter : Int) → y.count = 0 ∧ y.surge = .calm)) ∧
    (x.surge = .surge →
      (gap < (exit : Int) → y.count = 1 ∧
        y.surge = if 1 ≥ p.exitDebounce then .calm else .easing) ∧
      ((exit : Int) ≤ gap → y.count = x.count ∧ y.surge = .surge)) ∧
    (x.surge = .easing →
      (gap < (exit : Int) → y.count = x.count + 1 ∧
        y.surge = if y.count ≥ p.exitDebounce then .calm else .easing) ∧
      ((exit : Int) ≤ gap → y.count = 0 ∧ y.surge = .surge)) ∧
    (p.hold = true → y.surge = .surge ∨ y.surge = .easing → y.baseline = x.baseline) ∧
    (p.hold = false ∨ y.surge = .calm ∨ y.surge = .rising →
      (gap = 0 → y.baseline = x.baseline) ∧
      (0 < gap → y.baseline = x.baseline + m ∧ y.baseline ≤ 256 * load) ∧
      (gap < 0 → m ≤ x.baseline ∧ y.baseline = x.baseline - m ∧ 256 * load ≤ y.baseline))

/-- With the sample timer running, its expiry sets the next one the sample period later; every desk
in use whose mark is set takes a reseed, every other desk in use a sample, and no other desk
changes; a present countdown falls by 1 and is set to N again at 0. With the PRESSURE group
enabled, the transmitter busy and 25 entries free, the queue gains one PRESSURE EVENT for each
desk whose sample brought it into or out of surge, in ascending order, and then, when the
countdown came to 0, a PRESSURE REPORT of every desk in use. Nothing else changes but the clock,
which stands at the expiry or later (the model's choice, log 1). (04_desk_pressure.md, R59, R60,
R65, R69, R70, R71, R75.) -/
def Obligations.SamplePeriodSamplesEveryDesk : Prop :=
  ∀ (s : State) (due : Nat), s.sampleTimer = some due → ∃ t, exec .samplePeriod s = .next t ∧
    let used := fun d => (s.desk d).inUse
    let flips := fun d => used d && !(s.pressure d).reseedPending &&
      ((s.pressure d).surge.inSurge != (t.pressure d).surge.inSurge)
    let whole := fun d => ((t.pressure d).baseline + 128) / 256
    t.now = max s.now due ∧
    t.sampleTimer = some (t.now + s.timing.samplePeriod * 1000) ∧
    (∀ d, t.pressure d =
      if d < 16 ∧ used d = true then
        if (s.pressure d).reseedPending then
          { load := s.loadSample d, baseline := 256 * s.loadSample d, surge := .calm, count := 0,
            reseedPending := false }
        else (s.pressure d).sampled (s.desk d).params
          (s.editions.any (fun e => e.2.state == .running)) (s.loadSample d)
      else s.pressure d) ∧
    (s.countdown = none → t.countdown = none) ∧
    (∀ k, s.countdown = some (k + 1) →
      t.countdown = if k = 0 then some s.streamPeriod else some k) ∧
    (s.reporting.pressure = true → s.sending.isSome = true → s.queue.length + 25 ≤ 64 →
      t.queue = s.queue ++
        ((List.range 16).filter flips).map (fun d =>
          .pressureEvent d (t.pressure d).surge.inSurge .sample (t.pressure d).load (whole d)) ++
        (if s.countdown = some 1 then
          [.pressureReport (((List.range 16).filter used).map (fun d =>
            { desk := d, load := (t.pressure d).load, rounded := whole d,
              surge := (t.pressure d).surge }))]
        else [])) ∧
    s.onlyChanges ([.now, .sampleTimer, .pressures, .countdown] ++ noticeFields) t

/-- While the part listens, a LOAD DESK whose name has the length it carries is checked for RANGE
(desk, duty terminal), LENGTH (in use with no name), OCCUPIED (in use with a clamped capacity
below the basket's count), OCCUPIED (out of use with stories or configured terminals), in that
order; a taken one writes the clamped values and the first 8 characters of the name, keeps the
pressure parameters, and, when the desk comes into or goes out of use, zeroes its pressure state,
with SURGE_OFF cause CLOSED, carrying load 0 and baseline 0 (the values as the handling has left
them, the model's reading, log 14), for a desk in SURGE or EASING that goes out of use. The order
names no identifier (log 9). (02_desks_baskets_and_routing.md, R21, R22, 04_desk_pressure.md,
R70, R73.) -/
def Obligations.LoadDeskWritesTheEntry : Prop :=
  ∀ (s : State) (d u cap duty t m r n : Byte) (name : List Byte),
    s.listening → name.length = n.toNat →
    let k := d.toNat
    let old := s.desk k
    let used := u != 0
    let capacity := max 1 (min 128 cap.toNat)
    let loaded := s.heard.putDesk k
      { old with
        inUse := used, name := name.take 8, capacity := capacity,
        duty := if duty = 0xFF then none else some duty.toNat,
        t := max 1 t.toNat, m := max 1 (min 4 m.toNat), r := min 7 r.toNat }
    let cleared := loaded.putPressure k
      { load := 0, baseline := 0, surge := .calm, count := 0, reseedPending := false }
    exec (.loadDesk (d :: u :: cap :: duty :: t :: m :: r :: n :: name)) s = .next
      (if 15 < k ∨ (duty ≠ 0xFF ∧ 95 < duty.toNat) then s.refused Kind.loadDesk .range none
      else if used = true ∧ n = 0 then s.refused Kind.loadDesk .length none
      else if used = true ∧ capacity < (s.basket k).count then
        s.refused Kind.loadDesk .occupied none
      else if used = false ∧ (0 < (s.basket k).count ∨
          s.terminals.any (fun e => e.2.configured && e.2.desk == k) = true) then
        s.refused Kind.loadDesk .occupied none
      else if old.inUse = used then loaded
      else if old.inUse = true ∧
          ((s.pressure k).surge = .surge ∨ (s.pressure k).surge = .easing) then
        cleared.offer (.pressureEvent k false .closed 0 0)
      else cleared)

/-- While the part listens: a LOAD ROUTE with a class above 31 or a target that is no desk, SET or
NONE is refused RANGE, and any other replaces the 16 entries of its row and nothing else; a LOAD
DIVERSION with an index above 7, or in use with a desk above 15, a class neither ANY nor 0 to 31,
an unknown condition or equal desks is refused RANGE, and any other writes its entry, the reset
values when it is out of use, and nothing else. Neither names an identifier (log 9).
(02_desks_baskets_and_routing.md, R27, R28.) -/
def Obligations.LoadRouteAndDiversionWriteTheirTables : Prop :=
  ∀ s : State, s.listening →
    (∀ (c : Byte) (targets : List Byte), targets.length = 16 →
      let legal := fun x : Byte => x.toNat ≤ 15 ∨ x = 0xFE ∨ x = 0xFF
      (31 < c.toNat ∨ (∃ x ∈ targets, ¬ legal x) →
        exec (.loadRoute (c :: targets)) s = .next (s.refused Kind.loadRoute .range none)) ∧
      (c.toNat ≤ 31 → (∀ x ∈ targets, legal x) →
        ∃ t, exec (.loadRoute (c :: targets)) s = .next t ∧
          (∀ k d, d < 16 → t.route k d =
            if k = c.toNat then
              (if targets.getD d 0 = 0xFE then .set
              else if targets.getD d 0 = 0xFF then .none
              else .desk (targets.getD d 0).toNat)
            else s.route k d) ∧
          s.onlyChanges (frameFields ++ [.routes]) t)) ∧
    (∀ i u f c k d : Byte,
      let outside := 7 < i.toNat ∨ (u ≠ 0 ∧ (15 < f.toNat ∨ 15 < d.toNat ∨ f = d ∨
        (k ≠ 0 ∧ k ≠ 1) ∨ (c ≠ 0xFF ∧ 31 < c.toNat)))
      (outside →
        exec (.loadDiversion [i, u, f, c, k, d]) s =
          .next (s.refused Kind.loadDiversion .range none)) ∧
      (¬ outside → ∃ t, exec (.loadDiversion [i, u, f, c, k, d]) s = .next t ∧
        (∀ j, t.diversion j =
          if j = i.toNat then
            (if u = 0 then
              { inUse := false, fromDesk := 0, cls := none, condition := .always, toDesk := 0 }
            else
              { inUse := true, fromDesk := f.toNat,
                cls := if c = 0xFF then none else some c.toNat,
                condition := if k = 0 then .always else .onSurge, toDesk := d.toNat })
          else s.diversion j) ∧
        s.onlyChanges (frameFields ++ [.diversions]) t))

/-- While the part listens, an ANNOUNCE whose slug has the length it carries is checked for RANGE,
LENGTH, NO_ROUTE, FULL (no free number) and FULL (basket), in that order, its identifier being
the entry desk; a taken one writes the lowest free number's record afresh, with a reminder at
count 0 only while RUNNING, joins the story to the end of its tier, offers one COPY EVENT
ANNOUNCED and changes nothing else. (01_stories_and_the_copy_directory.md, R5, R6, R7, R13, R16,
02_desks_baskets_and_routing.md, R24, R25, 03_unattended_copy.md, R46, R47, R54.) -/
def Obligations.AnnounceCreatesAStory : Prop :=
  ∀ (s : State) (d c f n : Byte) (slug : List Byte), s.listening → slug.length = n.toNat →
    let refuse := fun code => s.refused Kind.announce code (some d.toNat)
    let b := s.basket d.toNat
    let e := s.desk d.toNat
    let body := d :: c :: f :: n :: slug
    (15 < d.toNat ∨ 31 < c.toNat → exec (.announce body) s = .next (refuse .range)) ∧
    (d.toNat ≤ 15 → c.toNat ≤ 31 →
      (n = 0 → exec (.announce body) s = .next (refuse .length)) ∧
      (n ≠ 0 → e.inUse = false → exec (.announce body) s = .next (refuse .noRoute)) ∧
      (n ≠ 0 → e.inUse = true →
        ((∀ k, k < 1024 → s.story? k ≠ none) →
          exec (.announce body) s = .next (refuse .full)) ∧
        (∀ k, k < 1024 → s.story? k = none → (∀ j, j < k → s.story? j ≠ none) →
          exec (.announce body) s = .next
            (if e.capacity ≤ b.flash.length + b.ordinary.length then refuse .full
            else
              ((s.heard.putStory k (some
                { slug := slug.take 12, cls := c.toNat, desk := d.toNat, state := .filed,
                  flash := f != 0, holder := none, revision := 0, page := none,
                  nudgeCount := 0,
                  nudgeDue :=
                    if s.part = .running then some (s.now + 1000 * min e.t 3600) else none,
                  overdue := false })).putBasket d.toNat
                (if f = 0 then { b with ordinary := b.ordinary ++ [k] }
                else { b with flash := b.flash ++ [k] })).offer
                (.copyEvent .announced k .filed d.toNat 0 .order [] none)))))

/-- While the part listens, a MOVE is checked for RANGE, NO_STORY, HELD, STATE, SAME_DESK, NO_ROUTE
and FULL, and a PULL for RANGE, NO_STORY, STATE, NO_ROUTE, PAGE_BUSY and FULL, in that order,
with the story as identifier. A taken one files the story FILED and unheld at the end of the tier
its flash flag names, out of its old basket for a MOVE, with count 0, no overdue mark and a
reminder only while RUNNING, and tells the change MOVED with cause ORDER; a PULL then tells the
story's page, and the start test is made (log 27). (01_stories_and_the_copy_directory.md, R9,
R10, R13, R15, 02_desks_baskets_and_routing.md, R25, 03_unattended_copy.md, R47, R54.) -/
def Obligations.MoveAndPullFileTheStory : Prop :=
  ∀ (s : State) (hi lo d f : Byte), s.listening →
    let n := hi.toNat * 256 + lo.toNat
    let k := d.toNat
    let st := s.story n
    let e := s.desk k
    let filed := fun (u : State) =>
      ((u.joinBasket k n (f != 0)).putStory n (some
        { st with
          desk := k, flash := f != 0, state := .filed, holder := none, nudgeCount := 0,
          overdue := false,
          nudgeDue :=
            if s.part = .running then some (s.now + 1000 * min e.t 3600) else none })).tellChange
        .moved n .order
    let move := fun code => s.refused Kind.move code (some n)
    let pull := fun code => s.refused Kind.pull code (some n)
    exec (.move [hi, lo, d, f]) s = .next
      (if 1023 < n ∨ 15 < k then move .range
      else if s.story? n = none then move .noStory
      else if st.state = .held then move .held
      else if st.state = .set ∨ st.state = .spiked then move .state
      else if k = st.desk then move .sameDesk
      else if e.inUse = false then move .noRoute
      else if e.capacity ≤ (s.basket k).count then move .full
      else filed (s.heard.leaveBasket st.desk n)) ∧
    exec (.pull [hi, lo, d, f]) s = .next
      (if 1023 < n ∨ 15 < k then pull .range
      else if s.story? n = none then pull .noStory
      else if st.state ≠ .set then pull .state
      else if e.inUse = false then pull .noRoute
      else if (st.page.map fun r => (s.page r).state) = some .sending then pull .pageBusy
      else if e.capacity ≤ (s.basket k).count then pull .full
      else ((filed s.heard).storyPulled n).startTest)

/-- While the part listens: a REVISE is refused RANGE above 1023 and NO_STORY for a free number; a
taken one raises the revision modulo 256, replaces the slug when it carries one, tells REVISED,
tells the page, and the start test is made (the model's reading, log 27). A PURGE is refused
RANGE, NO_STORY, HELD and PLACED in that order; with the terminal table canonical, a taken one
frees the number, takes a FILED story out of its basket, gives WATCH GONE to each configured
watcher that is neither ABSENT nor DARK, takes the number off every watch list and view stack,
offers COPY EVENT PURGED with the slug, and changes nothing else; the state, desk and revision in
it are those the story last had (the model's reading, log 19).
(01_stories_and_the_copy_directory.md, R8, R11, R13, R14, R15, R16.) -/
def Obligations.ReviseAndPurgeChangeTheStory : Prop :=
  ∀ (s : State) (hi lo n : Byte) (slug : List Byte), s.listening → slug.length = n.toNat →
    let k := hi.toNat * 256 + lo.toNat
    let st := s.story k
    let revise := fun code => s.refused Kind.revise code (some k)
    let purge := fun code => s.refused Kind.purge code (some k)
    exec (.revise (hi :: lo :: n :: slug)) s = .next
      (if 1023 < k then revise .range
      else if s.story? k = none then revise .noStory
      else
        (((s.heard.putStory k (some
          { st with
            revision := (st.revision + 1) % 256,
            slug := if n = 0 then st.slug else slug.take 12 })).tellChange .revised k
          .order).storyRevised k).startTest) ∧
    (1023 < k → exec (.purge [hi, lo]) s = .next (purge .range)) ∧
    (k ≤ 1023 →
      (s.story? k = none → exec (.purge [hi, lo]) s = .next (purge .noStory)) ∧
      (s.story? k = some st → st.state = .held →
        exec (.purge [hi, lo]) s = .next (purge .held)) ∧
      (s.story? k = some st → st.state ≠ .held → st.page.isSome = true →
        exec (.purge [hi, lo]) s = .next (purge .placed)) ∧
      (s.story? k = some st → st.state ≠ .held → st.page = none →
        Table.wf Terminal.initial s.terminals = true →
        ∃ t, exec (.purge [hi, lo]) s = .next t ∧
          (∀ m, t.story? m = if m = k then none else s.story? m) ∧
          (∀ d, t.basket d =
            if st.state = .filed ∧ d = st.desk then (s.basket d).leave k else s.basket d) ∧
          (∀ x, t.terminal x =
            { s.terminal x with
              watches := (s.terminal x).watches.filter (fun m => m != k),
              views := (s.terminal x).views.filter (fun m => m != k),
              attentions :=
                if (s.terminal x).configured = true ∧ k ∈ (s.terminal x).watches ∧
                    (s.terminal x).liveness ≠ .absent ∧ (s.terminal x).liveness ≠ .dark then
                  joinAttention (s.terminal x).attentions (.watch .gone k st.desk st.revision)
                else (s.terminal x).attentions }) ∧
          (s.heard.offer
            (.copyEvent .gone k st.state st.desk st.revision .order st.slug none)).onlyChanges
            [.stories, .baskets, .terminals] t))

/-- With the terminal table canonical, telling a change gives a WATCH attention, with the story's
desk and revision as they stand, to every configured terminal that watches the story, is neither
ABSENT nor DARK and did not request the change, unless the change is ANNOUNCED or OVERDUE; a
queue of 4 loses its oldest attention, and the new one carries the earlier lost mark. One COPY
EVENT is offered with the story as it stands, with the slug for PURGED alone and the count for
OVERDUE alone. Nothing else changes. (01_stories_and_the_copy_directory.md, R13, R14, R16,
06_screens_views_and_watches.md, R119, R120.) -/
def Obligations.WatchersAreTold : Prop :=
  ∀ (s : State) (k : Change) (n : Nat) (cause : CopyCause),
    Table.wf Terminal.initial s.terminals = true →
    let st := s.story n
    let t := s.tellChange k n cause
    let event : Notice := .copyEvent k n st.state st.desk st.revision cause
      (if k = .gone then st.slug else []) (if k = .overdue then some st.nudgeCount else none)
    (∀ x, t.terminal x =
      if k ≠ .announced ∧ k ≠ .overdue ∧ (s.terminal x).configured = true ∧
          n ∈ (s.terminal x).watches ∧ cause ≠ .terminal x ∧
          (s.terminal x).liveness ≠ .absent ∧ (s.terminal x).liveness ≠ .dark then
        { s.terminal x with
          attentions :=
            if (s.terminal x).attentions.length < 4 then
              (s.terminal x).attentions ++
                [{ body := .watch k n st.desk st.revision, earlierLost := false }]
            else
              (s.terminal x).attentions.tail ++
                [{ body := .watch k n st.desk st.revision, earlierLost := true }] }
      else s.terminal x) ∧
    (s.offer event).onlyChanges [.terminals] t

/-- While the part is RUNNING with its store processor, of a terminal whose answer its line awaits
and leaves LIVE (from LIVE, FAINT or WAKING), in the state u that the answer's liveness update
leaves (an owed REFRESH WANTED is offered in it, before the content: log 32): a GET acts on the
story it names or on the top of the view stack, and is refused RANGE, NO_STORY, STATE, HELD,
ROLE, LIMIT and BUSY in that order; a GET NEXT takes the first unheld story of its own desk's
basket, and is refused LIMIT, NO_STORY and BUSY. (GET NEXT: where every story of that basket is
live.) A taken one makes the story HELD with its due time cleared, adds it to the hold list,
pushes it onto the view stack, offers TEXT WANTED and tells HELD; a refused one queues REFUSED
with the story if one was known (which, is the model's reading, log 12). The line turn follows.
(02_desks_baskets_and_routing.md, R29 to R34, 05_terminal_lines.md, R87, R88, R89, R94,
06_screens_views_and_watches.md, R112, R113.) -/
def Obligations.GetChecksTheStoryOut : Prop :=
  ∀ (s : State) (l : LineId) (drop : Nat) (hi lo : Byte), s.hears l drop → s.inService →
    let t := terminalOf l drop
    let u := s.answered l drop
    let me := u.terminal t
    let num := hi.toNat * 256 + lo.toNat
    let bare := hi == 0xFF && lo == 0xFF
    let subject := if bare then me.views.head? else some num
    let n := subject.getD 0
    let st := s.story n
    let refuse := fun q code story => u.attend t (.refused q code story none)
    let get := fun code =>
      refuse .get code (if subject.isSome = true ∧ n ≤ 1023 then some n else none)
    let take := fun (q : RequestKind) (n : Nat) =>
      (((u.putStory n (some
        { s.story n with state := .held, holder := some t, nudgeDue := none })).putTerminal t
        { me with
          holds := me.holds ++ [n],
          views := if me.views.head? = some n then me.views else n :: me.views.take 7 }).offer
        (.textWanted t n (s.story n).revision q)).tellChange .held n (.terminal t)
    let next := (s.basket me.desk).all.find? (fun m => (s.story m).state != .held)
    exec (.get l drop [hi, lo]) s = .next (State.lineTurn
      (if bare = false ∧ 1023 < num then get .range
      else if subject = none ∨ s.story? n = none then get .noStory
      else if st.state = .set ∨ st.state = .spiked then get .state
      else if st.state = .held then get .held
      else if st.desk ≠ me.desk ∧ me.role ≠ .chief then get .role
      else if 4 ≤ me.holds.length then get .limit
      else if 64 ≤ u.queue.length then get .busy
      else take .get n) l) ∧
    ((∀ m ∈ (s.basket me.desk).all, s.story? m ≠ none) →
    exec (.getNext l drop []) s = .next (State.lineTurn
      (if 4 ≤ me.holds.length then refuse .getNext .limit none
      else if next = none then refuse .getNext .noStory none
      else if 64 ≤ u.queue.length then refuse .getNext .busy next
      else take .getNext (next.getD 0)) l))

/-- While the part is RUNNING, of a terminal whose answer its line awaits and leaves LIVE, in the
state u the liveness update leaves (an owed REFRESH WANTED is offered in it, before the content:
log 32), a SEND acts on the story it names or on the top of the view stack and is refused RANGE
(story), NO_STORY, RANGE (a named desk above 15), NOT_HOLDER (not HELD by that terminal) and ROLE
(a WRITER naming a desk) in that order. The base target is the desk named or the route entry of
the story's class and desk; NONE and a desk out of use are refused NO_ROUTE, SET for a WRITER
ROLE, and the story's own desk SAME_DESK; the first of the 8 diversions that is in use, from the
base target, of the story's class or ANY, whose condition holds, whose to desk is in use and not
the story's own, gives the diverted target; the diverted target is tried for room, then the base
target, and FULL names the base target. A SEND to a desk files the story there afresh; one to SET
takes it out of its basket, SET, with no overdue mark, and its page is told and the start test
made (log 27). The holder's hold list loses the story, DONE is queued before the change is told
(log 14); a refused one queues REFUSED with the story known (log 12); the line turn follows. Logs
12, 14 and 27 are the model's readings. (02_desks_baskets_and_routing.md, R29, R30, R35 to R40,
03_unattended_copy.md, R47, 05_terminal_lines.md, R87 to R89, R94.) -/
def Obligations.SendIsResolvedAndCarriedOut : Prop :=
  ∀ (s : State) (l : LineId) (drop : Nat) (hi lo desk f : Byte),
    s.hears l drop → s.part = .running →
    let t := terminalOf l drop
    let u := s.answered l drop
    let me := u.terminal t
    let num := hi.toNat * 256 + lo.toNat
    let bare := hi == 0xFF && lo == 0xFF
    let subject := if bare then me.views.head? else some num
    let n := subject.getD 0
    let st := s.story n
    let named := desk != 0xFF
    let refuse := fun code full => u.attend t
      (.refused .send code (if subject.isSome = true ∧ n ≤ 1023 then some n else none) full)
    let base : RouteTarget := if named then .desk desk.toNat else s.route st.cls st.desk
    let matching := fun (b : Nat) (e : Diversion) =>
      e.inUse && e.fromDesk == b && (e.cls == none || e.cls == some st.cls) &&
        (e.condition == .always || (s.pressure b).surge == .surge ||
          (s.pressure b).surge == .easing) &&
        (s.desk e.toDesk).inUse && e.toDesk != st.desk
    let room := fun d => decide ((s.basket d).count < (s.desk d).capacity)
    let left := (u.leaveBasket st.desk n).putTerminal t
      { me with holds := me.holds.filter (fun m => m != n) }
    let reach := fun d =>
      (((left.joinBasket d n (f != 0)).putStory n (some
        { st with
          desk := d, flash := f != 0, state := .filed, holder := none, nudgeCount := 0,
          overdue := false,
          nudgeDue := some (s.now + 1000 * min (s.desk d).t 3600) })).attend t
        (.done .send n d st.revision false)).tellChange .moved n (.terminal t)
    let set :=
      ((((left.putStory n (some
        { st with state := .set, holder := none, overdue := false, nudgeDue := none })).attend t
        (.done .send n st.desk st.revision true)).tellChange .set n (.terminal t)).storySet
        n).startTest
    exec (.send l drop [hi, lo, desk, f]) s = .next (State.lineTurn
      (if bare = false ∧ 1023 < num then refuse .range none
      else if subject = none ∨ s.story? n = none then refuse .noStory none
      else if named = true ∧ 15 < desk.toNat then refuse .range none
      else if ¬ (st.state = .held ∧ st.holder = some t) then refuse .notHolder none
      else if named = true ∧ me.role = .writer then refuse .role none
      else match base with
        | .none => refuse .noRoute none
        | .set => if me.role = .writer then refuse .role none else set
        | .desk b =>
          if (s.desk b).inUse = false then refuse .noRoute none
          else if b = st.desk then refuse .sameDesk none
          else match ((List.range 8).map s.diversion).find? (matching b) with
            | some e =>
              if room e.toDesk then reach e.toDesk
              else if room b then reach b
              else refuse .full (some b)
            | none => if room b then reach b else refuse .full (some b)) l)

/-- While the part is RUNNING, of a terminal whose answer its line awaits and leaves LIVE, in the
state u the liveness update leaves (an owed REFRESH WANTED is offered in it, before the content:
log 32), each acts on the story it names or, bare, on the top of the view stack, and is refused
RANGE and NO_STORY first. A RETURN of a story not HELD by the terminal is refused NOT_HOLDER, and
any other files it in place with its count kept; a SPIKE is refused PLACED, ROLE (its own, for a
WRITER; FILED at the own desk, for any but a CHIEF) and NOT_HOLDER in that order, and any other
takes it out of its basket, SPIKED; a PULL is refused ROLE, STATE, NO_ROUTE, PAGE_BUSY and FULL
in that order, and any other files it at the own desk, tells its page, and the start test is made
(log 27). A refused one queues REFUSED with the story known (log 12). A taken one queues DONE, a
PULL after the page has been told and the others before the change is told (log 14), and tells
its change to the other watchers; the line turn follows. Logs 12, 14 and 27 are the model's
readings. (02_desks_baskets_and_routing.md, R29 to R31, R41 to R43,
01_stories_and_the_copy_directory.md, R10, R13, R14, 03_unattended_copy.md, R46 to R49.) -/
def Obligations.ReturnSpikeAndPullEndAStory : Prop :=
  ∀ (s : State) (l : LineId) (drop : Nat) (hi lo f : Byte),
    s.hears l drop → s.part = .running →
    let t := terminalOf l drop
    let u := s.answered l drop
    let me := u.terminal t
    let num := hi.toNat * 256 + lo.toNat
    let bare := hi == 0xFF && lo == 0xFF
    let subject := if bare then me.views.head? else some num
    let n := subject.getD 0
    let st := s.story n
    let mine := st.state = .held ∧ st.holder = some t
    let there := st.state = .filed ∧ st.desk = me.desk
    let dropped := fun (v : State) =>
      v.putTerminal t { me with holds := me.holds.filter (fun m => m != n) }
    let refuse := fun q code full => State.lineTurn (u.attend t
      (.refused q code (if subject.isSome = true ∧ n ≤ 1023 then some n else none) full)) l
    let returned := fun v => exec (.returnStory l drop [hi, lo]) s = .next v
    let spiked := fun v => exec (.spike l drop [hi, lo]) s = .next v
    let pulled := fun v => exec (.pullRequest l drop [hi, lo, f]) s = .next v
    (bare = false → 1023 < num →
      returned (refuse .returnStory .range none) ∧ spiked (refuse .spike .range none) ∧
      pulled (refuse .pull .range none)) ∧
    (bare = true ∨ num ≤ 1023 → subject = none ∨ s.story? n = none →
      returned (refuse .returnStory .noStory none) ∧ spiked (refuse .spike .noStory none) ∧
      pulled (refuse .pull .noStory none)) ∧
    (bare = true ∨ num ≤ 1023 → subject.isSome = true → s.story? n = some st →
      returned
        (if ¬ (st.state = .held ∧ st.holder = some t) then refuse .returnStory .notHolder none
        else State.lineTurn
          (((dropped (u.putStory n (some
            { st with
              state := .filed, holder := none,
              nudgeDue :=
                if st.overdue then none
                else some (s.now + 1000 *
                  min ((s.desk st.desk).t * (s.desk st.desk).m ^ st.nudgeCount) 3600) }))).attend
            t (.done .returnStory n st.desk st.revision false)).tellChange .released n
            (.terminal t)) l) ∧
      (st.page.isSome = true → spiked (refuse .spike .placed none)) ∧
      (st.page = none →
        (mine → me.role = .writer → spiked (refuse .spike .role none)) ∧
        (there → me.role ≠ .chief → spiked (refuse .spike .role none)) ∧
        (¬ mine → ¬ there → spiked (refuse .spike .notHolder none)) ∧
        (mine ∧ me.role ≠ .writer ∨ there ∧ me.role = .chief →
          spiked (State.lineTurn
            (((dropped ((u.leaveBasket st.desk n).putStory n (some
              { st with state := .spiked, holder := none, nudgeDue := none }))).attend t
              (.done .spike n st.desk st.revision false)).tellChange .spiked n
              (.terminal t)) l))) ∧
      pulled
        (if me.role ≠ .chief then refuse .pull .role none
        else if st.state ≠ .set then refuse .pull .state none
        else if (s.desk me.desk).inUse = false then refuse .pull .noRoute none
        else if (st.page.map fun r => (s.page r).state) = some .sending then
          refuse .pull .pageBusy none
        else if (s.desk me.desk).capacity ≤ (s.basket me.desk).count then
          refuse .pull .full (some me.desk)
        else State.lineTurn
          ((((((u.joinBasket me.desk n (f != 0)).putStory n (some
            { st with
              desk := me.desk, flash := f != 0, state := .filed, holder := none, nudgeCount := 0,
              overdue := false,
              nudgeDue := some (s.now + 1000 * min (s.desk me.desk).t 3600) })).tellChange .moved
            n (.terminal t)).storyPulled n).startTest).attend t
            (.done .pull n me.desk st.revision false)) l))

/-- From every state in which a story is in a basket exactly when it is live, FILED or HELD and that
desk is its desk, once in all its tiers; a story is HELD exactly when it has a holder, is on a
terminal's hold list exactly when that terminal is its holder, once; and a terminal that holds a
story is neither ABSENT nor DARK, a terminal being configured exactly when it is not ABSENT: a
step leads to such a state. (The terminal table is canonical.)
(01_stories_and_the_copy_directory.md, R3, R4, 02_desks_baskets_and_routing.md, R24, R25,
05_terminal_lines.md, R80.) -/
def Obligations.StoriesStandWhereTheirRecordsSay : Prop :=
  ∀ s t : State, s.storiesStand → step s = .next t → t.storiesStand

/-- While the part listens, a LOAD TERMINAL is refused RANGE, NO_ROUTE and OCCUPIED in that order,
its identifier the terminal number; a taken one makes an ABSENT terminal WAKING afresh with its
desk and role, rewrites the desk and role of a configured one in place, and, with configured no,
returns the record to its reset values and the blocks of its frames to the store. Nothing else
changes. (05_terminal_lines.md, R80, R81, R82.) -/
def Obligations.LoadTerminalWritesTheRecord : Prop :=
  ∀ (s : State) (x c d r : Byte), s.listening →
    let k := x.toNat
    let me := s.terminal k
    let role : Role := if r = 0 then .writer else if r = 1 then .editor else .chief
    let fresh : Terminal :=
      { configured := false, desk := 0, role := .writer, liveness := .absent, missCount := 0,
        wakeCount := 0, wasDark := false, refreshOwed := none, holds := [], views := [],
        watches := [], attentions := [], outbound := [] }
    let refuse := fun code => s.refused Kind.loadTerminal code (some k)
    exec (.loadTerminal [x, c, d, r]) s = .next
      (if 95 < k ∨ 15 < d.toNat ∨ 2 < r.toNat then refuse .range
      else if c ≠ 0 ∧ (s.desk d.toNat).inUse = false then refuse .noRoute
      else if me.holds ≠ [] then refuse .occupied
      else if c = 0 then
        { s.heard.putTerminal k fresh with
          freeBlocks := s.freeBlocks + (me.outbound.map OutFrame.blocks).sum }
      else if me.liveness = .absent then
        s.heard.putTerminal k
          { fresh with configured := true, desk := d.toNat, role := role, liveness := .waking }
      else s.heard.putTerminal k { me with desk := d.toNat, role := role })

/-- At a line turn with the output count below the allowance and some configured terminal with
pending output: of the terminals whose desk is in surge if there are any, or else of all, the
first after the last output drop, wrapping, is served its oldest attention, or, with none, its
first outbound frame; the output count rises by 1 and the last output drop is its drop. Otherwise
the lowest eligible drop above the poll position is polled, and, with none, the next cycle's
lowest; the output count is 0 from then; with none there either, the line waits one window idle.
Nothing else changes. That the output count becomes 0 when the poll frame begins, not when it
ends, is the model's reading (log 21). (05_terminal_lines.md, R83, R84, R85, R93, R94, R95, R96.) -/
def Obligations.LineTurnServesOrPolls : Prop :=
  ∀ (s : State) (l : LineId), (s.line l).lastOutput ≤ 23 →
    let x := s.line l
    let drop := fun d => s.terminal (terminalOf l d)
    let pending := fun d => d < 24 ∧ (drop d).configured = true ∧
      ((drop d).attentions ≠ [] ∨ ∃ f rest, (drop d).outbound = f :: rest ∧ f.isOpen = false)
    let surging := fun d => (s.pressure (drop d).desk).surge = .surge ∨
      (s.pressure (drop d).desk).surge = .easing
    let far := fun d => (d + 23 - x.lastOutput) % 24
    let eligible := fun c d => d < 24 ∧ (drop d).configured = true ∧
      ((drop d).liveness ≠ .dark ∨ c = 0)
    let above := fun d => ∀ p, x.position = some p → p < d
    let c := (x.cycle + 1) % 8
    (∀ d, x.outputCount < x.allowance → pending d →
      (surging d ∨ ∀ e, pending e → ¬ surging e) →
      (∀ e, pending e → (surging e ↔ surging d) → far d ≤ far e) →
      let serve := fun (what : LineFrame) (left : Terminal) =>
        s.lineTurn l = (s.putTerminal (terminalOf l d) left).putLine l
          { x with
            outputCount := x.outputCount + 1, lastOutput := d,
            activity := .output (terminalOf l d) what }
      (∀ a rest, (drop d).attentions = a :: rest →
        serve (.attention a) { drop d with attentions := rest }) ∧
      (∀ f rest, (drop d).attentions = [] → (drop d).outbound = f :: rest →
        serve (.frame f) { drop d with outbound := rest })) ∧
    (x.allowance ≤ x.outputCount ∨ (∀ d, ¬ pending d) →
      (∀ d, eligible x.cycle d → above d →
        (∀ e, eligible x.cycle e → above e → d ≤ e) →
        s.lineTurn l = s.putLine l
          { x with position := some d, outputCount := 0, activity := .sendingPoll d }) ∧
      ((∀ d, eligible x.cycle d → ¬ above d) →
        (∀ d, eligible c d → (∀ e, eligible c e → d ≤ e) →
          s.lineTurn l = s.putLine l
            { x with
              position := some d, cycle := c, outputCount := 0, activity := .sendingPoll d }) ∧
        ((∀ d, ¬ eligible c d) →
          s.lineTurn l = s.putLine l
            { x with
              position := none, cycle := c, activity := .idleWait (s.now + x.window) })))

/-- A poll frame's end starts the window, in which the controller hunts for an answer; a bad frame
and the window's expiry (with whatever has been received of a frame) are a miss of the polled
terminal and a line turn; an answer with no content from the polled drop is its liveness update
and a line turn, one from another drop is discarded and one of more than 80 bytes is a miss; the
end of an idle wait is a line turn, and so is the end of an output frame, whose blocks return to
the store. An expiry finds the clock at its due time or later (the model's choice, log 1). In
another activity each event leaves the state unchanged (logs 3 and 16). A frame on the line is
SYN, its kind, the drop, its length, its body and the check: POLL with no body, ATTENTION with
the 11 bytes of R201, SCREEN with the form and the text, LISTING with its header and entries;
nothing is sent in a window or an idle wait. (05_terminal_lines.md, R84, R85, R86, R87, R96, R97,
06_screens_views_and_watches.md, R116, R120, 10_frame_and_record_layouts.md, R193, R199, R201.) -/
def Obligations.LineEventsEndInALineTurn : Prop :=
  ∀ (s : State) (l : LineId) (drop : Nat) (kind : Byte) (body : List Byte),
    let x := s.line l
    let late := fun due => { s with now := max s.now due }
    let missed := fun (u : State) p => (u.miss (terminalOf l p)).lineTurn l
    let two := fun k : Nat => [byte (k / 256), byte k]
    let frame := fun (k a : Byte) (body : List Byte) =>
      [0x5A, k, a] ++ two body.length ++ body ++
        two (((k :: a :: two body.length ++ body).map BitVec.toNat).sum % 65536)
    (∀ p, x.activity = .sendingPoll p →
      exec (.pollFrameSent l) s = .next
        (s.putLine l { x with activity := .awaiting p (s.now + x.window) .hunt }) ∧
      exec (.badAnswerFrame l) s = .next s ∧ exec (.pollWindowExpiry l) s = .next s ∧
      exec (.idleWaitExpiry l) s = .next s ∧ exec (.outputFrameEnd l) s = .next s ∧
      exec (.nil l drop kind body) s = .next s) ∧
    (∀ p due f, x.activity = .awaiting p due f →
      exec (.badAnswerFrame l) s = .next (missed s p) ∧
      exec (.pollWindowExpiry l) s = .next (missed (late due) p) ∧
      exec (.nil l drop kind body) s = .next
        (if 80 < body.length then missed s p
        else if drop = p then (s.answerLiveness (terminalOf l p)).lineTurn l
        else s) ∧
      exec (.pollFrameSent l) s = .next s ∧ exec (.idleWaitExpiry l) s = .next s ∧
      exec (.outputFrameEnd l) s = .next s) ∧
    (∀ t w, x.activity = .output t w →
      exec (.outputFrameEnd l) s = .next
        (State.lineTurn { s with freeBlocks := s.freeBlocks + w.blocks } l) ∧
      exec (.pollFrameSent l) s = .next s ∧ exec (.badAnswerFrame l) s = .next s ∧
      exec (.pollWindowExpiry l) s = .next s ∧ exec (.idleWaitExpiry l) s = .next s ∧
      exec (.nil l drop kind body) s = .next s) ∧
    (∀ due, x.activity = .idleWait due →
      exec (.idleWaitExpiry l) s = .next ((late due).lineTurn l) ∧
      exec (.pollFrameSent l) s = .next s ∧ exec (.badAnswerFrame l) s = .next s ∧
      exec (.pollWindowExpiry l) s = .next s ∧ exec (.outputFrameEnd l) s = .next s ∧
      exec (.nil l drop kind body) s = .next s) ∧
    (∀ p due f, (Activity.sendingPoll p).bytes = frame 0x60 (byte p) [] ∧
      (Activity.awaiting p due f).bytes = [] ∧ (Activity.idleWait due).bytes = []) ∧
    (∀ t a, (Activity.output t (.attention a)).bytes = frame 0x64 (byte (t % 24)) a.bytes) ∧
    (∀ t f text o, (Activity.output t (.frame (.screen f text o))).bytes =
      frame 0x65 (byte (t % 24)) ((if f = .refresh then 0x00 else 0x01) :: text)) ∧
    (∀ t (g : Listing), (Activity.output t (.frame (.listing g))).bytes =
      frame 0x66 (byte (t % 24))
        ([byte g.desk, byte g.start, byte g.entries.length, byte g.basketCount] ++
          g.entries.flatMap ListEntry.bytes)) ∧
    (∀ (lost : Bool) (b : AttentionBody),
      let story := fun o : Option Nat => o.elim [0xFF, 0xFF] two
      let flag := fun b : Bool => if b then (0x01 : Byte) else 0x00
      ({ body := b, earlierLost := lost } : Attention).bytes =
        (match b with
        | .refused q c n d =>
          [0, q.code, c.code] ++ story n ++ [d.elim 0xFF byte, 0xFF, 0xFF, 0xFF, 0]
        | .done q n d r m => [1, q.code, 0xFF] ++ two n ++ [byte d, byte r, 0xFF, 0xFF, flag m]
        | .nudge n d r k => [2, 0xFF, 0xFF] ++ two n ++ [byte d, byte r, 0xFF, byte k, 0]
        | .watch k n d r => [3, 0xFF, 0xFF] ++ two n ++ [byte d, byte r, k.code, 0xFF, 0]
        | .storeLost => [4, 0xFF, 0xFF, 0xFF, 0xFF, 0xFF, 0xFF, 0xFF, 0xFF, 0]
        | .storeBack => [5, 0xFF, 0xFF, 0xFF, 0xFF, 0xFF, 0xFF, 0xFF, 0xFF, 0]
        | .reconnected => [6, 0xFF, 0xFF, 0xFF, 0xFF, 0xFF, 0xFF, 0xFF, 0xFF, 0]) ++
        [flag lost])

/-- A miss leaves an ABSENT or DARK terminal as it is, counts 1 for a LIVE one and one more for a
WAKING or FAINT one; below the dark limit only that record changes, LIVE to FAINT and a WAKING
one's wake count to 0. At the limit the terminal is DARK with its was dark mark, its miss count,
its desk and role, and nothing else; its frames' blocks return to the store; every story it holds
(with the stories' holders and the hold lists in agreement) is FILED, unheld, with its count kept
and, while RUNNING and not overdue, its reminder rescheduled; and with the COPY and TERMINAL
groups enabled, the transmitter busy and 13 entries free, the queue gains one COPY EVENT RELEASED
with cause DARKNESS for each hold in order, and then a TERMINAL EVENT DARK with their number.
Every other terminal keeps all but its attentions, and one that watches such stories gains,
unless it is DARK or ABSENT, a WATCH of kind RELEASED for each in hold order, in its queue of 4
(the terminal table being canonical). (05_terminal_lines.md, R86, R89, R90, R92,
01_stories_and_the_copy_directory.md, R13, R14, R16, R18, 06_screens_views_and_watches.md, R119,
R120, 03_unattended_copy.md, R48, R54.) -/
def Obligations.MissesTakeATerminalDark : Prop :=
  ∀ (s : State) (x : Nat),
    let me := s.terminal x
    let limit := (s.line (lineOf x)).darkLimit
    let m := if me.liveness = .live then 1 else me.missCount + 1
    let queued : List Attention → AttentionBody → List Attention := fun q b =>
      if q.length < 4 then q ++ [{ body := b, earlierLost := false }]
      else q.tail ++ [{ body := b, earlierLost := true }]
    let t := s.miss x
    (me.liveness = .absent ∨ me.liveness = .dark → t = s) ∧
    (me.liveness ≠ .absent → me.liveness ≠ .dark → m < limit →
      t = s.putTerminal x
        (if me.liveness = .waking then { me with missCount := m, wakeCount := 0 }
        else { me with missCount := m, liveness := .faint })) ∧
    (me.liveness ≠ .absent → me.liveness ≠ .dark → limit ≤ m →
      t.terminal x =
        { configured := me.configured, desk := me.desk, role := me.role, liveness := .dark,
          missCount := m, wakeCount := 0, wasDark := true, refreshOwed := none, holds := [],
          views := [], watches := [], attentions := [], outbound := [] } ∧
      t.freeBlocks = s.freeBlocks + (me.outbound.map OutFrame.blocks).sum ∧
      s.onlyChanges ([.stories, .terminals, .freeBlocks] ++ noticeFields) t ∧
      (Table.wf Terminal.initial s.terminals = true → ∀ y, y ≠ x → t.terminal y =
        { s.terminal y with
          attentions :=
            if (s.terminal y).liveness = .absent ∨ (s.terminal y).liveness = .dark ∨
                (s.terminal y).configured = false then (s.terminal y).attentions
            else (me.holds.filter (fun n => (s.terminal y).watches.contains n)).foldl
              (fun q n => queued q (.watch .released n (s.story n).desk (s.story n).revision))
              (s.terminal y).attentions }) ∧
      (me.holds.Nodup → me.holds.length ≤ 4 →
        (∀ n, n ∈ me.holds ↔ ∃ st, s.story? n = some st ∧ st.holder = some x) →
        (∀ n, t.story? n = (s.story? n).map (fun st =>
          if st.holder = some x then
            { st with
              state := .filed, holder := none,
              nudgeDue :=
                if s.part = .running ∧ st.overdue = false then
                  some (s.now + 1000 *
                    min ((s.desk st.desk).t * (s.desk st.desk).m ^ st.nudgeCount) 3600)
                else none }
          else st)) ∧
        (s.reporting.copy = true → s.reporting.terminal = true → s.sending.isSome = true →
          s.queue.length + 13 ≤ 64 →
          t.queue = s.queue ++
            me.holds.map (fun n =>
              .copyEvent .released n .filed (s.story n).desk (s.story n).revision .darkness []
                none) ++
            [.terminalEvent x false me.desk me.role me.holds.length])))

/-- An answer changes nothing for an ABSENT terminal; it sets a FAINT one LIVE with miss count 0 and
no notice, also when a REFRESH WANTED is owed; a LIVE one has miss count 0 and, when it is owed a
REFRESH WANTED, is offered it again with the reason that set the mark, the mark being cleared
when an entry takes it. For a WAKING or DARK one it sets miss count 0 and raises the wake count
(from 0 for a DARK one): below the wake count needed it is WAKING. At that count it is LIVE: a
REFRESH WANTED is offered, or its mark set when no entry is free, and where one is owed already
no further notice is offered and the mark stays; with the was dark mark a TERMINAL EVENT LIVE is
offered, RECONNECTED queued and the mark cleared. Which answers offer an owed REFRESH WANTED
again, and its reason, are the model's reading (log 17); that the offer comes before what the
answer carries is its choice (log 32). (05_terminal_lines.md, R87, R89, R91, R92,
06_screens_views_and_watches.md, R111.) -/
def Obligations.AnswersBringATerminalLive : Prop :=
  ∀ (s : State) (x : Nat),
    let me := s.terminal x
    let needed := (s.line (lineOf x)).wakeNeeded
    let w := if me.liveness = .waking then me.wakeCount + 1 else 1
    let sleeping := me.liveness = .waking ∨ me.liveness = .dark
    let counted := { me with missCount := 0, wakeCount := w }
    let t := s.answerLiveness x
    let room := s.queue.length < 64
    (me.liveness = .absent → t = s) ∧
    (me.liveness = .faint →
      t = s.putTerminal x { me with missCount := 0, liveness := .live }) ∧
    (me.liveness = .live →
      (me.refreshOwed = none ∨ ¬ room → t = s.putTerminal x { me with missCount := 0 }) ∧
      (∀ why, me.refreshOwed = some why → room →
        t = (s.offer (.refreshWanted x why)).putTerminal x
          { me with missCount := 0, refreshOwed := none })) ∧
    (sleeping → w < needed → t = s.putTerminal x { counted with liveness := .waking }) ∧
    (sleeping → needed ≤ w →
      let asks := me.refreshOwed = none ∧ room
      let asked := if asks then s.offer (.refreshWanted x .live) else s
      let owed := if asks then none else some (me.refreshOwed.getD RefreshReason.live)
      let live := { counted with liveness := .live, refreshOwed := owed }
      (me.wasDark = false → t = asked.putTerminal x live) ∧
      (me.wasDark = true →
        t = (asked.offer (.terminalEvent x true me.desk me.role 0)).putTerminal x
          { live with
            wasDark := false, attentions := joinAttention me.attentions .reconnected }))

/-- For every command that arrives in an answer of at most 80 bytes from the polled drop of a line
whose window runs: where the terminal is ABSENT or DARK, or WAKING still short of its wake count,
the answer is its liveness update and a line turn. Of a terminal that the answer leaves LIVE, in
the state u of that update (an owed REFRESH WANTED is offered in it, before the content: log 32):
KEYS of 1 to 64 bytes draw a KEYS notice, or REFUSED KEYS with BUSY when no entry is free, and
KEYS of another length REFUSED with LENGTH; a request whose arguments do not fit its known kind
is refused LENGTH and one of another kind, KEYS included, UNKNOWN, neither with a story (log 12);
an empty body is refused LENGTH (log 11), and for it and for a kind not listed the request kind
shown is a listed one that is left open (log 11). Every known request is refused NOT_READY while
the part is LOADING, and GET, GET NEXT, VIEW and BACK are refused STORE_LOST while it is RUNNING
and store-lost, with the story known and no desk. A line turn follows each. Logs 11 and 12 are
the model's. (05_terminal_lines.md, R85, R86, R87, R88, R89, R94,
02_desks_baskets_and_routing.md, R29, R30, 06_screens_views_and_watches.md, R114, R115, R120.) -/
def Obligations.AnswersAreActedOnWhileLive : Prop :=
  ∀ (s : State) (i : Instr) (l : LineId) (drop : Nat) (kind : Byte) (body : List Byte),
    i.answer? = some (l, drop, kind, body) → body.length ≤ 80 →
    let t := terminalOf l drop
    let u := s.answered l drop
    let me := s.terminal t
    let turn := fun (v : State) => exec i s = .next (v.lineTurn l)
    let b := (body.getD 0 0).toNat
    let shown := requestKinds.getD (b - 1) .get
    let num := (body.getD 1 0).toNat * 256 + (body.getD 2 0).toNat
    let carried := if num = 65535 then none else some num
    let subject := if b ∈ [1, 5, 6, 7, 8] ∧ num = 65535 then me.views.head? else carried
    let known := if b ∈ [1, 3, 5, 6, 7, 8, 10, 11] then subject.filter (· ≤ 1023) else none
    (∀ due f, (s.line l).activity = .awaiting drop due f →
      me.liveness = .absent ∨ me.liveness = .dark ∨
        (me.liveness = .waking ∧ me.wakeCount + 1 < (s.line (lineOf t)).wakeNeeded) →
      turn (s.answerLiveness t)) ∧
    (s.hears l drop →
      (i = .keys l drop body →
        turn (if body = [] ∨ 64 < body.length then u.attend t (.refused .keys .length none none)
          else if u.queue.length < 64 then u.offer (.keys t body)
          else u.attend t (.refused .keys .busy none none))) ∧
      (i = .unknownRequest l drop body →
        turn (u.attend t (.refused
          (if body = [] ∨ b = 0 ∨ 12 < b then unlistedKind body else shown)
          (if body = [] ∨ (1 ≤ b ∧ b ≤ 11) then .length else .unknown) none none))) ∧
      (i.wellFormed = true → kind = requestKind → (∀ r, i ≠ .unknownRequest l drop r) →
        (s.part = .loading → turn (u.attend t (.refused shown .notReady known none))) ∧
        (s.part = .running → s.storeLost = true → b ∈ [1, 2, 3, 4] →
          turn (u.attend t (.refused shown .storeLost known none)))))

/-- For a live story with a due time while the part is RUNNING, and a canonical terminal table, its
expiry raises the nudge count; gives a NUDGE with the story's desk, revision and new count to the
desk's duty terminal where that is LIVE, and otherwise to every LIVE CHIEF of the desk; and at
the desk's R or more marks the story overdue with no due time and offers COPY EVENT OVERDUE with
cause NUDGE and the count, or below R sets the due time T times M to the count, at most 3,600,
seconds on. Nothing else changes but the clock, which stands at the due time or later (the
model's choice, log 1). Without a due time, or while LOADING, nothing happens (log 3).
(03_unattended_copy.md, R45, R46, R50, R51, R52, 06_screens_views_and_watches.md, R120.) -/
def Obligations.ReminderExpiryCountsAndReminds : Prop :=
  ∀ (s : State) (n due : Nat) (st : Story),
    (s.part = .loading ∨ (s.story? n = some st ∧ st.nudgeDue = none) ∨ s.story? n = none →
      exec (.nudgeExpiry n) s = .next s) ∧
    (s.part = .running → s.story? n = some st → st.nudgeDue = some due →
      Table.wf Terminal.initial s.terminals = true →
      let e := s.desk st.desk
      let k := st.nudgeCount + 1
      let now := max s.now due
      let dutyLive := ∃ d, e.duty = some d ∧ (s.terminal d).liveness = .live
      let told := fun x =>
        (e.duty = some x ∧ (s.terminal x).liveness = .live) ∨
          (¬ dutyLive ∧ (s.terminal x).liveness = .live ∧ (s.terminal x).role = .chief ∧
            (s.terminal x).desk = st.desk)
      ∃ t, exec (.nudgeExpiry n) s = .next t ∧
        t.now = now ∧
        (∀ m, m ≠ n → t.story? m = s.story? m) ∧
        (∀ x, (told x → t.terminal x =
            { s.terminal x with
              attentions :=
                joinAttention (s.terminal x).attentions (.nudge n st.desk st.revision k) }) ∧
          (¬ told x → t.terminal x = s.terminal x)) ∧
        (e.r ≤ k →
          t.story? n = some { st with nudgeCount := k, overdue := true, nudgeDue := none } ∧
          (s.offer (.copyEvent .overdue n st.state st.desk st.revision .nudge []
            (some k))).onlyChanges [.now, .stories, .terminals] t) ∧
        (k < e.r →
          t.story? n = some
            { st with
              nudgeCount := k, nudgeDue := some (now + 1000 * min (e.t * e.m ^ k) 3600) } ∧
          s.onlyChanges [.now, .stories, .terminals] t))

/-- While the part is RUNNING, of a terminal whose answer its line awaits and leaves LIVE, in the
state u the liveness update leaves (an owed REFRESH WANTED is offered in it, before the content:
log 32; VIEW and BACK with the store processor there): VIEW is refused NO_STORY (none), RANGE,
NO_STORY (free) and BUSY, and otherwise pushes the story and offers TEXT WANTED; BACK is refused
NO_STORY below 2 entries and BUSY, and otherwise drops the top and offers TEXT WANTED for the
next; LIST is refused RANGE and BUSY, and otherwise appends a listing of up to 12 entries from
the start position, with its blocks, also behind an open frame, which it leaves open (the model's
reading of R116 against R105, log 26); WATCH is refused NO_STORY, RANGE, NO_STORY, DUPLICATE and
LIMIT, and otherwise adds the story; UNWATCH is refused NO_STORY, RANGE and NO_STORY, and
otherwise removes it; both queue DONE. A REFUSED attention of VIEW, WATCH and UNWATCH shows the
story carried where it is a story number, and one of BACK or LIST none (the model's reading, log
12). The line turn follows. (06_screens_views_and_watches.md, R112 to R118, R120,
05_terminal_lines.md, R87 to R89, R94.) -/
def Obligations.ViewsListsAndWatchesAreKept : Prop :=
  ∀ (s : State) (l : LineId) (drop : Nat) (hi lo : Byte), s.hears l drop → s.part = .running →
    let t := terminalOf l drop
    let u := s.answered l drop
    let me := u.terminal t
    let none? := hi == 0xFF && lo == 0xFF
    let n := hi.toNat * 256 + lo.toNat
    let st := s.story n
    let mine := fun (r : Terminal) => u.putTerminal t r
    let refuse := fun q code =>
      u.attend t (.refused q code (if none? = false ∧ n ≤ 1023 then some n else none) none)
    let bare := fun q code => u.attend t (.refused q code none none)
    let turn := fun i (v : State) => exec i s = .next (v.lineTurn l)
    let entries := (((s.basket hi.toNat).all.drop lo.toNat).take 12).map (fun m =>
      { story := m, slug := (s.story m).slug, flash := (s.story m).flash,
        held := (s.story m).state == .held, overdue := (s.story m).overdue,
        revision := (s.story m).revision : ListEntry })
    let blocks := (4 + 16 * entries.length + 63) / 64
    (s.storeLost = false →
      turn (.view l drop [hi, lo])
        (if none? then refuse .view .noStory
        else if 1023 < n then refuse .view .range
        else if s.story? n = none then refuse .view .noStory
        else if 64 ≤ u.queue.length then refuse .view .busy
        else (mine { me with
            views := if me.views.head? = some n then me.views
              else n :: me.views.take 7 }).offer (.textWanted t n st.revision .view)) ∧
      (me.views.length < 2 → turn (.back l drop []) (bare .back .noStory)) ∧
      (∀ top next rest, me.views = top :: next :: rest →
        turn (.back l drop [])
          (if 64 ≤ u.queue.length then bare .back .busy
          else (mine { me with views := next :: rest }).offer
            (.textWanted t next (s.story next).revision .back)))) ∧
    turn (.list l drop [hi, lo])
      (if 15 < hi.toNat ∨ 127 < lo.toNat then bare .list .range
      else if s.freeBlocks < blocks then bare .list .busy
      else
        { mine { me with
            outbound := me.outbound ++
              [.listing
                { desk := hi.toNat, start := lo.toNat,
                  basketCount :=
                    (s.basket hi.toNat).flash.length + (s.basket hi.toNat).ordinary.length,
                  entries := entries }] } with
          freeBlocks := s.freeBlocks - blocks }) ∧
    turn (.watch l drop [hi, lo])
      (if none? then refuse .watch .noStory
      else if 1023 < n then refuse .watch .range
      else if s.story? n = none then refuse .watch .noStory
      else if n ∈ me.watches then refuse .watch .duplicate
      else if 4 ≤ me.watches.length then refuse .watch .limit
      else (mine { me with watches := me.watches ++ [n] }).attend t
        (.done .watch n st.desk st.revision false)) ∧
    turn (.unwatch l drop [hi, lo])
      (if none? then refuse .unwatch .noStory
      else if 1023 < n then refuse .unwatch .range
      else if n ∉ me.watches then refuse .unwatch .noStory
      else (mine { me with watches := me.watches.filter (fun m => m != n) }).attend t
        (.done .unwatch n st.desk st.revision false))

/-- While the part listens, for a SCREEN with the continuation flag no and a text of the length it
carries, at most 1,024: it is refused RANGE, NO_TERMINAL and DARK in that order. Otherwise the
terminal's open frame, and for a REFRESH every closed screen frame, are discarded and their
blocks returned; then a DELTA for a terminal whose desk is not in surge, with the free count
below the low-water mark and 4 or more closed screen frames on its list, discards those too and
draws REFRESH WANTED with reason DEGRADE (the mark being set instead when no entry is free, and
neither while it is set); else one with too few free blocks is refused BUSY; else the frame is
appended, open if the more flag is yes, and takes its blocks. Nothing else changes.
(06_screens_views_and_watches.md, R104, R105, R106, R108, R109, R110, R111.) -/
def Obligations.NewScreenTakesItsPlace : Prop :=
  ∀ (s : State) (x f c m hi lo : Byte) (text : List Byte),
    s.listening → c = 0 → text.length = hi.toNat * 256 + lo.toNat → text.length ≤ 1024 →
    let k := x.toNat
    let me := s.terminal k
    let isOpen := fun g : OutFrame => match g with
      | .screen _ _ o => o
      | .listing _ => false
    let isClosed := fun g : OutFrame => match g with
      | .screen _ _ o => !o
      | .listing _ => false
    let gone := fun g : OutFrame => isOpen g || (f == 0 && isClosed g)
    let kept := me.outbound.filter (fun g => !gone g)
    let sum := fun gs : List OutFrame => (gs.map OutFrame.blocks).sum
    let free := s.freeBlocks + sum (me.outbound.filter gone)
    let need := if text.length = 0 then 1 else (text.length + 63) / 64
    let degraded := free < s.timing.lowWater ∧ f = 1 ∧ (s.pressure me.desk).surge ≠ .surge ∧
      (s.pressure me.desk).surge ≠ .easing ∧ 4 ≤ kept.countP isClosed
    let refuse := fun code => s.refused Kind.screen code (some k)
    let cleared := { s.heard.putTerminal k { me with outbound := kept } with freeBlocks := free }
    let answer := fun v => exec (.screen (x :: f :: c :: m :: hi :: lo :: text)) s = .next v
    (95 < k ∨ (f ≠ 0 ∧ f ≠ 1) → answer (refuse .range)) ∧
    (k ≤ 95 → f = 0 ∨ f = 1 →
      (me.configured = false → answer (refuse .noTerminal)) ∧
      (me.configured = true → me.liveness = .dark → answer (refuse .dark)) ∧
      (me.configured = true → me.liveness ≠ .dark →
        (degraded →
          let left := { me with outbound := kept.filter (fun g => !isClosed g) }
          let returned := free + sum (kept.filter isClosed)
          answer
            (if me.refreshOwed.isSome then
              { s.heard.putTerminal k left with freeBlocks := returned }
            else if s.queue.length < 64 then
              State.offer { s.heard.putTerminal k left with freeBlocks := returned }
                (.refreshWanted k .degrade)
            else
              { s.heard.putTerminal k { left with refreshOwed := some .degrade } with
                freeBlocks := returned })) ∧
        (¬ degraded → free < need →
          answer (cleared.offer (.refused Kind.screen .busy (some k)))) ∧
        (¬ degraded → need ≤ free →
          answer
            { s.heard.putTerminal k
                { me with
                  outbound := kept ++
                    [.screen (if f = 0 then .refresh else .delta) text (m != 0)] } with
              freeBlocks := free - need })))

/-- While the part listens, for a SCREEN with the continuation flag yes and a text of the length it
carries, at most 1,024, to a configured terminal that is not DARK (RANGE, NO_TERMINAL and DARK
being refused first): with no open frame it is refused STATE; with one frame open on the
terminal's list (R105 allows no second: CollectionsStayBounded), LENGTH when the two texts exceed
2,048 and BUSY when the blocks it needs more are not free, the open frame being discarded and its
blocks returned in both; and otherwise the frame gains the text, stays open as the more flag
says, and takes the blocks. The form is not read and nothing else changes. The open frame is
looked for where it stands, frames behind it included (the model's reading, log 26).
(06_screens_views_and_watches.md, R104, R106, R107.) -/
def Obligations.ContinuationExtendsTheOpenFrame : Prop :=
  ∀ (s : State) (x f c m hi lo : Byte) (text : List Byte),
    s.listening → c ≠ 0 → text.length = hi.toNat * 256 + lo.toNat → text.length ≤ 1024 →
    let k := x.toNat
    let me := s.terminal k
    let refuse := fun code => s.refused Kind.screen code (some k)
    let blocks := fun n : Nat => if n = 0 then 1 else (n + 63) / 64
    let answer :=
      fun v => exec (.screenContinuation (x :: f :: c :: m :: hi :: lo :: text)) s = .next v
    (95 < k → answer (refuse .range)) ∧
    (k ≤ 95 →
      (me.configured = false → answer (refuse .noTerminal)) ∧
      (me.configured = true → me.liveness = .dark → answer (refuse .dark)) ∧
      (me.configured = true → me.liveness ≠ .dark →
        ((∀ g ∈ me.outbound, g.isOpen = false) → answer (refuse .state)) ∧
        (∀ before after form old,
          me.outbound = before ++ .screen form old true :: after →
          (∀ g ∈ before ++ after, g.isOpen = false) →
          let cut := fun code =>
            State.offer
              { s.heard.putTerminal k { me with outbound := before ++ after } with
                freeBlocks := s.freeBlocks + blocks old.length }
              (.refused Kind.screen code (some k))
          let more := blocks (old.length + text.length) - blocks old.length
          answer
            (if 2048 < old.length + text.length then cut .length
            else if s.freeBlocks < more then cut .busy
            else
              { s.heard.putTerminal k
                  { me with
                    outbound := before ++ .screen form (old ++ text) (m != 0) :: after } with
                freeBlocks := s.freeBlocks - more }))))

/-- While the part listens, a PLAN EDITION outside editions 1 to 8 is refused RANGE and of an edition
neither EMPTY nor SEALED EDITION, its identifier the edition number; a taken one writes planned
pages clamped to 1 to 64, the section size to the nearest of 1, 2, 4 and 8 with ties upward, the
allowance at most 15, state PLANNED, counter 0, no marks and a table of EMPTY slots, and changes
nothing else. (R127.) -/
def Obligations.PlanEditionOpensAnEdition : Prop :=
  ∀ (s : State) (e p n a : Byte), s.listening →
    let old := (s.edition e.toNat).state
    exec (.planEdition [e, p, n, a]) s = .next
      (if e.toNat < 1 ∨ 8 < e.toNat then s.refused Kind.planEdition .range (some e.toNat)
      else if old ≠ .empty ∧ old ≠ .sealed then
        s.refused Kind.planEdition .edition (some e.toNat)
      else s.heard.putEdition e.toNat
        { state := .planned, planned := max 1 (min 64 p.toNat),
          size :=
            if n.toNat ≤ 1 then 1 else if n.toNat = 2 then 2 else if n.toNat ≤ 5 then 4 else 8,
          allowance := min 15 a.toNat, counter := 0, sealPending := false,
          completeReported := false,
          slots := List.replicate (max 1 (min 64 p.toNat)) { code := .empty, replates := 0 } })

/-- While the part listens (no identifier, log 9): START EDITION is refused RANGE, EDITION (not
PLANNED) and BUSY (one RUNNING), and otherwise makes the edition RUNNING and evaluates the joins.
CLOSE EDITION is refused RANGE and EDITION (not RUNNING); otherwise the one other edition that is
CLOSED without the mark, if there is one (R126 allows no second: PagesStandWhereTheirRecordsSay),
is sealed, or, with a page SENDING, marked seal-pending with its other pages swept, and the joins
are evaluated (log 14); the sweep takes its QUEUED pages off the typesetter queue, frees every
record of it but the one SENDING and no other, lifts their stories and no other, with the COPY
EVENTs LIFTED, the PAGE EVENTs FREE (cause SEAL, with what the page last had, log 31) and the
WATCH attentions of a seal in the same order, keeps every slot, and offers no EDITION REPORT;
then the edition is CLOSED with its counter at its allowance, and is sealed at once when that is
0 and no page of it is QUEUED, SENDING or a replate ARMED or READY. SEAL EDITION is refused
RANGE, EDITION (not CLOSED) and PAGE_BUSY (a page SENDING), and otherwise seals and evaluates the
joins. The start test follows each (log 27). (07_editions_and_pages.md, R129, R130, R131, R132,
R134, R149, R150, 01_stories_and_the_copy_directory.md, R13, R16,
06_screens_views_and_watches.md, R119, R120.) -/
def Obligations.EditionsStartCloseAndSeal : Prop :=
  ∀ (s : State) (b : Byte), s.listening → s.pagesStand →
    let e := b.toNat
    let x := s.edition e
    let outside := e < 1 ∨ 8 < e
    let going := fun (u : State) c => ∃ r p, u.page? r = some p ∧ p.edition = c ∧
      p.state = .sending
    let ajar := fun c => (s.edition c).state = .closed ∧ (s.edition c).sealPending = false
    let busy := fun (u : State) => ∃ r p, u.page? r = some p ∧ p.edition = e ∧
      (p.state = .queued ∨ p.state = .sending ∨
        (p.tier = .replate ∧ (p.state = .armed ∨ p.state = .ready)))
    let start := fun v => exec (.startEdition [b]) s = .next v
    let close := fun v => exec (.closeEdition [b]) s = .next v
    let sealed := fun v => exec (.sealEdition [b]) s = .next v
    let finish := fun (u : State) =>
      let closed := u.putEdition e
        { u.edition e with state := .closed, counter := (u.edition e).allowance }
      ((u.edition e).allowance ≠ 0 ∨ (u.edition e).sealPending = true ∨ busy u →
        close closed.startTest) ∧
      ((u.edition e).allowance = 0 → (u.edition e).sealPending = false → ¬ busy u →
        close ((closed.seal e).evaluateJoins).startTest)
    start
      (if outside then s.refused Kind.startEdition .range none
      else if x.state ≠ .planned then s.refused Kind.startEdition .edition none
      else if s.editions.any (fun c => c.2.state == .running) = true then
        s.refused Kind.startEdition .busy none
      else ((s.heard.putEdition e { x with state := .running }).evaluateJoins).startTest) ∧
    (outside → close (s.refused Kind.closeEdition .range none) ∧
      sealed (s.refused Kind.sealEdition .range none)) ∧
    (¬ outside →
      (x.state ≠ .running → close (s.refused Kind.closeEdition .edition none)) ∧
      (x.state = .running →
        ((∀ c, 1 ≤ c → c ≤ 8 → c ≠ e → ¬ ajar c) → finish s.heard) ∧
        (∀ c, 1 ≤ c → c ≤ 8 → c ≠ e → ajar c →
          (∀ d, 1 ≤ d → d ≤ 8 → d ≠ e → ajar d → d = c) →
          (¬ going s c → finish (s.heard.seal c).evaluateJoins) ∧
          (going s c → finish ((s.heard.putEdition c
            { s.edition c with sealPending := true }).sealPages c).evaluateJoins))) ∧
      (x.state ≠ .closed → sealed (s.refused Kind.sealEdition .edition none)) ∧
      (x.state = .closed → going s e → sealed (s.refused Kind.sealEdition .pageBusy none)) ∧
      (x.state = .closed → ¬ going s e → sealed ((s.heard.seal e).evaluateJoins).startTest)) ∧
    (∀ c,
      let t := (s.heard.putEdition c { s.edition c with sealPending := true }).sealPages c
      let swept : Nat → Bool := fun r => match s.page? r with
        | some p => p.edition == c && p.state != .sending
        | none => false
      let records := (List.range 128).filter swept
      let lifted := records.flatMap (fun r => (s.page r).placement)
      let queued : List Attention → AttentionBody → List Attention := fun q b =>
        if q.length < 4 then q ++ [{ body := b, earlierLost := false }]
        else q.tail ++ [{ body := b, earlierLost := true }]
      (∀ r, t.page? r = if swept r = true then none else s.page? r) ∧
      (∀ n, t.story? n = (s.story? n).map (fun st =>
        if (st.page.map swept) = some true then { st with page := none } else st)) ∧
      (∀ d, t.edition d =
        if d = c then { s.edition c with sealPending := true } else s.edition d) ∧
      t.typesetter =
        { s.typesetter with
          replateTier := s.typesetter.replateTier.filter (fun r => !swept r),
          firstTier := s.typesetter.firstTier.filter (fun r => !swept r) } ∧
      ( let events : List Notice :=
          records.flatMap (fun r =>
            (if s.reporting.copy then (s.page r).placement.map (fun n =>
              .copyEvent .lifted n (s.story n).state (s.story n).desk (s.story n).revision .order []
                none)
            else []) ++
            [.pageEvent r c (s.page r).number none (s.page r).tier (s.page r).broken
              (s.page r).stalePending (s.page r).replates .seal])
        s.reporting.page = true → s.sending.isSome = true →
          s.queue.length + events.length + 8 ≤ 64 → t.queue = s.queue ++ events) ∧
      (Table.wf Terminal.initial s.terminals = true → ∀ y, t.terminal y =
        { s.terminal y with
          attentions :=
            if (s.terminal y).liveness = .absent ∨ (s.terminal y).liveness = .dark ∨
                (s.terminal y).configured = false then (s.terminal y).attentions
            else (lifted.filter (fun n => (s.terminal y).watches.contains n)).foldl
              (fun q n => queued q (.watch .lifted n (s.story n).desk (s.story n).revision))
              (s.terminal y).attentions }) ∧
      s.heard.onlyChanges sealFields t)

/-- With pages and stories in agreement and no page of the edition SENDING, a seal takes the
edition's QUEUED pages off the typesetter queue, frees every record of the edition and no other,
clears the page field of their stories and of no other, leaves the slots as they were, and makes
the edition SEALED without the mark; with the PAGE group enabled, the transmitter busy and room
enough, the queue gains for each record in ascending order, with the COPY group enabled, one COPY
EVENT LIFTED for each story of its list in order, and then one PAGE EVENT FREE with cause SEAL;
and after them all the EDITION REPORT SEALED. The tier, marks and replate count in a FREE event
are those the page last had (the model's choice, log 31). Every terminal keeps all but its
attentions, and one that watches such stories gains, unless it is DARK or ABSENT, a WATCH of kind
LIFTED for each in the order they are lifted (the terminal table being canonical). Nothing else
changes. (07_editions_and_pages.md, R130, R149, R150, 01_stories_and_the_copy_directory.md, R13,
R16, 06_screens_views_and_watches.md, R119, R120.) -/
def Obligations.SealFreesThePagesAndReports : Prop :=
  ∀ (s : State) (e : Nat), s.pagesStand →
    (∀ r p, s.page? r = some p → p.edition = e → p.state ≠ .sending) →
    let t := s.seal e
    let mine : Nat → Bool := fun r => match s.page? r with
      | some p => p.edition == e
      | none => false
    let records := (List.range 128).filter mine
    let x := s.edition e
    let lifted := records.flatMap (fun r => (s.page r).placement)
    let queued : List Attention → AttentionBody → List Attention := fun q b =>
      if q.length < 4 then q ++ [{ body := b, earlierLost := false }]
      else q.tail ++ [{ body := b, earlierLost := true }]
    (∀ r, t.page? r = if mine r = true then none else s.page? r) ∧
    (∀ n, t.story? n = (s.story? n).map (fun st =>
      if (st.page.map mine) = some true then { st with page := none } else st)) ∧
    (∀ d, t.edition d =
      if d = e then { x with state := .sealed, sealPending := false } else s.edition d) ∧
    t.typesetter =
      { s.typesetter with
        replateTier := s.typesetter.replateTier.filter (fun r => !mine r),
        firstTier := s.typesetter.firstTier.filter (fun r => !mine r) } ∧
    ( let events : List Notice :=
        records.flatMap (fun r =>
          (if s.reporting.copy then (s.page r).placement.map (fun n =>
            .copyEvent .lifted n (s.story n).state (s.story n).desk (s.story n).revision .order []
              none)
          else []) ++
          [.pageEvent r e (s.page r).number none (s.page r).tier (s.page r).broken
            (s.page r).stalePending (s.page r).replates .seal]) ++
        [.editionReport e .sealed x.planned x.size x.allowance x.counter x.slots]
      s.reporting.page = true → s.sending.isSome = true →
        s.queue.length + events.length + 8 ≤ 64 → t.queue = s.queue ++ events) ∧
    (Table.wf Terminal.initial s.terminals = true → ∀ x, t.terminal x =
      { s.terminal x with
        attentions :=
          if (s.terminal x).liveness = .absent ∨ (s.terminal x).liveness = .dark ∨
              (s.terminal x).configured = false then (s.terminal x).attentions
          else (lifted.filter (fun n => (s.terminal x).watches.contains n)).foldl
            (fun q n => queued q (.watch .lifted n (s.story n).desk (s.story n).revision))
            (s.terminal x).attentions }) ∧
    s.onlyChanges sealFields t

/-- With pages, stories and editions in agreement, while the part listens: MAKE PAGE is refused
RANGE, EDITION, RANGE (above the planned pages), PAGE_BUSY (the page has a record, or a
FIRST-tier page of its section is QUEUED) and FULL in that order, its identifier the edition; a
taken one writes the lowest free record OPEN, FIRST and unmarked with its slot, and offers PAGE
EVENT ORDER. DROP PAGE is refused RANGE, EDITION, PAGE_BUSY and STATE in that order (no
identifier, log 9); a taken one frees the record, clears the page field of its stories, and
leaves the slot EMPTY with count 0; with the PAGE group enabled, the transmitter busy and room
enough, the queue gains, with COPY enabled, one COPY EVENT LIFTED for each story of the list in
order, and then PAGE EVENT FREE with cause ORDER and the tier, marks and replate count the page
last had (the model's choice, log 31), and every terminal keeps all but its attentions, where a
watcher gains a WATCH of kind LIFTED for each of its stories in order (the terminal table being
canonical). The automatic seal test follows, which seals the edition when it is CLOSED without
the mark, with counter 0 and no page QUEUED or SENDING and no replate ARMED or READY, and changes
nothing otherwise; then the joins (after it, log 33) and the start test (log 27).
(07_editions_and_pages.md, R128, R134, R136, R137, R138, R145, R149, R150,
01_stories_and_the_copy_directory.md, R13, R16, 06_screens_views_and_watches.md, R119, R120.) -/
def Obligations.MakeAndDropPageKeepTheRecords : Prop :=
  ∀ s : State, s.listening → s.pagesStand →
    let queued : List Attention → AttentionBody → List Attention := fun q b =>
      if q.length < 4 then q ++ [{ body := b, earlierLost := false }]
      else q.tail ++ [{ body := b, earlierLost := true }]
    (∀ e p : Byte,
      let x := s.edition e.toNat
      let sect := fun n => (n - 1) / x.size
      let refuse := fun code =>
        exec (.makePage [e, p]) s = .next (s.refused Kind.makePage code (some e.toNat))
      let dead := x.state = .empty ∨ x.state = .sealed ∨ x.sealPending = true
      let clash := ∃ r q, s.page? r = some q ∧ q.edition = e.toNat ∧ (q.number = p.toNat ∨
        (sect q.number = sect p.toNat ∧ q.state = .queued ∧ q.tier = .first))
      (e.toNat < 1 ∨ 8 < e.toNat ∨ p.toNat < 1 ∨ 64 < p.toNat → refuse .range) ∧
      (1 ≤ e.toNat → e.toNat ≤ 8 → 1 ≤ p.toNat → p.toNat ≤ 64 →
        (dead → refuse .edition) ∧
        (¬ dead → x.planned < p.toNat → refuse .range) ∧
        (¬ dead → p.toNat ≤ x.planned →
          (clash → refuse .pageBusy) ∧
          (¬ clash → (∀ r, r < 128 → s.page? r ≠ none) → refuse .full) ∧
          (∀ r, ¬ clash → r < 128 → s.page? r = none → (∀ q, q < r → s.page? q ≠ none) →
            exec (.makePage [e, p]) s = .next
              (((s.heard.putPage r (some
                { edition := e.toNat, number := p.toNat, placement := [], state := .opened,
                  tier := .first, broken := false, stalePending := false,
                  replates := 0 })).putEdition e.toNat
                { x with
                  slots := x.slots.set (p.toNat - 1) { code := .opened, replates := 0 } }).offer
                (.pageEvent r e.toNat p.toNat (some .opened) .first false false 0 .order)))))) ∧
    (∀ b : Byte,
      let r := b.toNat
      let refuse := fun code =>
        exec (.dropPage [b]) s = .next (s.refused Kind.dropPage code none)
      (127 < r → refuse .range) ∧ (r ≤ 127 → s.page? r = none → refuse .edition) ∧
      (∀ p, r ≤ 127 → s.page? r = some p →
        (p.state = .queued ∨ p.state = .sending → refuse .pageBusy) ∧
        (p.state = .sent ∨ p.state = .stale → refuse .state) ∧
        (p.state = .opened ∨ p.state = .armed ∨ p.state = .ready →
          let events : List Notice :=
            (if s.reporting.copy then p.placement.map (fun n =>
              .copyEvent .lifted n (s.story n).state (s.story n).desk (s.story n).revision .order
                [] none)
            else []) ++
            [.pageEvent r p.edition p.number none p.tier p.broken p.stalePending p.replates .order]
          ∃ u : State,
            exec (.dropPage [b]) s =
              .next (((u.sealTest p.edition).evaluateJoins).startTest) ∧
            (∀ k, u.page? k = if k = r then none else s.page? k) ∧
            (∀ n, u.story? n = (s.story? n).map (fun st =>
              if n ∈ p.placement then { st with page := none } else st)) ∧
            (∀ e, u.edition e =
              if e = p.edition then
                { s.edition e with
                  slots := (s.edition e).slots.set (p.number - 1)
                    { code := .empty, replates := 0 } }
              else s.edition e) ∧
            (s.reporting.page = true → s.sending.isSome = true →
              s.queue.length + events.length + 8 ≤ 64 → u.queue = s.queue ++ events) ∧
            (Table.wf Terminal.initial s.terminals = true → ∀ x, u.terminal x =
              { s.terminal x with
                attentions :=
                  if (s.terminal x).liveness = .absent ∨ (s.terminal x).liveness = .dark ∨
                      (s.terminal x).configured = false then (s.terminal x).attentions
                  else (p.placement.filter (fun n => (s.terminal x).watches.contains n)).foldl
                    (fun q n => queued q (.watch .lifted n (s.story n).desk (s.story n).revision))
                    (s.terminal x).attentions }) ∧
            s.onlyChanges
              (frameFields ++ noticeFields ++ [.stories, .terminals, .pages, .editions]) u))) ∧
    (∀ e, let x := s.edition e
      let seals := x.state = .closed ∧ x.sealPending = false ∧ x.counter = 0 ∧
        ∀ r p, s.page? r = some p → p.edition = e → p.state ≠ .queued ∧ p.state ≠ .sending ∧
          (p.tier = .replate → p.state ≠ .armed ∧ p.state ≠ .ready)
      (seals → s.sealTest e = s.seal e) ∧ (¬ seals → s.sealTest e = s))

/-- While the part listens: PLACE is refused RANGE, EDITION, NO_STORY, PAGE_BUSY, PLACED, STATE and
LIMIT in that order, its identifier the story; a taken one adds the story at the end of the
page's list, writes its page field and tells PLACED; then a READY page given a story that is not
SET becomes ARMED, with section withdrawal, the seal test and then the joins (that order is the
model's choice, log 33), and a SENT page STALE, with the joins. LIFT is refused RANGE, NO_STORY,
STATE and PAGE_BUSY in that order (no identifier, log 9); a taken one takes the story off the
list, clears its page field and tells LIFTED; then an ARMED page whose stories left are all SET
becomes READY with cause GATE (log 13), and a SENT page STALE, with the joins. The start test
follows each (log 27). (07_editions_and_pages.md, R136, R139, R140, R142, R145, R146,
01_stories_and_the_copy_directory.md, R13.) -/
def Obligations.PlaceAndLiftMoveThePage : Prop :=
  ∀ (s : State) (hi lo b : Byte), s.listening →
    let n := hi.toNat * 256 + lo.toNat
    let r := b.toNat
    let st := s.story n
    (let p := s.page r
      let q := { p with placement := p.placement ++ [n] }
      let placed := ((s.heard.putPage r (some q)).putStory n
        (some { st with page := some r })).tellChange .placed n .order
      let refuse := fun code => s.refused Kind.place code (some n)
      exec (.place [hi, lo, b]) s = .next
        (if 1023 < n ∨ 127 < r then refuse .range
        else if s.page? r = none then refuse .edition
        else if s.story? n = none then refuse .noStory
        else if p.state = .queued ∨ p.state = .sending then refuse .pageBusy
        else if st.page.isSome = true then refuse .placed
        else if st.state = .spiked then refuse .state
        else if 12 ≤ p.placement.length then refuse .limit
        else if p.state = .ready ∧ st.state ≠ .set then
          ((((placed.movePage r { q with state := .armed } .order).withdrawSection r).sealTest
            p.edition).evaluateJoins).startTest
        else if p.state = .sent then
          ((placed.movePage r { q with state := .stale } .order).evaluateJoins).startTest
        else placed.startTest)) ∧
    (let refuse := fun code => s.refused Kind.lift code none
      let lift := fun v => exec (.lift [hi, lo]) s = .next v
      (1023 < n → lift (refuse .range)) ∧
      (n ≤ 1023 → s.story? n = none → lift (refuse .noStory)) ∧
      (n ≤ 1023 → s.story? n = some st → st.page = none → lift (refuse .state)) ∧
      (∀ k p, n ≤ 1023 → s.story? n = some st → st.page = some k → s.page? k = some p →
        let q := { p with placement := p.placement.filter (fun m => m != n) }
        let lifted := ((s.heard.putPage k (some q)).putStory n
          (some { st with page := none })).tellChange .lifted n .order
        lift
          (if p.state = .queued ∨ p.state = .sending then refuse .pageBusy
          else if p.state = .armed ∧ ∀ m ∈ q.placement, (s.story m).state = .set then
            ((lifted.movePage k { q with state := .ready } .gate).evaluateJoins).startTest
          else if p.state = .sent then
            ((lifted.movePage k { q with state := .stale } .order).evaluateJoins).startTest
          else lifted.startTest)))

/-- While the part listens: RELEASE is refused RANGE, EDITION and STATE (not OPEN) in that order (no
identifier, log 9), and otherwise makes the page READY when every placed story is SET and ARMED
if not. REPLATE is refused RANGE, EDITION, PAGE_BUSY, STATE and LATE in that order, its
identifier the record, and otherwise spends 1 of a CLOSED edition's counter, makes the tier
REPLATE and the page READY or ARMED in the same way, with the seal test. Each writes the slot,
offers PAGE EVENT ORDER, withdraws the section for an ARMED page, and is followed by the joins
and the start test (that the start test follows is the model's reading, log 27). A change of a
page writes its record and its slot, which shows its state, SENDING as QUEUED, with its replate
count, and offers the one PAGE EVENT of the page as it then stands. With pages and queue in
agreement, a section withdrawal for a page takes exactly the other QUEUED FIRST-tier pages of its
section off the queue and makes them READY with tier and marks kept, their slots showing READY,
and, with the PAGE group enabled, the transmitter busy and room enough, offers a PAGE EVENT
WITHDRAWN for each, in page-number order (the model's choice, log 30). (07_editions_and_pages.md,
R133, R134, R141, R145, R146, R147, R149, R150, 08_the_typesetter_line.md, R156.) -/
def Obligations.ReleaseAndReplateOpenTheGate : Prop :=
  (∀ (s : State) (r : Nat) (p : Page) (cause : PageCause),
      let code : SlotCode := match p.state with
        | .opened => .opened
        | .armed => .armed
        | .ready => .ready
        | .queued => .queued
        | .sending => .queued
        | .sent => .sent
        | .stale => .stale
      let written := (s.putPage r (some p)).putEdition p.edition
        { s.edition p.edition with
          slots := (s.edition p.edition).slots.set (p.number - 1)
            { code := code, replates := p.replates } }
      s.movePage r p cause = written.offer
        (.pageEvent r p.edition p.number (some p.state) p.tier p.broken p.stalePending p.replates
          cause)) ∧
    (∀ (s : State) (r : Nat) (p : Page), s.pagesStand → s.page? r = some p →
      let t := s.withdrawSection r
      let x := s.edition p.edition
      let goes : Nat → Bool := fun k => match s.page? k with
        | some q => k != r && q.edition == p.edition &&
            (q.number - 1) / x.size == (p.number - 1) / x.size && q.state == .queued &&
            q.tier == .first
        | none => false
      (∀ k, t.page? k = (s.page? k).map (fun q =>
        if goes k = true then { q with state := .ready } else q)) ∧
      t.typesetter =
        { s.typesetter with firstTier := s.typesetter.firstTier.filter (fun k => !goes k) } ∧
      (∀ e, e ≠ p.edition → t.edition e = s.edition e) ∧
      ∃ gone : List Nat, (∀ k, k ∈ gone ↔ goes k = true) ∧
        gone.Pairwise (fun k i => (s.page k).number < (s.page i).number) ∧
        t.edition p.edition =
          { x with
            slots := gone.foldl (fun slots k => slots.set ((s.page k).number - 1)
              { code := .ready, replates := (s.page k).replates }) x.slots } ∧
        (s.reporting.page = true → s.sending.isSome = true →
          s.queue.length + gone.length + 8 ≤ 64 →
          t.queue = s.queue ++ gone.map (fun k =>
            .pageEvent k p.edition (s.page k).number (some .ready) .first (s.page k).broken
              (s.page k).stalePending (s.page k).replates .withdrawn)) ∧
        s.onlyChanges pageFields t) ∧
    ∀ (s : State) (b : Byte), s.listening →
    let r := b.toNat
    let p := s.page r
    let x := s.edition p.edition
    let gate : PageState := if ∀ n ∈ p.placement, (s.story n).state = .set then .ready else .armed
    let moved := fun (u : State) (q : Page) =>
      let v := u.movePage r q .order
      if gate = .armed then v.withdrawSection r else v
    exec (.release [b]) s = .next
      (if 127 < r then s.refused Kind.release .range none
      else if s.page? r = none then s.refused Kind.release .edition none
      else if p.state ≠ .opened then s.refused Kind.release .state none
      else ((moved s.heard { p with state := gate }).evaluateJoins).startTest) ∧
    exec (.replate [b]) s = .next
      (if 127 < r then s.refused Kind.replate .range (some r)
      else if s.page? r = none then s.refused Kind.replate .edition (some r)
      else if p.state = .queued ∨ p.state = .sending then
        s.refused Kind.replate .pageBusy (some r)
      else if p.state ≠ .sent ∧ p.state ≠ .stale then s.refused Kind.replate .state (some r)
      else if x.state = .closed ∧ x.counter = 0 then s.refused Kind.replate .late (some r)
      else
        let spent :=
          if x.state = .closed then
            s.heard.putEdition p.edition { x with counter := x.counter - 1 }
          else s.heard
        (((moved spent { p with tier := .replate, state := gate }).sealTest
          p.edition).evaluateJoins).startTest)

/-- With pages, editions and the typesetter queue in agreement, an evaluation of the joins appends
the waiting replates to the REPLATE tier, in ascending order of edition and page, as many as
there are free entries. When all fit, it appends to the FIRST tier, in page order, the READY
FIRST-tier pages of sections in ascending order of edition and section, each one eligible: its
edition RUNNING, or CLOSED without the mark and with a counter above 0; every planned page of it
recorded and SENT, STALE or READY in the FIRST tier (the waiting replates have joined before); at
least one READY. The pages that join become QUEUED and no other page changes, their slots showing
QUEUED; a CLOSED edition has no more sections joined than its counter, which falls by 1 for each.
With the PAGE group enabled, the transmitter busy and room enough, each page that joins draws
PAGE EVENT JOIN, replates first. An eligible section is left out only when its CLOSED edition has
spent its counter, or when it or an eligible section before it, of no such edition, needs more
entries than are left free: the evaluation stops there. So nothing overtakes: before a section
that joins, an eligible one is left out only when its edition has spent its counter.
(07_editions_and_pages.md, R128, R133, R145, R149, R150.) -/
def Obligations.JoinsQueueReplatesThenSections : Prop :=
  ∀ s : State, s.pagesStand →
    let t := s.evaluateJoins
    let inSection := fun (e k : Nat) (p : Page) => p.edition = e ∧
      k * (s.edition e).size < p.number ∧ p.number ≤ (k + 1) * (s.edition e).size
    let eligible := fun e k : Nat =>
      ((s.edition e).state = .running ∨ ((s.edition e).state = .closed ∧
        (s.edition e).sealPending = false ∧ 0 < (s.edition e).counter)) ∧
      (∀ n, k * (s.edition e).size < n → n ≤ (k + 1) * (s.edition e).size →
        n ≤ (s.edition e).planned → ∃ r p, s.page? r = some p ∧ p.edition = e ∧ p.number = n ∧
          ((p.state = .ready ∧ p.tier = .first) ∨ p.state = .sent ∨ p.state = .stale)) ∧
      (∃ r p, s.page? r = some p ∧ inSection e k p ∧ p.state = .ready ∧ p.tier = .first)
    let before := fun a b : Nat × Nat => a.1 < b.1 ∨ (a.1 = b.1 ∧ a.2 < b.2)
    let free := 64 - s.typesetter.replateTier.length - s.typesetter.firstTier.length -
      (if s.typesetter.send.isSome then 1 else 0)
    let left := free - (t.typesetter.replateTier.length - s.typesetter.replateTier.length) -
      (t.typesetter.firstTier.length - s.typesetter.firstTier.length)
    let spent := fun e : Nat => (s.edition e).state = .closed ∧ (t.edition e).counter = 0
    let joins := fun (waiting : List Nat) (joined : List (Nat × Nat)) =>
      waiting.take free ++ joined.flatMap (fun j => s.sectionReady j.1 j.2)
    ∃ (waiting : List Nat) (joined : List (Nat × Nat)),
      (∀ r, r ∈ waiting ↔ ∃ p, s.page? r = some p ∧ p.state = .ready ∧ p.tier = .replate) ∧
      waiting.Pairwise (fun q r => before ((s.page q).edition, (s.page q).number)
        ((s.page r).edition, (s.page r).number)) ∧
      t.typesetter.replateTier = s.typesetter.replateTier ++ waiting.take free ∧
      joined.Pairwise before ∧ (∀ j ∈ joined, eligible j.1 j.2) ∧
      (free < waiting.length → joined = []) ∧
      t.typesetter.firstTier =
        s.typesetter.firstTier ++ joined.flatMap (fun j => s.sectionReady j.1 j.2) ∧
      (∀ e k, eligible e k → (e, k) ∉ joined → waiting.length ≤ free →
        spent e ∨ ∃ d i, eligible d i ∧ (d, i) ∉ joined ∧ ¬ before (e, k) (d, i) ∧ ¬ spent d ∧
          left < (s.sectionReady d i).length) ∧
      (∀ j ∈ joined, ∀ d i, eligible d i → before (d, i) j → (d, i) ∉ joined → spent d) ∧
      (∀ e, (s.edition e).state = .closed →
        joined.countP (fun j => j.1 == e) ≤ (s.edition e).counter) ∧
      (∀ e, t.edition e =
        { s.edition e with
          counter := (s.edition e).counter -
            (if (s.edition e).state = .closed then joined.countP (fun j => j.1 == e) else 0),
          slots := ((joins waiting joined).filter (fun r => (s.page r).edition == e)).foldl
            (fun slots r => slots.set ((s.page r).number - 1)
              { code := .queued, replates := (s.page r).replates }) (s.edition e).slots }) ∧
      (s.reporting.page = true → s.sending.isSome = true →
        s.queue.length + (joins waiting joined).length + 8 ≤ 64 →
        t.queue = s.queue ++ (joins waiting joined).map (fun r =>
          .pageEvent r (s.page r).edition (s.page r).number (some .queued) (s.page r).tier
            (s.page r).broken (s.page r).stalePending (s.page r).replates .join)) ∧
      (∀ e k r, r ∈ s.sectionReady e k ↔
        ∃ p, s.page? r = some p ∧ inSection e k p ∧ p.state = .ready ∧ p.tier = .first) ∧
      (∀ e k, (s.sectionReady e k).Pairwise (fun q r => (s.page q).number < (s.page r).number)) ∧
      (∀ r, t.page? r = (s.page? r).map (fun p =>
        if r ∈ joins waiting joined then { p with state := .queued } else p)) ∧
      s.onlyChanges pageFields t

/-- What a story SET, pulled or revised does to its page: SET, an ARMED page with every story SET
becomes READY, with the joins; pulled, a READY or QUEUED page, off the queue, becomes ARMED, with
section withdrawal, the seal test and then the joins (that order is the model's choice, log 33),
and a SENT page STALE, with the joins; revised, a SENDING page has its stale-pending mark set,
and a SENT page becomes STALE, with the joins; each with PAGE EVENT STORY (GATE for the gate),
and nothing in other states. With pages, stories and editions in agreement: a story SET on an
ARMED page whose stories are now all SET makes it READY or, joined, QUEUED, and one on any other
page changes nothing. A taken PULL of a story makes its READY or QUEUED page ARMED and out of the
queue, with no FIRST-tier page of its section QUEUED, unless its CLOSED edition seals by it; it
makes a SENT page STALE and leaves an OPEN, ARMED or STALE page as it was. A taken REVISE sets
the stale-pending mark of a SENDING page, makes a SENT page STALE, and leaves every other page as
it was, but that a QUEUED one may start. (07_editions_and_pages.md, R134, R142, R143, R144, R145,
R146, R150, 01_stories_and_the_copy_directory.md, R15.) -/
def Obligations.ChangesToPlacedStoriesReachThePage : Prop :=
  ∀ (s : State) (n r : Nat) (st : Story) (p : Page),
    s.story? n = some st → st.page = some r → s.page? r = some p →
    (s.storySet n =
      if p.state = .armed ∧ ∀ m ∈ p.placement, (s.story m).state = .set then
        (s.movePage r { p with state := .ready } .gate).evaluateJoins
      else s) ∧
    (s.storyPulled n =
      if p.state = .ready ∨ p.state = .queued then
        let taken := if p.state = .queued then
            s.putTypesetter
              { s.typesetter with
                replateTier := s.typesetter.replateTier.filter (fun q => q != r),
                firstTier := s.typesetter.firstTier.filter (fun q => q != r) }
          else s
        (((taken.movePage r { p with state := .armed } .story).withdrawSection r).sealTest
          p.edition).evaluateJoins
      else if p.state = .sent then (s.movePage r { p with state := .stale } .story).evaluateJoins
      else s) ∧
    (s.storyRevised n =
      if p.state = .sending then s.movePage r { p with stalePending := true } .story
      else if p.state = .sent then
        (s.movePage r { p with state := .stale } .story).evaluateJoins
      else s) ∧
    (s.pagesStand → s.listening →
    (st.state = .set →
      (p.state = .armed → (∀ m ∈ p.placement, (s.story m).state = .set) →
        ∃ q, (s.storySet n).page? r = some q ∧ (q.state = .ready ∨ q.state = .queued)) ∧
      (p.state ≠ .armed ∨ (∃ m ∈ p.placement, (s.story m).state ≠ .set) → s.storySet n = s)) ∧
    (∀ hi lo d f : Byte, n = hi.toNat * 256 + lo.toNat → n ≤ 1023 → st.state = .set →
      d.toNat ≤ 15 → (s.desk d.toNat).inUse = true → p.state ≠ .sending →
      (s.basket d.toNat).count < (s.desk d.toNat).capacity →
      ∃ t, exec (.pull [hi, lo, d, f]) s = .next t ∧
        (p.state = .ready ∨ p.state = .queued →
          (t.page? r = some { p with state := .armed } ∧ r ∉ t.typesetter.firstTier ∧
            r ∉ t.typesetter.replateTier ∧
            ∀ k q, t.page? k = some q → q.edition = p.edition → q.tier = .first →
              (q.number - 1) / (s.edition p.edition).size =
                (p.number - 1) / (s.edition p.edition).size → q.state ≠ .queued) ∨
          (t.page? r = none ∧ (s.edition p.edition).state = .closed ∧
            (t.edition p.edition).state = .sealed)) ∧
        (p.state = .sent → t.page? r = some { p with state := .stale }) ∧
        (p.state = .opened ∨ p.state = .armed ∨ p.state = .stale → t.page? r = some p)) ∧
    (∀ (hi lo : Byte), n = hi.toNat * 256 + lo.toNat → n ≤ 1023 →
      ∃ t, exec (.revise [hi, lo, 0]) s = .next t ∧
        (p.state = .sending → t.page? r = some { p with stalePending := true }) ∧
        (p.state = .sent → t.page? r = some { p with state := .stale }) ∧
        (p.state ≠ .sending → p.state ≠ .sent → p.state ≠ .queued → t.page? r = some p) ∧
        (p.state = .queued →
          t.page? r = some p ∨ t.page? r = some { p with state := .sending })))

/-- From every state in which stories, baskets and holds agree and each page record in use is one of
a distinct page of a PLANNED, RUNNING or CLOSED edition with as many slots as planned pages; a
story names a page exactly when the page lists it, at most 12, once each, none SPIKED and all SET
on a READY, QUEUED or SENDING page; the tiers list exactly the QUEUED pages of their tier, once
each; the page SENDING is the send record's; and the queue's entries with the page SENDING are at
most 64: a step leads to such a state. It keeps two more things that hold before it: of the
editions, that those planned are numbered 1 to 8, at most one is RUNNING, at most one CLOSED
without the seal-pending mark, and at most one bears the mark, being CLOSED with one page record,
of the page SENDING; and that a section with a FIRST-tier page QUEUED has no page OPEN or ARMED.
(07_editions_and_pages.md, R126, R128, R136, R142, R146, R149, 08_the_typesetter_line.md, R155,
R158, 01_stories_and_the_copy_directory.md, R3, R4, 02_desks_baskets_and_routing.md, R24.) -/
def Obligations.PagesStandWhereTheirRecordsSay : Prop :=
  ∀ s t : State, s.pagesStand → s.storiesStand → step s = .next t →
    t.pagesStand ∧ (s.editionsStand → t.editionsStand) ∧ (s.sectionsWhole → t.sectionsWhole)

/-- While the part listens, a TYPESET MODE that is none of HOLD, RUN and STEP is refused RANGE (no
identifier, log 9), and any other sets the mode and makes the start test. The start test changes
nothing unless the queue is not empty, the mode is RUN or STEP, no page is SENDING, the part is
RUNNING and not store-lost, and no CANCEL is pending but one of the page at the head; then that
page, the first of the REPLATE tier or else of the FIRST tier, leaves the queue and becomes
SENDING with PAGE EVENT TYPESETTER, the send record is set up afresh, and a PAGE CALL for offset
0 is offered, OUTSTANDING with its data timer, or OWED when no entry is free.
(08_the_typesetter_line.md, R155, R156, R157, R158, R159, R161, 07_editions_and_pages.md, R148.) -/
def Obligations.SendsStartAtTheHead : Prop :=
  ∀ s : State,
    (s.listening → ∀ m : Byte,
      exec (.typesetMode [m]) s = .next
        (if m = 0 then State.startTest
            { s.heard with typesetter := { s.typesetter with mode := .hold } }
        else if m = 1 then State.startTest
            { s.heard with typesetter := { s.typesetter with mode := .run } }
        else if m = 2 then State.startTest
            { s.heard with typesetter := { s.typesetter with mode := .step } }
        else s.refused Kind.typesetMode .range none)) ∧
    (let y := s.typesetter
      let head := (y.replateTier ++ y.firstTier).head?
      let may := fun r => y.mode ≠ .hold ∧ y.send = none ∧ s.part = .running ∧
        s.storeLost = false ∧ (∀ c, y.cancel = some c → c.page = some r)
      (head = none → s.startTest = s) ∧
      (∀ r, head = some r → ¬ may r → s.startTest = s) ∧
      (∀ r, head = some r → may r →
        let p := s.page r
        let send : Send :=
          { page := r, expected := 0, call := .none, finalAccepted := false, buffer := [],
            nextSequence := 0, endBlockSent := false, dataTimer := none, blocksBegun := 0 }
        let moved := State.movePage
          { s with typesetter :=
              { y with
                replateTier := y.replateTier.filter (fun q => q != r),
                firstTier := y.firstTier.filter (fun q => q != r), send := some send } }
          r { p with state := .sending } .typesetter
        s.startTest =
          if moved.queue.length < 64 then
            { moved.offer (.pageCall r p.edition p.number 0) with
              typesetter := { moved.typesetter with
                send := some { send with
                  call := .outstanding,
                  dataTimer := some (s.now + s.timing.stallTimeout * 1000) } } }
          else
            { moved with typesetter :=
                { moved.typesetter with send := some { send with call := .owed } } }))

/-- While the part listens, a PAGE DATA of the byte count it carries, at most 1,024, is refused
RANGE, OFFSET (not the SENDING page, no call OUTSTANDING, not the expected offset) and LENGTH (no
byte and not final, past 16,777,215) in that order, its identifier the record; an accepted one
adds its bytes to the buffer and the expected offset, ends the call and its timer, notes the
final flag, makes the next call if 16 blocks are free and no final data has come, and lets a
ready block begin or wait. An owed PAGE CALL that is offered again, which is the business of a
command of its own (the model's reading, log 5), takes a free entry and is OUTSTANDING with its
timer started; with no free entry, or none owed, nothing happens (log 3).
(08_the_typesetter_line.md, R158, R159, R160, R161, R162.) -/
def Obligations.PageDataFillsTheBuffer : Prop :=
  ∀ s : State,
    let call := fun (v : State) (x : Send) =>
      if v.queue.length < 64 then
        (v.offer (.pageCall x.page (v.page x.page).edition (v.page x.page).number
          x.expected)).putSend
          { x with
            call := .outstanding, dataTimer := some (v.now + v.timing.stallTimeout * 1000) }
      else v.putSend { x with call := .owed }
    (s.listening → ∀ (r o2 o1 o0 f hi lo : Byte) (bytes : List Byte),
      bytes.length = hi.toNat * 256 + lo.toNat → bytes.length ≤ 1024 →
      let off := o2.toNat * 65536 + o1.toNat * 256 + o0.toNat
      let refuse := fun code => s.refused Kind.pageData code (some r.toNat)
      let answer := fun v => exec (.pageData (r :: o2 :: o1 :: o0 :: f :: hi :: lo :: bytes)) s =
        .next v
      (127 < r.toNat → answer (refuse .range)) ∧
      (r.toNat ≤ 127 → s.typesetter.send = none → answer (refuse .offset)) ∧
      (∀ x, r.toNat ≤ 127 → s.typesetter.send = some x →
        let y := { x with
          buffer := x.buffer ++ bytes, expected := x.expected + bytes.length, call := .none,
          dataTimer := none, finalAccepted := x.finalAccepted || f != 0 }
        answer
          (if x.page ≠ r.toNat ∨ x.call ≠ .outstanding ∨ off ≠ x.expected then refuse .offset
          else if (bytes = [] ∧ f = 0) ∨ 16777215 < off + bytes.length then refuse .length
          else if y.finalAccepted = false ∧ y.buffer.length ≤ 1024 then
            (call (s.heard.putSend y) y).tsLine
          else (s.heard.putSend y).tsLine))) ∧
    (s.typesetter.send = none → exec .pageCallOwedOffered s = .next s) ∧
    (∀ x, s.typesetter.send = some x →
      (x.call ≠ .owed ∨ 64 ≤ s.queue.length → exec .pageCallOwedOffered s = .next s) ∧
      (x.call = .owed → s.queue.length < 64 →
        exec .pageCallOwedOffered s = .next (call s x)))

/-- While the part listens, ABORT SEND sets HOLD and abandons the page SENDING, if any; the data
timer's expiry abandons it with NO_DATA, the clock at the expiry or later (log 1), and without
the timer nothing happens (log 3). With pages and queue in agreement, an abandon discards the
send record, leaves a CANCEL block of the page and its next sequence pending, or begun at once on
a free line with TSRDY found asserted (logs 4 and 15), and returns the page broken and not
stale-pending: READY when it is FIRST tier and a page of its section is OPEN or ARMED, and else
QUEUED at the head of its tier. An edition with the seal-pending mark is then SEALED and its page
freed; so is one CLOSED with counter 0 when the page became READY and no other page of it is
QUEUED or a replate ARMED or READY; no other is. In HOLD, LOADING or store-lost nothing starts;
in RUN or STEP, RUNNING and with the store present, the page starts again at once when it heads
the queue, with a fresh send record. With the PAGE group enabled, the transmitter busy and 10
entries free, the queue gains first PAGE EVENT QUEUED, broken, with cause TYPESETTER; then, when
the page becomes READY, PAGE EVENT READY with cause WITHDRAWN; then, with TYPESETTER enabled, the
event ABANDONED, with the bytes accepted and blocks begun; and, where nothing starts, no edition
is sealed and there is no stall, no other notice after them but PAGE EVENTs JOIN. Where nothing
starts, with the PAGE group disabled, TYPESETTER enabled, no stall, the transmitter busy and 8
entries free, the queue gains the one event ABANDONED. Logs 1, 3, 4 and 15 are the model's.
(08_the_typesetter_line.md, R156, R161, R163, R167, R168, R169, R170, 07_editions_and_pages.md,
R134, R135, R145, R146, R148, R150.) -/
def Obligations.AbandonReturnsThePage : Prop :=
  ∀ s : State,
    (s.listening →
      (s.typesetter.send = none → exec (.abortSend []) s = .next
        { s.heard with typesetter := { s.typesetter with mode := .hold } }) ∧
      (∀ x, s.typesetter.send = some x → exec (.abortSend []) s = .next
        (State.abandon { s.heard with typesetter := { s.typesetter with mode := .hold } }
          .abort))) ∧
    (s.typesetter.send = none → exec .dataTimerExpiry s = .next s) ∧
    (∀ x, s.typesetter.send = some x →
      (x.dataTimer = none → exec .dataTimerExpiry s = .next s) ∧
      (∀ due, x.dataTimer = some due → exec .dataTimerExpiry s = .next
        (State.abandon { s with now := max s.now due } .noData))) ∧
    (∀ x p cause, cause ≠ .restart → s.typesetter.send = some x → s.page? x.page = some p →
      s.pagesStand →
      let t := s.abandon cause
      let e := s.edition p.edition
      let c : Cancel := { page := some x.page, sequence := x.nextSequence }
      let level := s.tsrdy.asserted && !(s.tsrdy.falls.headD false)
      let rests := s.typesetter.mode = .hold ∨ s.storeLost = true ∨ s.part = .loading
      let goes := s.typesetter.mode ≠ .hold ∧ s.storeLost = false ∧ s.part = .running
      let unready := p.tier = .first ∧ ∃ r q, s.page? r = some q ∧ q.edition = p.edition ∧
        (q.number - 1) / e.size = (p.number - 1) / e.size ∧
        (q.state = .opened ∨ q.state = .armed)
      let seals := e.sealPending = true ∨ (e.state = .closed ∧ e.counter = 0 ∧ unready ∧
        ∀ r q, s.page? r = some q → q.edition = p.edition → q.state ≠ .queued ∧
          (q.tier = .replate → q.state ≠ .armed ∧ q.state ≠ .ready))
      let heads := p.tier = .replate ∨ (¬ unready ∧ s.typesetter.replateTier = [] ∧
        ∀ r q, s.page? r = some q → q.tier = .replate → q.state ≠ .ready)
      let back : Page := { p with broken := true, stalePending := false }
      t.typesetter.mode = s.typesetter.mode ∧
      (s.typesetter.block = none →
        t.tsrdy = (if s.tsrdy.asserted then { asserted := level, falls := s.tsrdy.falls.tail }
          else s.tsrdy) ∧
        (level = true → t.typesetter.cancel = none ∧ t.typesetter.block = some (.cancel c)) ∧
        (level = false → t.typesetter.cancel = some c ∧ t.typesetter.block = none)) ∧
      (s.typesetter.block.isSome = true → t.tsrdy = s.tsrdy ∧ t.typesetter.cancel = some c ∧
        t.typesetter.block.isSome = true) ∧
      (seals → t.page? x.page = none ∧ (t.edition p.edition).state = .sealed ∧
        (t.edition p.edition).sealPending = false ∧ x.page ∉ t.typesetter.firstTier ∧
        x.page ∉ t.typesetter.replateTier ∧ t.typesetter.sendingPage ≠ some x.page) ∧
      (¬ seals → (t.edition p.edition).state = e.state) ∧
      (rests → t.typesetter.send = none) ∧
      (rests → ¬ seals →
        (unready → t.page? x.page = some { back with state := .ready }) ∧
        (¬ unready → t.page? x.page = some { back with state := .queued } ∧
          (p.tier = .first → t.typesetter.firstTier.head? = some x.page) ∧
          (p.tier = .replate → t.typesetter.replateTier.head? = some x.page))) ∧
      (goes → ¬ seals → heads → t.page? x.page = some { back with state := .sending } ∧
        ∃ y, t.typesetter.send = some y ∧ y.page = x.page ∧ y.expected = 0 ∧ y.buffer = [] ∧
          y.nextSequence = 0 ∧ y.blocksBegun = 0 ∧ y.finalAccepted = false ∧ y.call ≠ .none) ∧
      (rests → ¬ seals → s.reporting.page = false → s.reporting.typesetter = true →
        s.typesetter.stalled = false → s.sending.isSome = true → s.queue.length + 8 ≤ 64 →
        t.queue = s.queue ++ [.typesetterEvent .abandoned
          (some (x.page, p.edition, p.number)) (some cause) x.expected x.blocksBegun]) ∧
      ( let event := fun (state : PageState) (why : PageCause) => Notice.pageEvent x.page p.edition
          p.number (some state) p.tier true false p.replates why
        let told := fun withdrawn : List Notice => ∃ more,
          t.queue = s.queue ++ [event .queued .typesetter] ++ withdrawn ++
            (if s.reporting.typesetter then [.typesetterEvent .abandoned
              (some (x.page, p.edition, p.number)) (some cause) x.expected x.blocksBegun]
            else []) ++ more ∧
          (rests → ¬ seals → s.typesetter.stalled = false → ∀ n ∈ more,
            ∃ r e' number tier broken stale replates,
              n = .pageEvent r e' number (some .queued) tier broken stale replates .join)
        s.reporting.page = true → s.sending.isSome = true → s.queue.length + 10 ≤ 64 →
          (unready → told [event .ready .withdrawn]) ∧ (¬ unready → told [])))

/-- TSRDY's assertion, and the end of a block, tell the part the level of TSRDY, and the line goes on
(with no block on it an end does nothing, log 3); the end of the end block completes the send
first (the page STALE by its mark or else SENT, unmarked, a replate counted; what follows a
send's end; STEP to HOLD; the start test); the wait timer's expiry, the clock at it or later (log
1), sets the stalled mark and offers one STALL, and does nothing when it is not running (log 3).
As the line goes on: busy, or with no block ready, no wait goes on; with TSRDY asserted the ready
block begins, CANCEL first (with the start test), else a full block of 64 bytes or, with the
final data accepted and fewer than 64 left, the end block with them all, the sequence rising
modulo 256, a stalled mark being cleared with STALL_CLEARED, whose count has the block begun,
before the call that is due then (log 15); with TSRDY deasserted a wait and its timer begin, or
go on. A call is made just when none is in hand, no final data has been accepted and 16 of the 32
blocks are free, OUTSTANDING with its timer, or OWED when no entry is free. STALL and
STALL_CLEARED carry the page SENDING with the bytes accepted and the blocks begun, or none and 0
when no page is. Where a block is to begin but no block has just ended, an asserted TSRDY is
judged afresh: it may have fallen since (log 4). What follows a send's end is the complete-report
test (RUNNING or CLOSED, not yet reported, every slot SENT: the mark is set and EDITION REPORT
COMPLETE offered), then the seal of an edition with the seal-pending mark or else the automatic
seal test, then the joins. A block is A5h, the page record, the sequence, the count or C0h, the
data and the check; between blocks TSOUT carries 00h. Logs 1, 3, 4 and 15 are the model's.
(08_the_typesetter_line.md, R157, R159, R161, R162, R163, R164, R165, R166, R170,
07_editions_and_pages.md, R134, R135, R145, R148, R149, R150, 10_frame_and_record_layouts.md,
R198, R202.) -/
def Obligations.BlocksGoDownTheTypesetterLine : Prop :=
  ∀ s : State,
    let y := s.typesetter
    let cleared := fun v : State =>
      if v.typesetter.stalled then
        let u := v.putTypesetter { v.typesetter with stalled := false }
        u.offer (u.typesetterEventOf .stallCleared none)
      else v
    let ready := y.cancel ≠ none ∨ ∃ x, y.send = some x ∧
      (64 ≤ x.buffer.length ∨ (x.finalAccepted = true ∧ x.endBlockSent = false))
    let free := { y with waiting := false, waitTimer := none }
    let begun := fun (b : Block) (x : Send) => s.tsProceed = (cleared (s.putTypesetter
      { free with send := some x, block := some b })).callDue
    let next := fun x : Send =>
      { x with nextSequence := (x.nextSequence + 1) % 256, blocksBegun := x.blocksBegun + 1 }
    let told := fun level : Bool =>
      { s with tsrdy := { asserted := level, falls := s.tsrdy.falls } }
    (exec .tsrdyAsserted s = .next (told true).tsProceed) ∧
    (∀ level, y.block = none → exec (.galleyBlockEnd level) s = .next s) ∧
    (∀ level b, y.block = some b →
      let u := (told level).putTypesetter { y with block := none }
      ((∀ r q data, b ≠ .galley r q data true) →
        exec (.galleyBlockEnd level) s = .next u.tsProceed) ∧
      (∀ r q data x, b = .galley r q data true → y.send = some x →
        let p := s.page x.page
        let done := ((u.putTypesetter { u.typesetter with send := none }).movePage x.page
          { p with
            state := if p.stalePending then .stale else .sent, broken := false,
            stalePending := false,
            replates := if p.tier = .replate then min (p.replates + 1) 15 else p.replates }
          .typesetter).afterSend p.edition
        exec (.galleyBlockEnd level) s = .next
          (((done.setMode
            (if done.typesetter.mode = .run then .run else .hold)).startTest).tsProceed))) ∧
    (y.waitTimer = none → exec .waitTimerExpiry s = .next s) ∧
    (∀ due, y.waitTimer = some due →
      let v := { s with
        now := max s.now due, typesetter := { y with waitTimer := none, stalled := true } }
      exec .waitTimerExpiry s = .next
        (if y.stalled then v else v.offer (v.typesetterEventOf .stall none))) ∧
    (y.block ≠ none ∨ ¬ ready ∨ s.tsrdy.asserted = false ∨ s.tsrdy.falls = [] →
      s.tsLine = s.tsProceed) ∧
    (∀ fell rest, y.block = none → ready → s.tsrdy = { asserted := true, falls := fell :: rest } →
      s.tsLine = State.tsProceed { s with tsrdy := { asserted := !fell, falls := rest } }) ∧
    (y.block ≠ none ∨ ¬ ready → s.tsProceed = s.putTypesetter free) ∧
    (y.block = none → ready → s.tsrdy.asserted = false → s.tsProceed =
      if y.waiting then s
      else s.putTypesetter
        { y with
          waiting := true, waitTimer := some (s.now + s.timing.stallTimeout * 1000) }) ∧
    (y.block = none → s.tsrdy.asserted = true →
      (∀ c, y.cancel = some c → s.tsProceed = (cleared (s.putTypesetter
        { free with cancel := none, block := some (.cancel c) })).startTest) ∧
      (∀ x, y.cancel = none → y.send = some x →
        (64 ≤ x.buffer.length →
          begun (.galley x.page x.nextSequence (x.buffer.take 64) false)
            (next { x with buffer := x.buffer.drop 64 })) ∧
        (x.buffer.length < 64 → x.finalAccepted = true → x.endBlockSent = false →
          begun (.galley x.page x.nextSequence x.buffer true) (next { x with buffer := [] })))) ∧
    (y.send = none → s.callDue = s ∧
      ∀ kind cause, s.typesetterEventOf kind cause = .typesetterEvent kind none cause 0 0) ∧
    (∀ x, y.send = some x →
      let p := s.page x.page
      let due := x.call = .none ∧ x.finalAccepted = false ∧ (x.buffer.length + 63) / 64 + 16 ≤ 32
      (¬ due → s.callDue = s) ∧
      (due → s.queue.length < 64 → s.callDue =
        (s.offer (.pageCall x.page p.edition p.number x.expected)).putSend
          { x with
            call := .outstanding, dataTimer := some (s.now + s.timing.stallTimeout * 1000) }) ∧
      (due → 64 ≤ s.queue.length → s.callDue = s.putSend { x with call := .owed }) ∧
      ∀ kind cause, s.typesetterEventOf kind cause =
        .typesetterEvent kind (some (x.page, p.edition, p.number)) cause x.expected
          x.blocksBegun) ∧
    (y.block = none → s.tsout = [0x00]) ∧ (∀ b, y.block = some b → s.tsout = b.bytes) ∧
    ( let sum := fun bs : List Byte =>
        let n := (bs.map BitVec.toNat).sum % 65536
        [byte (n / 256), byte n]
      (∀ p q data last,
        let inside := [byte p, byte q, byte data.length] ++ data
        (Block.galley p q data last).bytes = [0xA5] ++ inside ++ sum inside) ∧
      (∀ c : Cancel,
        let inside := [c.page.elim 0xFF byte, byte c.sequence, 0xC0]
        (Block.cancel c).bytes = [0xA5] ++ inside ++ sum inside)) ∧
    (∀ e, let x := s.edition e
      let tested :=
        if (x.state = .running ∨ x.state = .closed) ∧ x.completeReported = false ∧
            ∀ slot ∈ x.slots, slot.code = .sent then
          (s.putEdition e { x with completeReported := true }).offer
            (.editionReport e .complete x.planned x.size x.allowance x.counter x.slots)
        else s
      s.afterSend e =
        (if (tested.edition e).sealPending = true then tested.seal e
        else tested.sealTest e).evaluateJoins)
end

