-- ==== Sys2Proof/Laws/Table.lean ====
section
/-! SUPPORT. The laws of tables: a read after a write gives the value written, a write leaves every other
number alone, and every operation keeps the canonical form. -/

namespace Sys2Proof.Machine

variable {α : Type}

@[simp] theorem Table.get_nil (d : α) (k : Nat) : Table.get d [] k = d := rfl

theorem Table.get_insert (d : α) (tab : Table α) (k j : Nat) (v : α) :
    Table.get d (Table.insert k v tab) j = if j = k then v else Table.get d tab j := by
  induction tab with
  | nil => simp [Table.insert, Table.get]
  | cons e rest ih =>
    obtain ⟨i, w⟩ := e
    simp only [Table.insert]
    by_cases h : k = i
    · subst h
      by_cases hj : j = k <;> simp [Table.get, hj]
    · by_cases hl : k < i
      · simp [h, hl, Table.get]
      · simp only [h, hl, if_false, Table.get, ih]
        by_cases hj : j = i
        · subst hj; simp [Ne.symm h]
        · simp [hj]

theorem Table.get_filter_ne (d : α) (tab : Table α) (k j : Nat) :
    Table.get d (tab.filter (fun e => !(e.1 == k))) j = if j = k then d else Table.get d tab j := by
  induction tab with
  | nil => simp [Table.get]
  | cons e rest ih =>
    obtain ⟨i, w⟩ := e
    by_cases h : i = k
    · subst h
      by_cases hj : j = i
      · subst hj; simpa using ih
      · simp [ih, hj, Table.get]
    · by_cases hj : j = i
      · subst hj; simp [h, Table.get]
      · simp [h, hj, Table.get, ih]

/-- A read after a write: the value written at its number, and the old value everywhere else. -/
theorem Table.get_put [DecidableEq α] (d : α) (tab : Table α) (k j : Nat) (v : α) :
    Table.get d (Table.put d tab k v) j = if j = k then v else Table.get d tab j := by
  unfold Table.put
  by_cases h : v = d
  · simp only [h, if_true, Table.get_filter_ne]
  · simp only [h, if_false, Table.get_insert]

@[simp] theorem Table.get_put_self [DecidableEq α] (d : α) (tab : Table α) (k : Nat) (v : α) :
    Table.get d (Table.put d tab k v) k = v := by simp [Table.get_put]

theorem Table.get_put_of_ne [DecidableEq α] (d : α) (tab : Table α) {k j : Nat} (v : α)
    (h : j ≠ k) : Table.get d (Table.put d tab k v) j = Table.get d tab j := by
  simp [Table.get_put, h]

/-! ### The canonical form -/

theorem Table.wf_cons [DecidableEq α] (d : α) (k : Nat) (v : α) (rest : Table α) :
    Table.wf d ((k, v) :: rest) = true ↔
      v ≠ d ∧ (∀ e ∈ rest, k < e.1) ∧ Table.wf d rest = true := by
  simp [Table.wf, and_assoc]

theorem Table.mem_insert (k : Nat) (v : α) (tab : Table α) (e : Nat × α)
    (h : e ∈ Table.insert k v tab) : e = (k, v) ∨ e ∈ tab := by
  induction tab with
  | nil => simpa [Table.insert] using h
  | cons f rest ih =>
    obtain ⟨i, w⟩ := f
    simp only [Table.insert] at h
    split at h
    · rcases List.mem_cons.1 h with h | h
      · exact .inl h
      · exact .inr (List.mem_cons_of_mem _ h)
    · split at h
      · rcases List.mem_cons.1 h with h | h
        · exact .inl h
        · exact .inr h
      · rcases List.mem_cons.1 h with h | h
        · exact .inr (h ▸ List.mem_cons_self)
        · exact (ih h).imp_right (List.mem_cons_of_mem _)

theorem Table.wf_insert [DecidableEq α] (d : α) (k : Nat) (v : α) (hv : v ≠ d) (tab : Table α)
    (h : Table.wf d tab = true) : Table.wf d (Table.insert k v tab) = true := by
  induction tab with
  | nil => simp [Table.insert, Table.wf, hv]
  | cons e rest ih =>
    obtain ⟨i, w⟩ := e
    obtain ⟨hw, hlt, hrest⟩ := (Table.wf_cons d i w rest).1 h
    simp only [Table.insert]
    split
    · subst_vars; exact (Table.wf_cons d _ v rest).2 ⟨hv, hlt, hrest⟩
    · split
      · rename_i hki
        refine (Table.wf_cons d k v _).2 ⟨hv, fun e he => ?_, h⟩
        rcases List.mem_cons.1 he with rfl | he
        · exact hki
        · exact Nat.lt_trans hki (hlt e he)
      · rename_i hne hnlt
        refine (Table.wf_cons d i w _).2 ⟨hw, fun e he => ?_, ih hrest⟩
        rcases Table.mem_insert k v rest e he with rfl | he
        · exact by omega
        · exact hlt e he

theorem Table.wf_filter [DecidableEq α] (d : α) (p : Nat × α → Bool) (tab : Table α)
    (h : Table.wf d tab = true) : Table.wf d (tab.filter p) = true := by
  induction tab with
  | nil => rfl
  | cons e rest ih =>
    obtain ⟨i, w⟩ := e
    obtain ⟨hw, hlt, hrest⟩ := (Table.wf_cons d i w rest).1 h
    simp only [List.filter_cons]
    split
    · exact (Table.wf_cons d i w _).2 ⟨hw, fun e he => hlt e (List.mem_of_mem_filter he), ih hrest⟩
    · exact ih hrest

/-- A write keeps the canonical form. -/
theorem Table.wf_put [DecidableEq α] (d : α) (tab : Table α) (k : Nat) (v : α)
    (h : Table.wf d tab = true) : Table.wf d (Table.put d tab k v) = true := by
  unfold Table.put
  split
  · exact Table.wf_filter d _ tab h
  · exact Table.wf_insert d k v ‹_› tab h

/-- A rewriting of several numbers keeps the canonical form. -/
theorem Table.wf_update [DecidableEq α] (d : α) (f : α → α) (ks : List Nat) (tab : Table α)
    (h : Table.wf d tab = true) : Table.wf d (Table.update d f ks tab) = true := by
  unfold Table.update
  induction ks generalizing tab with
  | nil => exact h
  | cons k rest ih => exact ih _ (Table.wf_put d tab k _ h)

/-- A number that a table does not list has the reset value. -/
theorem Table.get_of_not_mem (d : α) (tab : Table α) (k : Nat) (h : k ∉ Table.keys tab) :
    Table.get d tab k = d := by
  induction tab with
  | nil => rfl
  | cons e rest ih =>
    obtain ⟨i, w⟩ := e
    simp only [Table.keys, List.map_cons, List.mem_cons, not_or] at h
    simp only [Table.get, h.1, if_false]
    exact ih h.2

/-- A rewriting by a function that keeps the reset value and is its own second application: every number
of the list is rewritten, and no other (the numbers of a canonical table have no repeats). -/
theorem Table.get_update [DecidableEq α] (d : α) (f : α → α) (hidem : ∀ x, f (f x) = f x)
    (ks : List Nat) (tab : Table α) (j : Nat) :
    Table.get d (Table.update d f ks tab) j =
      if j ∈ ks then f (Table.get d tab j) else Table.get d tab j := by
  unfold Table.update
  induction ks generalizing tab with
  | nil => simp
  | cons k rest ih =>
    simp only [List.foldl_cons, ih, Table.get_put, List.mem_cons]
    by_cases hk : j = k
    · subst hk; by_cases hr : j ∈ rest <;> simp [hr, hidem]
    · by_cases hr : j ∈ rest <;> simp [hr, hk]

/-- A rewriting of every listed number by a function that keeps the reset value is a rewriting of every
number. -/
theorem Table.get_update_keys [DecidableEq α] (d : α) (f : α → α) (hidem : ∀ x, f (f x) = f x)
    (hd : f d = d) (tab : Table α) (j : Nat) :
    Table.get d (Table.update d f (Table.keys tab) tab) j = f (Table.get d tab j) := by
  rw [Table.get_update d f hidem]
  split
  · rfl
  · rw [Table.get_of_not_mem d tab j ‹_›, hd]

end Sys2Proof.Machine
end

