-- ==== Sys2Proof/Laws/State.lean ====
section
/-! SUPPORT. One lemma for each field after each update of the state, so that no proof unfolds a record
update. -/

namespace Sys2Proof.Machine

variable (s : State)

/-! ### putStory -/

@[simp] theorem State.putStory_pending (n : Nat) (o : Option Story) :
    (s.putStory n o).pending = s.pending := rfl

@[simp] theorem State.putStory_now (n : Nat) (o : Option Story) :
    (s.putStory n o).now = s.now := rfl

@[simp] theorem State.putStory_skrx (n : Nat) (o : Option Story) :
    (s.putStory n o).skrx = s.skrx := rfl

@[simp] theorem State.putStory_lnrx (n : Nat) (o : Option Story) :
    (s.putStory n o).lnrx = s.lnrx := rfl

@[simp] theorem State.putStory_tsrdy (n : Nat) (o : Option Story) :
    (s.putStory n o).tsrdy = s.tsrdy := rfl

@[simp] theorem State.putStory_framer (n : Nat) (o : Option Story) :
    (s.putStory n o).framer = s.framer := rfl

@[simp] theorem State.putStory_part (n : Nat) (o : Option Story) :
    (s.putStory n o).part = s.part := rfl

@[simp] theorem State.putStory_storeLost (n : Nat) (o : Option Story) :
    (s.putStory n o).storeLost = s.storeLost := rfl

@[simp] theorem State.putStory_cause (n : Nat) (o : Option Story) :
    (s.putStory n o).cause = s.cause := rfl

@[simp] theorem State.putStory_unacknowledged (n : Nat) (o : Option Story) :
    (s.putStory n o).unacknowledged = s.unacknowledged := rfl

@[simp] theorem State.putStory_reportsDropped (n : Nat) (o : Option Story) :
    (s.putStory n o).reportsDropped = s.reportsDropped := rfl

@[simp] theorem State.putStory_queue (n : Nat) (o : Option Story) :
    (s.putStory n o).queue = s.queue := rfl

@[simp] theorem State.putStory_sending (n : Nat) (o : Option Story) :
    (s.putStory n o).sending = s.sending := rfl

@[simp] theorem State.putStory_restartPending (n : Nat) (o : Option Story) :
    (s.putStory n o).restartPending = s.restartPending := rfl

@[simp] theorem State.putStory_silenceTimer (n : Nat) (o : Option Story) :
    (s.putStory n o).silenceTimer = s.silenceTimer := rfl

@[simp] theorem State.putStory_reporting (n : Nat) (o : Option Story) :
    (s.putStory n o).reporting = s.reporting := rfl

@[simp] theorem State.putStory_streamPeriod (n : Nat) (o : Option Story) :
    (s.putStory n o).streamPeriod = s.streamPeriod := rfl

@[simp] theorem State.putStory_countdown (n : Nat) (o : Option Story) :
    (s.putStory n o).countdown = s.countdown := rfl

@[simp] theorem State.putStory_timing (n : Nat) (o : Option Story) :
    (s.putStory n o).timing = s.timing := rfl

@[simp] theorem State.putStory_stories (n : Nat) (o : Option Story) :
    (s.putStory n o).stories = Table.put none s.stories n o := rfl

@[simp] theorem State.putStory_desks (n : Nat) (o : Option Story) :
    (s.putStory n o).desks = s.desks := rfl

@[simp] theorem State.putStory_baskets (n : Nat) (o : Option Story) :
    (s.putStory n o).baskets = s.baskets := rfl

@[simp] theorem State.putStory_routes (n : Nat) (o : Option Story) :
    (s.putStory n o).routes = s.routes := rfl

@[simp] theorem State.putStory_diversions (n : Nat) (o : Option Story) :
    (s.putStory n o).diversions = s.diversions := rfl

@[simp] theorem State.putStory_pressures (n : Nat) (o : Option Story) :
    (s.putStory n o).pressures = s.pressures := rfl

@[simp] theorem State.putStory_sampleTimer (n : Nat) (o : Option Story) :
    (s.putStory n o).sampleTimer = s.sampleTimer := rfl

@[simp] theorem State.putStory_lines (n : Nat) (o : Option Story) :
    (s.putStory n o).lines = s.lines := rfl

@[simp] theorem State.putStory_terminals (n : Nat) (o : Option Story) :
    (s.putStory n o).terminals = s.terminals := rfl

@[simp] theorem State.putStory_freeBlocks (n : Nat) (o : Option Story) :
    (s.putStory n o).freeBlocks = s.freeBlocks := rfl

@[simp] theorem State.putStory_editions (n : Nat) (o : Option Story) :
    (s.putStory n o).editions = s.editions := rfl

@[simp] theorem State.putStory_pages (n : Nat) (o : Option Story) :
    (s.putStory n o).pages = s.pages := rfl

@[simp] theorem State.putStory_typesetter (n : Nat) (o : Option Story) :
    (s.putStory n o).typesetter = s.typesetter := rfl

/-! ### putDesk -/

@[simp] theorem State.putDesk_pending (d : Nat) (e : Desk) :
    (s.putDesk d e).pending = s.pending := rfl

@[simp] theorem State.putDesk_now (d : Nat) (e : Desk) :
    (s.putDesk d e).now = s.now := rfl

@[simp] theorem State.putDesk_skrx (d : Nat) (e : Desk) :
    (s.putDesk d e).skrx = s.skrx := rfl

@[simp] theorem State.putDesk_lnrx (d : Nat) (e : Desk) :
    (s.putDesk d e).lnrx = s.lnrx := rfl

@[simp] theorem State.putDesk_tsrdy (d : Nat) (e : Desk) :
    (s.putDesk d e).tsrdy = s.tsrdy := rfl

@[simp] theorem State.putDesk_framer (d : Nat) (e : Desk) :
    (s.putDesk d e).framer = s.framer := rfl

@[simp] theorem State.putDesk_part (d : Nat) (e : Desk) :
    (s.putDesk d e).part = s.part := rfl

@[simp] theorem State.putDesk_storeLost (d : Nat) (e : Desk) :
    (s.putDesk d e).storeLost = s.storeLost := rfl

@[simp] theorem State.putDesk_cause (d : Nat) (e : Desk) :
    (s.putDesk d e).cause = s.cause := rfl

@[simp] theorem State.putDesk_unacknowledged (d : Nat) (e : Desk) :
    (s.putDesk d e).unacknowledged = s.unacknowledged := rfl

@[simp] theorem State.putDesk_reportsDropped (d : Nat) (e : Desk) :
    (s.putDesk d e).reportsDropped = s.reportsDropped := rfl

@[simp] theorem State.putDesk_queue (d : Nat) (e : Desk) :
    (s.putDesk d e).queue = s.queue := rfl

@[simp] theorem State.putDesk_sending (d : Nat) (e : Desk) :
    (s.putDesk d e).sending = s.sending := rfl

@[simp] theorem State.putDesk_restartPending (d : Nat) (e : Desk) :
    (s.putDesk d e).restartPending = s.restartPending := rfl

@[simp] theorem State.putDesk_silenceTimer (d : Nat) (e : Desk) :
    (s.putDesk d e).silenceTimer = s.silenceTimer := rfl

@[simp] theorem State.putDesk_reporting (d : Nat) (e : Desk) :
    (s.putDesk d e).reporting = s.reporting := rfl

@[simp] theorem State.putDesk_streamPeriod (d : Nat) (e : Desk) :
    (s.putDesk d e).streamPeriod = s.streamPeriod := rfl

@[simp] theorem State.putDesk_countdown (d : Nat) (e : Desk) :
    (s.putDesk d e).countdown = s.countdown := rfl

@[simp] theorem State.putDesk_timing (d : Nat) (e : Desk) :
    (s.putDesk d e).timing = s.timing := rfl

@[simp] theorem State.putDesk_stories (d : Nat) (e : Desk) :
    (s.putDesk d e).stories = s.stories := rfl

@[simp] theorem State.putDesk_desks (d : Nat) (e : Desk) :
    (s.putDesk d e).desks = Table.put Desk.initial s.desks d e := rfl

@[simp] theorem State.putDesk_baskets (d : Nat) (e : Desk) :
    (s.putDesk d e).baskets = s.baskets := rfl

@[simp] theorem State.putDesk_routes (d : Nat) (e : Desk) :
    (s.putDesk d e).routes = s.routes := rfl

@[simp] theorem State.putDesk_diversions (d : Nat) (e : Desk) :
    (s.putDesk d e).diversions = s.diversions := rfl

@[simp] theorem State.putDesk_pressures (d : Nat) (e : Desk) :
    (s.putDesk d e).pressures = s.pressures := rfl

@[simp] theorem State.putDesk_sampleTimer (d : Nat) (e : Desk) :
    (s.putDesk d e).sampleTimer = s.sampleTimer := rfl

@[simp] theorem State.putDesk_lines (d : Nat) (e : Desk) :
    (s.putDesk d e).lines = s.lines := rfl

@[simp] theorem State.putDesk_terminals (d : Nat) (e : Desk) :
    (s.putDesk d e).terminals = s.terminals := rfl

@[simp] theorem State.putDesk_freeBlocks (d : Nat) (e : Desk) :
    (s.putDesk d e).freeBlocks = s.freeBlocks := rfl

@[simp] theorem State.putDesk_editions (d : Nat) (e : Desk) :
    (s.putDesk d e).editions = s.editions := rfl

@[simp] theorem State.putDesk_pages (d : Nat) (e : Desk) :
    (s.putDesk d e).pages = s.pages := rfl

@[simp] theorem State.putDesk_typesetter (d : Nat) (e : Desk) :
    (s.putDesk d e).typesetter = s.typesetter := rfl

/-! ### putBasket -/

@[simp] theorem State.putBasket_pending (d : Nat) (b : Basket) :
    (s.putBasket d b).pending = s.pending := rfl

@[simp] theorem State.putBasket_now (d : Nat) (b : Basket) :
    (s.putBasket d b).now = s.now := rfl

@[simp] theorem State.putBasket_skrx (d : Nat) (b : Basket) :
    (s.putBasket d b).skrx = s.skrx := rfl

@[simp] theorem State.putBasket_lnrx (d : Nat) (b : Basket) :
    (s.putBasket d b).lnrx = s.lnrx := rfl

@[simp] theorem State.putBasket_tsrdy (d : Nat) (b : Basket) :
    (s.putBasket d b).tsrdy = s.tsrdy := rfl

@[simp] theorem State.putBasket_framer (d : Nat) (b : Basket) :
    (s.putBasket d b).framer = s.framer := rfl

@[simp] theorem State.putBasket_part (d : Nat) (b : Basket) :
    (s.putBasket d b).part = s.part := rfl

@[simp] theorem State.putBasket_storeLost (d : Nat) (b : Basket) :
    (s.putBasket d b).storeLost = s.storeLost := rfl

@[simp] theorem State.putBasket_cause (d : Nat) (b : Basket) :
    (s.putBasket d b).cause = s.cause := rfl

@[simp] theorem State.putBasket_unacknowledged (d : Nat) (b : Basket) :
    (s.putBasket d b).unacknowledged = s.unacknowledged := rfl

@[simp] theorem State.putBasket_reportsDropped (d : Nat) (b : Basket) :
    (s.putBasket d b).reportsDropped = s.reportsDropped := rfl

@[simp] theorem State.putBasket_queue (d : Nat) (b : Basket) :
    (s.putBasket d b).queue = s.queue := rfl

@[simp] theorem State.putBasket_sending (d : Nat) (b : Basket) :
    (s.putBasket d b).sending = s.sending := rfl

@[simp] theorem State.putBasket_restartPending (d : Nat) (b : Basket) :
    (s.putBasket d b).restartPending = s.restartPending := rfl

@[simp] theorem State.putBasket_silenceTimer (d : Nat) (b : Basket) :
    (s.putBasket d b).silenceTimer = s.silenceTimer := rfl

@[simp] theorem State.putBasket_reporting (d : Nat) (b : Basket) :
    (s.putBasket d b).reporting = s.reporting := rfl

@[simp] theorem State.putBasket_streamPeriod (d : Nat) (b : Basket) :
    (s.putBasket d b).streamPeriod = s.streamPeriod := rfl

@[simp] theorem State.putBasket_countdown (d : Nat) (b : Basket) :
    (s.putBasket d b).countdown = s.countdown := rfl

@[simp] theorem State.putBasket_timing (d : Nat) (b : Basket) :
    (s.putBasket d b).timing = s.timing := rfl

@[simp] theorem State.putBasket_stories (d : Nat) (b : Basket) :
    (s.putBasket d b).stories = s.stories := rfl

@[simp] theorem State.putBasket_desks (d : Nat) (b : Basket) :
    (s.putBasket d b).desks = s.desks := rfl

@[simp] theorem State.putBasket_baskets (d : Nat) (b : Basket) :
    (s.putBasket d b).baskets = Table.put Basket.initial s.baskets d b := rfl

@[simp] theorem State.putBasket_routes (d : Nat) (b : Basket) :
    (s.putBasket d b).routes = s.routes := rfl

@[simp] theorem State.putBasket_diversions (d : Nat) (b : Basket) :
    (s.putBasket d b).diversions = s.diversions := rfl

@[simp] theorem State.putBasket_pressures (d : Nat) (b : Basket) :
    (s.putBasket d b).pressures = s.pressures := rfl

@[simp] theorem State.putBasket_sampleTimer (d : Nat) (b : Basket) :
    (s.putBasket d b).sampleTimer = s.sampleTimer := rfl

@[simp] theorem State.putBasket_lines (d : Nat) (b : Basket) :
    (s.putBasket d b).lines = s.lines := rfl

@[simp] theorem State.putBasket_terminals (d : Nat) (b : Basket) :
    (s.putBasket d b).terminals = s.terminals := rfl

@[simp] theorem State.putBasket_freeBlocks (d : Nat) (b : Basket) :
    (s.putBasket d b).freeBlocks = s.freeBlocks := rfl

@[simp] theorem State.putBasket_editions (d : Nat) (b : Basket) :
    (s.putBasket d b).editions = s.editions := rfl

@[simp] theorem State.putBasket_pages (d : Nat) (b : Basket) :
    (s.putBasket d b).pages = s.pages := rfl

@[simp] theorem State.putBasket_typesetter (d : Nat) (b : Basket) :
    (s.putBasket d b).typesetter = s.typesetter := rfl

/-! ### putPressure -/

@[simp] theorem State.putPressure_pending (d : Nat) (p : Pressure) :
    (s.putPressure d p).pending = s.pending := rfl

@[simp] theorem State.putPressure_now (d : Nat) (p : Pressure) :
    (s.putPressure d p).now = s.now := rfl

@[simp] theorem State.putPressure_skrx (d : Nat) (p : Pressure) :
    (s.putPressure d p).skrx = s.skrx := rfl

@[simp] theorem State.putPressure_lnrx (d : Nat) (p : Pressure) :
    (s.putPressure d p).lnrx = s.lnrx := rfl

@[simp] theorem State.putPressure_tsrdy (d : Nat) (p : Pressure) :
    (s.putPressure d p).tsrdy = s.tsrdy := rfl

@[simp] theorem State.putPressure_framer (d : Nat) (p : Pressure) :
    (s.putPressure d p).framer = s.framer := rfl

@[simp] theorem State.putPressure_part (d : Nat) (p : Pressure) :
    (s.putPressure d p).part = s.part := rfl

@[simp] theorem State.putPressure_storeLost (d : Nat) (p : Pressure) :
    (s.putPressure d p).storeLost = s.storeLost := rfl

@[simp] theorem State.putPressure_cause (d : Nat) (p : Pressure) :
    (s.putPressure d p).cause = s.cause := rfl

@[simp] theorem State.putPressure_unacknowledged (d : Nat) (p : Pressure) :
    (s.putPressure d p).unacknowledged = s.unacknowledged := rfl

@[simp] theorem State.putPressure_reportsDropped (d : Nat) (p : Pressure) :
    (s.putPressure d p).reportsDropped = s.reportsDropped := rfl

@[simp] theorem State.putPressure_queue (d : Nat) (p : Pressure) :
    (s.putPressure d p).queue = s.queue := rfl

@[simp] theorem State.putPressure_sending (d : Nat) (p : Pressure) :
    (s.putPressure d p).sending = s.sending := rfl

@[simp] theorem State.putPressure_restartPending (d : Nat) (p : Pressure) :
    (s.putPressure d p).restartPending = s.restartPending := rfl

@[simp] theorem State.putPressure_silenceTimer (d : Nat) (p : Pressure) :
    (s.putPressure d p).silenceTimer = s.silenceTimer := rfl

@[simp] theorem State.putPressure_reporting (d : Nat) (p : Pressure) :
    (s.putPressure d p).reporting = s.reporting := rfl

@[simp] theorem State.putPressure_streamPeriod (d : Nat) (p : Pressure) :
    (s.putPressure d p).streamPeriod = s.streamPeriod := rfl

@[simp] theorem State.putPressure_countdown (d : Nat) (p : Pressure) :
    (s.putPressure d p).countdown = s.countdown := rfl

@[simp] theorem State.putPressure_timing (d : Nat) (p : Pressure) :
    (s.putPressure d p).timing = s.timing := rfl

@[simp] theorem State.putPressure_stories (d : Nat) (p : Pressure) :
    (s.putPressure d p).stories = s.stories := rfl

@[simp] theorem State.putPressure_desks (d : Nat) (p : Pressure) :
    (s.putPressure d p).desks = s.desks := rfl

@[simp] theorem State.putPressure_baskets (d : Nat) (p : Pressure) :
    (s.putPressure d p).baskets = s.baskets := rfl

@[simp] theorem State.putPressure_routes (d : Nat) (p : Pressure) :
    (s.putPressure d p).routes = s.routes := rfl

@[simp] theorem State.putPressure_diversions (d : Nat) (p : Pressure) :
    (s.putPressure d p).diversions = s.diversions := rfl

@[simp] theorem State.putPressure_pressures (d : Nat) (p : Pressure) :
    (s.putPressure d p).pressures = Table.put Pressure.initial s.pressures d p := rfl

@[simp] theorem State.putPressure_sampleTimer (d : Nat) (p : Pressure) :
    (s.putPressure d p).sampleTimer = s.sampleTimer := rfl

@[simp] theorem State.putPressure_lines (d : Nat) (p : Pressure) :
    (s.putPressure d p).lines = s.lines := rfl

@[simp] theorem State.putPressure_terminals (d : Nat) (p : Pressure) :
    (s.putPressure d p).terminals = s.terminals := rfl

@[simp] theorem State.putPressure_freeBlocks (d : Nat) (p : Pressure) :
    (s.putPressure d p).freeBlocks = s.freeBlocks := rfl

@[simp] theorem State.putPressure_editions (d : Nat) (p : Pressure) :
    (s.putPressure d p).editions = s.editions := rfl

@[simp] theorem State.putPressure_pages (d : Nat) (p : Pressure) :
    (s.putPressure d p).pages = s.pages := rfl

@[simp] theorem State.putPressure_typesetter (d : Nat) (p : Pressure) :
    (s.putPressure d p).typesetter = s.typesetter := rfl

/-! ### putTerminal -/

@[simp] theorem State.putTerminal_pending (t : Nat) (r : Terminal) :
    (s.putTerminal t r).pending = s.pending := rfl

@[simp] theorem State.putTerminal_now (t : Nat) (r : Terminal) :
    (s.putTerminal t r).now = s.now := rfl

@[simp] theorem State.putTerminal_skrx (t : Nat) (r : Terminal) :
    (s.putTerminal t r).skrx = s.skrx := rfl

@[simp] theorem State.putTerminal_lnrx (t : Nat) (r : Terminal) :
    (s.putTerminal t r).lnrx = s.lnrx := rfl

@[simp] theorem State.putTerminal_tsrdy (t : Nat) (r : Terminal) :
    (s.putTerminal t r).tsrdy = s.tsrdy := rfl

@[simp] theorem State.putTerminal_framer (t : Nat) (r : Terminal) :
    (s.putTerminal t r).framer = s.framer := rfl

@[simp] theorem State.putTerminal_part (t : Nat) (r : Terminal) :
    (s.putTerminal t r).part = s.part := rfl

@[simp] theorem State.putTerminal_storeLost (t : Nat) (r : Terminal) :
    (s.putTerminal t r).storeLost = s.storeLost := rfl

@[simp] theorem State.putTerminal_cause (t : Nat) (r : Terminal) :
    (s.putTerminal t r).cause = s.cause := rfl

@[simp] theorem State.putTerminal_unacknowledged (t : Nat) (r : Terminal) :
    (s.putTerminal t r).unacknowledged = s.unacknowledged := rfl

@[simp] theorem State.putTerminal_reportsDropped (t : Nat) (r : Terminal) :
    (s.putTerminal t r).reportsDropped = s.reportsDropped := rfl

@[simp] theorem State.putTerminal_queue (t : Nat) (r : Terminal) :
    (s.putTerminal t r).queue = s.queue := rfl

@[simp] theorem State.putTerminal_sending (t : Nat) (r : Terminal) :
    (s.putTerminal t r).sending = s.sending := rfl

@[simp] theorem State.putTerminal_restartPending (t : Nat) (r : Terminal) :
    (s.putTerminal t r).restartPending = s.restartPending := rfl

@[simp] theorem State.putTerminal_silenceTimer (t : Nat) (r : Terminal) :
    (s.putTerminal t r).silenceTimer = s.silenceTimer := rfl

@[simp] theorem State.putTerminal_reporting (t : Nat) (r : Terminal) :
    (s.putTerminal t r).reporting = s.reporting := rfl

@[simp] theorem State.putTerminal_streamPeriod (t : Nat) (r : Terminal) :
    (s.putTerminal t r).streamPeriod = s.streamPeriod := rfl

@[simp] theorem State.putTerminal_countdown (t : Nat) (r : Terminal) :
    (s.putTerminal t r).countdown = s.countdown := rfl

@[simp] theorem State.putTerminal_timing (t : Nat) (r : Terminal) :
    (s.putTerminal t r).timing = s.timing := rfl

@[simp] theorem State.putTerminal_stories (t : Nat) (r : Terminal) :
    (s.putTerminal t r).stories = s.stories := rfl

@[simp] theorem State.putTerminal_desks (t : Nat) (r : Terminal) :
    (s.putTerminal t r).desks = s.desks := rfl

@[simp] theorem State.putTerminal_baskets (t : Nat) (r : Terminal) :
    (s.putTerminal t r).baskets = s.baskets := rfl

@[simp] theorem State.putTerminal_routes (t : Nat) (r : Terminal) :
    (s.putTerminal t r).routes = s.routes := rfl

@[simp] theorem State.putTerminal_diversions (t : Nat) (r : Terminal) :
    (s.putTerminal t r).diversions = s.diversions := rfl

@[simp] theorem State.putTerminal_pressures (t : Nat) (r : Terminal) :
    (s.putTerminal t r).pressures = s.pressures := rfl

@[simp] theorem State.putTerminal_sampleTimer (t : Nat) (r : Terminal) :
    (s.putTerminal t r).sampleTimer = s.sampleTimer := rfl

@[simp] theorem State.putTerminal_lines (t : Nat) (r : Terminal) :
    (s.putTerminal t r).lines = s.lines := rfl

@[simp] theorem State.putTerminal_terminals (t : Nat) (r : Terminal) :
    (s.putTerminal t r).terminals = Table.put Terminal.initial s.terminals t r := rfl

@[simp] theorem State.putTerminal_freeBlocks (t : Nat) (r : Terminal) :
    (s.putTerminal t r).freeBlocks = s.freeBlocks := rfl

@[simp] theorem State.putTerminal_editions (t : Nat) (r : Terminal) :
    (s.putTerminal t r).editions = s.editions := rfl

@[simp] theorem State.putTerminal_pages (t : Nat) (r : Terminal) :
    (s.putTerminal t r).pages = s.pages := rfl

@[simp] theorem State.putTerminal_typesetter (t : Nat) (r : Terminal) :
    (s.putTerminal t r).typesetter = s.typesetter := rfl

/-! ### putEdition -/

@[simp] theorem State.putEdition_pending (e : Nat) (x : Edition) :
    (s.putEdition e x).pending = s.pending := rfl

@[simp] theorem State.putEdition_now (e : Nat) (x : Edition) :
    (s.putEdition e x).now = s.now := rfl

@[simp] theorem State.putEdition_skrx (e : Nat) (x : Edition) :
    (s.putEdition e x).skrx = s.skrx := rfl

@[simp] theorem State.putEdition_lnrx (e : Nat) (x : Edition) :
    (s.putEdition e x).lnrx = s.lnrx := rfl

@[simp] theorem State.putEdition_tsrdy (e : Nat) (x : Edition) :
    (s.putEdition e x).tsrdy = s.tsrdy := rfl

@[simp] theorem State.putEdition_framer (e : Nat) (x : Edition) :
    (s.putEdition e x).framer = s.framer := rfl

@[simp] theorem State.putEdition_part (e : Nat) (x : Edition) :
    (s.putEdition e x).part = s.part := rfl

@[simp] theorem State.putEdition_storeLost (e : Nat) (x : Edition) :
    (s.putEdition e x).storeLost = s.storeLost := rfl

@[simp] theorem State.putEdition_cause (e : Nat) (x : Edition) :
    (s.putEdition e x).cause = s.cause := rfl

@[simp] theorem State.putEdition_unacknowledged (e : Nat) (x : Edition) :
    (s.putEdition e x).unacknowledged = s.unacknowledged := rfl

@[simp] theorem State.putEdition_reportsDropped (e : Nat) (x : Edition) :
    (s.putEdition e x).reportsDropped = s.reportsDropped := rfl

@[simp] theorem State.putEdition_queue (e : Nat) (x : Edition) :
    (s.putEdition e x).queue = s.queue := rfl

@[simp] theorem State.putEdition_sending (e : Nat) (x : Edition) :
    (s.putEdition e x).sending = s.sending := rfl

@[simp] theorem State.putEdition_restartPending (e : Nat) (x : Edition) :
    (s.putEdition e x).restartPending = s.restartPending := rfl

@[simp] theorem State.putEdition_silenceTimer (e : Nat) (x : Edition) :
    (s.putEdition e x).silenceTimer = s.silenceTimer := rfl

@[simp] theorem State.putEdition_reporting (e : Nat) (x : Edition) :
    (s.putEdition e x).reporting = s.reporting := rfl

@[simp] theorem State.putEdition_streamPeriod (e : Nat) (x : Edition) :
    (s.putEdition e x).streamPeriod = s.streamPeriod := rfl

@[simp] theorem State.putEdition_countdown (e : Nat) (x : Edition) :
    (s.putEdition e x).countdown = s.countdown := rfl

@[simp] theorem State.putEdition_timing (e : Nat) (x : Edition) :
    (s.putEdition e x).timing = s.timing := rfl

@[simp] theorem State.putEdition_stories (e : Nat) (x : Edition) :
    (s.putEdition e x).stories = s.stories := rfl

@[simp] theorem State.putEdition_desks (e : Nat) (x : Edition) :
    (s.putEdition e x).desks = s.desks := rfl

@[simp] theorem State.putEdition_baskets (e : Nat) (x : Edition) :
    (s.putEdition e x).baskets = s.baskets := rfl

@[simp] theorem State.putEdition_routes (e : Nat) (x : Edition) :
    (s.putEdition e x).routes = s.routes := rfl

@[simp] theorem State.putEdition_diversions (e : Nat) (x : Edition) :
    (s.putEdition e x).diversions = s.diversions := rfl

@[simp] theorem State.putEdition_pressures (e : Nat) (x : Edition) :
    (s.putEdition e x).pressures = s.pressures := rfl

@[simp] theorem State.putEdition_sampleTimer (e : Nat) (x : Edition) :
    (s.putEdition e x).sampleTimer = s.sampleTimer := rfl

@[simp] theorem State.putEdition_lines (e : Nat) (x : Edition) :
    (s.putEdition e x).lines = s.lines := rfl

@[simp] theorem State.putEdition_terminals (e : Nat) (x : Edition) :
    (s.putEdition e x).terminals = s.terminals := rfl

@[simp] theorem State.putEdition_freeBlocks (e : Nat) (x : Edition) :
    (s.putEdition e x).freeBlocks = s.freeBlocks := rfl

@[simp] theorem State.putEdition_editions (e : Nat) (x : Edition) :
    (s.putEdition e x).editions = Table.put Edition.initial s.editions e x := rfl

@[simp] theorem State.putEdition_pages (e : Nat) (x : Edition) :
    (s.putEdition e x).pages = s.pages := rfl

@[simp] theorem State.putEdition_typesetter (e : Nat) (x : Edition) :
    (s.putEdition e x).typesetter = s.typesetter := rfl

/-! ### putPage -/

@[simp] theorem State.putPage_pending (r : Nat) (o : Option Page) :
    (s.putPage r o).pending = s.pending := rfl

@[simp] theorem State.putPage_now (r : Nat) (o : Option Page) :
    (s.putPage r o).now = s.now := rfl

@[simp] theorem State.putPage_skrx (r : Nat) (o : Option Page) :
    (s.putPage r o).skrx = s.skrx := rfl

@[simp] theorem State.putPage_lnrx (r : Nat) (o : Option Page) :
    (s.putPage r o).lnrx = s.lnrx := rfl

@[simp] theorem State.putPage_tsrdy (r : Nat) (o : Option Page) :
    (s.putPage r o).tsrdy = s.tsrdy := rfl

@[simp] theorem State.putPage_framer (r : Nat) (o : Option Page) :
    (s.putPage r o).framer = s.framer := rfl

@[simp] theorem State.putPage_part (r : Nat) (o : Option Page) :
    (s.putPage r o).part = s.part := rfl

@[simp] theorem State.putPage_storeLost (r : Nat) (o : Option Page) :
    (s.putPage r o).storeLost = s.storeLost := rfl

@[simp] theorem State.putPage_cause (r : Nat) (o : Option Page) :
    (s.putPage r o).cause = s.cause := rfl

@[simp] theorem State.putPage_unacknowledged (r : Nat) (o : Option Page) :
    (s.putPage r o).unacknowledged = s.unacknowledged := rfl

@[simp] theorem State.putPage_reportsDropped (r : Nat) (o : Option Page) :
    (s.putPage r o).reportsDropped = s.reportsDropped := rfl

@[simp] theorem State.putPage_queue (r : Nat) (o : Option Page) :
    (s.putPage r o).queue = s.queue := rfl

@[simp] theorem State.putPage_sending (r : Nat) (o : Option Page) :
    (s.putPage r o).sending = s.sending := rfl

@[simp] theorem State.putPage_restartPending (r : Nat) (o : Option Page) :
    (s.putPage r o).restartPending = s.restartPending := rfl

@[simp] theorem State.putPage_silenceTimer (r : Nat) (o : Option Page) :
    (s.putPage r o).silenceTimer = s.silenceTimer := rfl

@[simp] theorem State.putPage_reporting (r : Nat) (o : Option Page) :
    (s.putPage r o).reporting = s.reporting := rfl

@[simp] theorem State.putPage_streamPeriod (r : Nat) (o : Option Page) :
    (s.putPage r o).streamPeriod = s.streamPeriod := rfl

@[simp] theorem State.putPage_countdown (r : Nat) (o : Option Page) :
    (s.putPage r o).countdown = s.countdown := rfl

@[simp] theorem State.putPage_timing (r : Nat) (o : Option Page) :
    (s.putPage r o).timing = s.timing := rfl

@[simp] theorem State.putPage_stories (r : Nat) (o : Option Page) :
    (s.putPage r o).stories = s.stories := rfl

@[simp] theorem State.putPage_desks (r : Nat) (o : Option Page) :
    (s.putPage r o).desks = s.desks := rfl

@[simp] theorem State.putPage_baskets (r : Nat) (o : Option Page) :
    (s.putPage r o).baskets = s.baskets := rfl

@[simp] theorem State.putPage_routes (r : Nat) (o : Option Page) :
    (s.putPage r o).routes = s.routes := rfl

@[simp] theorem State.putPage_diversions (r : Nat) (o : Option Page) :
    (s.putPage r o).diversions = s.diversions := rfl

@[simp] theorem State.putPage_pressures (r : Nat) (o : Option Page) :
    (s.putPage r o).pressures = s.pressures := rfl

@[simp] theorem State.putPage_sampleTimer (r : Nat) (o : Option Page) :
    (s.putPage r o).sampleTimer = s.sampleTimer := rfl

@[simp] theorem State.putPage_lines (r : Nat) (o : Option Page) :
    (s.putPage r o).lines = s.lines := rfl

@[simp] theorem State.putPage_terminals (r : Nat) (o : Option Page) :
    (s.putPage r o).terminals = s.terminals := rfl

@[simp] theorem State.putPage_freeBlocks (r : Nat) (o : Option Page) :
    (s.putPage r o).freeBlocks = s.freeBlocks := rfl

@[simp] theorem State.putPage_editions (r : Nat) (o : Option Page) :
    (s.putPage r o).editions = s.editions := rfl

@[simp] theorem State.putPage_pages (r : Nat) (o : Option Page) :
    (s.putPage r o).pages = Table.put none s.pages r o := rfl

@[simp] theorem State.putPage_typesetter (r : Nat) (o : Option Page) :
    (s.putPage r o).typesetter = s.typesetter := rfl

/-! ### putTypesetter -/

@[simp] theorem State.putTypesetter_pending (x : Typesetter) :
    (s.putTypesetter x).pending = s.pending := rfl

@[simp] theorem State.putTypesetter_now (x : Typesetter) :
    (s.putTypesetter x).now = s.now := rfl

@[simp] theorem State.putTypesetter_skrx (x : Typesetter) :
    (s.putTypesetter x).skrx = s.skrx := rfl

@[simp] theorem State.putTypesetter_lnrx (x : Typesetter) :
    (s.putTypesetter x).lnrx = s.lnrx := rfl

@[simp] theorem State.putTypesetter_tsrdy (x : Typesetter) :
    (s.putTypesetter x).tsrdy = s.tsrdy := rfl

@[simp] theorem State.putTypesetter_framer (x : Typesetter) :
    (s.putTypesetter x).framer = s.framer := rfl

@[simp] theorem State.putTypesetter_part (x : Typesetter) :
    (s.putTypesetter x).part = s.part := rfl

@[simp] theorem State.putTypesetter_storeLost (x : Typesetter) :
    (s.putTypesetter x).storeLost = s.storeLost := rfl

@[simp] theorem State.putTypesetter_cause (x : Typesetter) :
    (s.putTypesetter x).cause = s.cause := rfl

@[simp] theorem State.putTypesetter_unacknowledged (x : Typesetter) :
    (s.putTypesetter x).unacknowledged = s.unacknowledged := rfl

@[simp] theorem State.putTypesetter_reportsDropped (x : Typesetter) :
    (s.putTypesetter x).reportsDropped = s.reportsDropped := rfl

@[simp] theorem State.putTypesetter_queue (x : Typesetter) :
    (s.putTypesetter x).queue = s.queue := rfl

@[simp] theorem State.putTypesetter_sending (x : Typesetter) :
    (s.putTypesetter x).sending = s.sending := rfl

@[simp] theorem State.putTypesetter_restartPending (x : Typesetter) :
    (s.putTypesetter x).restartPending = s.restartPending := rfl

@[simp] theorem State.putTypesetter_silenceTimer (x : Typesetter) :
    (s.putTypesetter x).silenceTimer = s.silenceTimer := rfl

@[simp] theorem State.putTypesetter_reporting (x : Typesetter) :
    (s.putTypesetter x).reporting = s.reporting := rfl

@[simp] theorem State.putTypesetter_streamPeriod (x : Typesetter) :
    (s.putTypesetter x).streamPeriod = s.streamPeriod := rfl

@[simp] theorem State.putTypesetter_countdown (x : Typesetter) :
    (s.putTypesetter x).countdown = s.countdown := rfl

@[simp] theorem State.putTypesetter_timing (x : Typesetter) :
    (s.putTypesetter x).timing = s.timing := rfl

@[simp] theorem State.putTypesetter_stories (x : Typesetter) :
    (s.putTypesetter x).stories = s.stories := rfl

@[simp] theorem State.putTypesetter_desks (x : Typesetter) :
    (s.putTypesetter x).desks = s.desks := rfl

@[simp] theorem State.putTypesetter_baskets (x : Typesetter) :
    (s.putTypesetter x).baskets = s.baskets := rfl

@[simp] theorem State.putTypesetter_routes (x : Typesetter) :
    (s.putTypesetter x).routes = s.routes := rfl

@[simp] theorem State.putTypesetter_diversions (x : Typesetter) :
    (s.putTypesetter x).diversions = s.diversions := rfl

@[simp] theorem State.putTypesetter_pressures (x : Typesetter) :
    (s.putTypesetter x).pressures = s.pressures := rfl

@[simp] theorem State.putTypesetter_sampleTimer (x : Typesetter) :
    (s.putTypesetter x).sampleTimer = s.sampleTimer := rfl

@[simp] theorem State.putTypesetter_lines (x : Typesetter) :
    (s.putTypesetter x).lines = s.lines := rfl

@[simp] theorem State.putTypesetter_terminals (x : Typesetter) :
    (s.putTypesetter x).terminals = s.terminals := rfl

@[simp] theorem State.putTypesetter_freeBlocks (x : Typesetter) :
    (s.putTypesetter x).freeBlocks = s.freeBlocks := rfl

@[simp] theorem State.putTypesetter_editions (x : Typesetter) :
    (s.putTypesetter x).editions = s.editions := rfl

@[simp] theorem State.putTypesetter_pages (x : Typesetter) :
    (s.putTypesetter x).pages = s.pages := rfl

@[simp] theorem State.putTypesetter_typesetter (x : Typesetter) :
    (s.putTypesetter x).typesetter = x := rfl

/-! ### reach -/

@[simp] theorem State.reach_pending (due : Nat) :
    (s.reach due).pending = s.pending := rfl

@[simp] theorem State.reach_now (due : Nat) :
    (s.reach due).now = Nat.max s.now due := rfl

@[simp] theorem State.reach_skrx (due : Nat) :
    (s.reach due).skrx = s.skrx := rfl

@[simp] theorem State.reach_lnrx (due : Nat) :
    (s.reach due).lnrx = s.lnrx := rfl

@[simp] theorem State.reach_tsrdy (due : Nat) :
    (s.reach due).tsrdy = s.tsrdy := rfl

@[simp] theorem State.reach_framer (due : Nat) :
    (s.reach due).framer = s.framer := rfl

@[simp] theorem State.reach_part (due : Nat) :
    (s.reach due).part = s.part := rfl

@[simp] theorem State.reach_storeLost (due : Nat) :
    (s.reach due).storeLost = s.storeLost := rfl

@[simp] theorem State.reach_cause (due : Nat) :
    (s.reach due).cause = s.cause := rfl

@[simp] theorem State.reach_unacknowledged (due : Nat) :
    (s.reach due).unacknowledged = s.unacknowledged := rfl

@[simp] theorem State.reach_reportsDropped (due : Nat) :
    (s.reach due).reportsDropped = s.reportsDropped := rfl

@[simp] theorem State.reach_queue (due : Nat) :
    (s.reach due).queue = s.queue := rfl

@[simp] theorem State.reach_sending (due : Nat) :
    (s.reach due).sending = s.sending := rfl

@[simp] theorem State.reach_restartPending (due : Nat) :
    (s.reach due).restartPending = s.restartPending := rfl

@[simp] theorem State.reach_silenceTimer (due : Nat) :
    (s.reach due).silenceTimer = s.silenceTimer := rfl

@[simp] theorem State.reach_reporting (due : Nat) :
    (s.reach due).reporting = s.reporting := rfl

@[simp] theorem State.reach_streamPeriod (due : Nat) :
    (s.reach due).streamPeriod = s.streamPeriod := rfl

@[simp] theorem State.reach_countdown (due : Nat) :
    (s.reach due).countdown = s.countdown := rfl

@[simp] theorem State.reach_timing (due : Nat) :
    (s.reach due).timing = s.timing := rfl

@[simp] theorem State.reach_stories (due : Nat) :
    (s.reach due).stories = s.stories := rfl

@[simp] theorem State.reach_desks (due : Nat) :
    (s.reach due).desks = s.desks := rfl

@[simp] theorem State.reach_baskets (due : Nat) :
    (s.reach due).baskets = s.baskets := rfl

@[simp] theorem State.reach_routes (due : Nat) :
    (s.reach due).routes = s.routes := rfl

@[simp] theorem State.reach_diversions (due : Nat) :
    (s.reach due).diversions = s.diversions := rfl

@[simp] theorem State.reach_pressures (due : Nat) :
    (s.reach due).pressures = s.pressures := rfl

@[simp] theorem State.reach_sampleTimer (due : Nat) :
    (s.reach due).sampleTimer = s.sampleTimer := rfl

@[simp] theorem State.reach_lines (due : Nat) :
    (s.reach due).lines = s.lines := rfl

@[simp] theorem State.reach_terminals (due : Nat) :
    (s.reach due).terminals = s.terminals := rfl

@[simp] theorem State.reach_freeBlocks (due : Nat) :
    (s.reach due).freeBlocks = s.freeBlocks := rfl

@[simp] theorem State.reach_editions (due : Nat) :
    (s.reach due).editions = s.editions := rfl

@[simp] theorem State.reach_pages (due : Nat) :
    (s.reach due).pages = s.pages := rfl

@[simp] theorem State.reach_typesetter (due : Nat) :
    (s.reach due).typesetter = s.typesetter := rfl

/-! ### markDropped -/

@[simp] theorem State.markDropped_pending :
    (s.markDropped).pending = s.pending := rfl

@[simp] theorem State.markDropped_now :
    (s.markDropped).now = s.now := rfl

@[simp] theorem State.markDropped_skrx :
    (s.markDropped).skrx = s.skrx := rfl

@[simp] theorem State.markDropped_lnrx :
    (s.markDropped).lnrx = s.lnrx := rfl

@[simp] theorem State.markDropped_tsrdy :
    (s.markDropped).tsrdy = s.tsrdy := rfl

@[simp] theorem State.markDropped_framer :
    (s.markDropped).framer = s.framer := rfl

@[simp] theorem State.markDropped_part :
    (s.markDropped).part = s.part := rfl

@[simp] theorem State.markDropped_storeLost :
    (s.markDropped).storeLost = s.storeLost := rfl

@[simp] theorem State.markDropped_cause :
    (s.markDropped).cause = s.cause := rfl

@[simp] theorem State.markDropped_unacknowledged :
    (s.markDropped).unacknowledged = s.unacknowledged := rfl

@[simp] theorem State.markDropped_reportsDropped :
    (s.markDropped).reportsDropped = true := rfl

@[simp] theorem State.markDropped_queue :
    (s.markDropped).queue = s.queue := rfl

@[simp] theorem State.markDropped_sending :
    (s.markDropped).sending = s.sending := rfl

@[simp] theorem State.markDropped_restartPending :
    (s.markDropped).restartPending = s.restartPending := rfl

@[simp] theorem State.markDropped_silenceTimer :
    (s.markDropped).silenceTimer = s.silenceTimer := rfl

@[simp] theorem State.markDropped_reporting :
    (s.markDropped).reporting = s.reporting := rfl

@[simp] theorem State.markDropped_streamPeriod :
    (s.markDropped).streamPeriod = s.streamPeriod := rfl

@[simp] theorem State.markDropped_countdown :
    (s.markDropped).countdown = s.countdown := rfl

@[simp] theorem State.markDropped_timing :
    (s.markDropped).timing = s.timing := rfl

@[simp] theorem State.markDropped_stories :
    (s.markDropped).stories = s.stories := rfl

@[simp] theorem State.markDropped_desks :
    (s.markDropped).desks = s.desks := rfl

@[simp] theorem State.markDropped_baskets :
    (s.markDropped).baskets = s.baskets := rfl

@[simp] theorem State.markDropped_routes :
    (s.markDropped).routes = s.routes := rfl

@[simp] theorem State.markDropped_diversions :
    (s.markDropped).diversions = s.diversions := rfl

@[simp] theorem State.markDropped_pressures :
    (s.markDropped).pressures = s.pressures := rfl

@[simp] theorem State.markDropped_sampleTimer :
    (s.markDropped).sampleTimer = s.sampleTimer := rfl

@[simp] theorem State.markDropped_lines :
    (s.markDropped).lines = s.lines := rfl

@[simp] theorem State.markDropped_terminals :
    (s.markDropped).terminals = s.terminals := rfl

@[simp] theorem State.markDropped_freeBlocks :
    (s.markDropped).freeBlocks = s.freeBlocks := rfl

@[simp] theorem State.markDropped_editions :
    (s.markDropped).editions = s.editions := rfl

@[simp] theorem State.markDropped_pages :
    (s.markDropped).pages = s.pages := rfl

@[simp] theorem State.markDropped_typesetter :
    (s.markDropped).typesetter = s.typesetter := rfl

/-! ### putLine -/

@[simp] theorem State.putLine_pending (l : LineId) (x : Line) :
    (s.putLine l x).pending = s.pending := by cases l <;> rfl

@[simp] theorem State.putLine_now (l : LineId) (x : Line) :
    (s.putLine l x).now = s.now := by cases l <;> rfl

@[simp] theorem State.putLine_skrx (l : LineId) (x : Line) :
    (s.putLine l x).skrx = s.skrx := by cases l <;> rfl

@[simp] theorem State.putLine_lnrx (l : LineId) (x : Line) :
    (s.putLine l x).lnrx = s.lnrx := by cases l <;> rfl

@[simp] theorem State.putLine_tsrdy (l : LineId) (x : Line) :
    (s.putLine l x).tsrdy = s.tsrdy := by cases l <;> rfl

@[simp] theorem State.putLine_framer (l : LineId) (x : Line) :
    (s.putLine l x).framer = s.framer := by cases l <;> rfl

@[simp] theorem State.putLine_part (l : LineId) (x : Line) :
    (s.putLine l x).part = s.part := by cases l <;> rfl

@[simp] theorem State.putLine_storeLost (l : LineId) (x : Line) :
    (s.putLine l x).storeLost = s.storeLost := by cases l <;> rfl

@[simp] theorem State.putLine_cause (l : LineId) (x : Line) :
    (s.putLine l x).cause = s.cause := by cases l <;> rfl

@[simp] theorem State.putLine_unacknowledged (l : LineId) (x : Line) :
    (s.putLine l x).unacknowledged = s.unacknowledged := by cases l <;> rfl

@[simp] theorem State.putLine_reportsDropped (l : LineId) (x : Line) :
    (s.putLine l x).reportsDropped = s.reportsDropped := by cases l <;> rfl

@[simp] theorem State.putLine_queue (l : LineId) (x : Line) :
    (s.putLine l x).queue = s.queue := by cases l <;> rfl

@[simp] theorem State.putLine_sending (l : LineId) (x : Line) :
    (s.putLine l x).sending = s.sending := by cases l <;> rfl

@[simp] theorem State.putLine_restartPending (l : LineId) (x : Line) :
    (s.putLine l x).restartPending = s.restartPending := by cases l <;> rfl

@[simp] theorem State.putLine_silenceTimer (l : LineId) (x : Line) :
    (s.putLine l x).silenceTimer = s.silenceTimer := by cases l <;> rfl

@[simp] theorem State.putLine_reporting (l : LineId) (x : Line) :
    (s.putLine l x).reporting = s.reporting := by cases l <;> rfl

@[simp] theorem State.putLine_streamPeriod (l : LineId) (x : Line) :
    (s.putLine l x).streamPeriod = s.streamPeriod := by cases l <;> rfl

@[simp] theorem State.putLine_countdown (l : LineId) (x : Line) :
    (s.putLine l x).countdown = s.countdown := by cases l <;> rfl

@[simp] theorem State.putLine_timing (l : LineId) (x : Line) :
    (s.putLine l x).timing = s.timing := by cases l <;> rfl

@[simp] theorem State.putLine_stories (l : LineId) (x : Line) :
    (s.putLine l x).stories = s.stories := by cases l <;> rfl

@[simp] theorem State.putLine_desks (l : LineId) (x : Line) :
    (s.putLine l x).desks = s.desks := by cases l <;> rfl

@[simp] theorem State.putLine_baskets (l : LineId) (x : Line) :
    (s.putLine l x).baskets = s.baskets := by cases l <;> rfl

@[simp] theorem State.putLine_routes (l : LineId) (x : Line) :
    (s.putLine l x).routes = s.routes := by cases l <;> rfl

@[simp] theorem State.putLine_diversions (l : LineId) (x : Line) :
    (s.putLine l x).diversions = s.diversions := by cases l <;> rfl

@[simp] theorem State.putLine_pressures (l : LineId) (x : Line) :
    (s.putLine l x).pressures = s.pressures := by cases l <;> rfl

@[simp] theorem State.putLine_sampleTimer (l : LineId) (x : Line) :
    (s.putLine l x).sampleTimer = s.sampleTimer := by cases l <;> rfl

@[simp] theorem State.putLine_terminals (l : LineId) (x : Line) :
    (s.putLine l x).terminals = s.terminals := by cases l <;> rfl

@[simp] theorem State.putLine_freeBlocks (l : LineId) (x : Line) :
    (s.putLine l x).freeBlocks = s.freeBlocks := by cases l <;> rfl

@[simp] theorem State.putLine_editions (l : LineId) (x : Line) :
    (s.putLine l x).editions = s.editions := by cases l <;> rfl

@[simp] theorem State.putLine_pages (l : LineId) (x : Line) :
    (s.putLine l x).pages = s.pages := by cases l <;> rfl

@[simp] theorem State.putLine_typesetter (l : LineId) (x : Line) :
    (s.putLine l x).typesetter = s.typesetter := by cases l <;> rfl

@[simp] theorem State.line_putLine (l m : LineId) (x : Line) :
    (s.putLine l x).line m = if m = l then x else s.line m := by
  cases l <;> cases m <;> rfl

/-! ### Reads after writes -/

@[simp] theorem State.storyAt_putStory (n : Nat) (o : Option Story) (j : Nat) :
    (s.putStory n o).story? j = if j = n then o else s.story? j :=
  Table.get_put _ _ _ _ _

@[simp] theorem State.desk_putDesk (d : Nat) (e : Desk) (j : Nat) :
    (s.putDesk d e).desk j = if j = d then e else s.desk j :=
  Table.get_put _ _ _ _ _

@[simp] theorem State.basket_putBasket (d : Nat) (b : Basket) (j : Nat) :
    (s.putBasket d b).basket j = if j = d then b else s.basket j :=
  Table.get_put _ _ _ _ _

@[simp] theorem State.pressure_putPressure (d : Nat) (p : Pressure) (j : Nat) :
    (s.putPressure d p).pressure j = if j = d then p else s.pressure j :=
  Table.get_put _ _ _ _ _

@[simp] theorem State.terminal_putTerminal (t : Nat) (r : Terminal) (j : Nat) :
    (s.putTerminal t r).terminal j = if j = t then r else s.terminal j :=
  Table.get_put _ _ _ _ _

@[simp] theorem State.edition_putEdition (e : Nat) (x : Edition) (j : Nat) :
    (s.putEdition e x).edition j = if j = e then x else s.edition j :=
  Table.get_put _ _ _ _ _

@[simp] theorem State.pageAt_putPage (r : Nat) (o : Option Page) (j : Nat) :
    (s.putPage r o).page? j = if j = r then o else s.page? j :=
  Table.get_put _ _ _ _ _

@[simp] theorem State.desk_putStory_frame (a : Nat) (o : Option Story) (j : Nat) :
    (s.putStory a o).desk j = s.desk j := rfl

@[simp] theorem State.basket_putStory_frame (a : Nat) (o : Option Story) (j : Nat) :
    (s.putStory a o).basket j = s.basket j := rfl

@[simp] theorem State.pressure_putStory_frame (a : Nat) (o : Option Story) (j : Nat) :
    (s.putStory a o).pressure j = s.pressure j := rfl

@[simp] theorem State.terminal_putStory_frame (a : Nat) (o : Option Story) (j : Nat) :
    (s.putStory a o).terminal j = s.terminal j := rfl

@[simp] theorem State.edition_putStory_frame (a : Nat) (o : Option Story) (j : Nat) :
    (s.putStory a o).edition j = s.edition j := rfl

@[simp] theorem State.pageAt_putStory_frame (a : Nat) (o : Option Story) (j : Nat) :
    (s.putStory a o).page? j = s.page? j := rfl

@[simp] theorem State.page_putStory_frame (a : Nat) (o : Option Story) (j : Nat) :
    (s.putStory a o).page j = s.page j := rfl

@[simp] theorem State.line_putStory_frame (a : Nat) (o : Option Story) (j : LineId) :
    (s.putStory a o).line j = s.line j := by cases j <;> rfl

@[simp] theorem State.storyAt_putDesk_frame (a : Nat) (o : Desk) (j : Nat) :
    (s.putDesk a o).story? j = s.story? j := rfl

@[simp] theorem State.story_putDesk_frame (a : Nat) (o : Desk) (j : Nat) :
    (s.putDesk a o).story j = s.story j := rfl

@[simp] theorem State.basket_putDesk_frame (a : Nat) (o : Desk) (j : Nat) :
    (s.putDesk a o).basket j = s.basket j := rfl

@[simp] theorem State.pressure_putDesk_frame (a : Nat) (o : Desk) (j : Nat) :
    (s.putDesk a o).pressure j = s.pressure j := rfl

@[simp] theorem State.terminal_putDesk_frame (a : Nat) (o : Desk) (j : Nat) :
    (s.putDesk a o).terminal j = s.terminal j := rfl

@[simp] theorem State.edition_putDesk_frame (a : Nat) (o : Desk) (j : Nat) :
    (s.putDesk a o).edition j = s.edition j := rfl

@[simp] theorem State.pageAt_putDesk_frame (a : Nat) (o : Desk) (j : Nat) :
    (s.putDesk a o).page? j = s.page? j := rfl

@[simp] theorem State.page_putDesk_frame (a : Nat) (o : Desk) (j : Nat) :
    (s.putDesk a o).page j = s.page j := rfl

@[simp] theorem State.line_putDesk_frame (a : Nat) (o : Desk) (j : LineId) :
    (s.putDesk a o).line j = s.line j := by cases j <;> rfl

@[simp] theorem State.storyAt_putBasket_frame (a : Nat) (o : Basket) (j : Nat) :
    (s.putBasket a o).story? j = s.story? j := rfl

@[simp] theorem State.story_putBasket_frame (a : Nat) (o : Basket) (j : Nat) :
    (s.putBasket a o).story j = s.story j := rfl

@[simp] theorem State.desk_putBasket_frame (a : Nat) (o : Basket) (j : Nat) :
    (s.putBasket a o).desk j = s.desk j := rfl

@[simp] theorem State.pressure_putBasket_frame (a : Nat) (o : Basket) (j : Nat) :
    (s.putBasket a o).pressure j = s.pressure j := rfl

@[simp] theorem State.terminal_putBasket_frame (a : Nat) (o : Basket) (j : Nat) :
    (s.putBasket a o).terminal j = s.terminal j := rfl

@[simp] theorem State.edition_putBasket_frame (a : Nat) (o : Basket) (j : Nat) :
    (s.putBasket a o).edition j = s.edition j := rfl

@[simp] theorem State.pageAt_putBasket_frame (a : Nat) (o : Basket) (j : Nat) :
    (s.putBasket a o).page? j = s.page? j := rfl

@[simp] theorem State.page_putBasket_frame (a : Nat) (o : Basket) (j : Nat) :
    (s.putBasket a o).page j = s.page j := rfl

@[simp] theorem State.line_putBasket_frame (a : Nat) (o : Basket) (j : LineId) :
    (s.putBasket a o).line j = s.line j := by cases j <;> rfl

@[simp] theorem State.storyAt_putPressure_frame (a : Nat) (o : Pressure) (j : Nat) :
    (s.putPressure a o).story? j = s.story? j := rfl

@[simp] theorem State.story_putPressure_frame (a : Nat) (o : Pressure) (j : Nat) :
    (s.putPressure a o).story j = s.story j := rfl

@[simp] theorem State.desk_putPressure_frame (a : Nat) (o : Pressure) (j : Nat) :
    (s.putPressure a o).desk j = s.desk j := rfl

@[simp] theorem State.basket_putPressure_frame (a : Nat) (o : Pressure) (j : Nat) :
    (s.putPressure a o).basket j = s.basket j := rfl

@[simp] theorem State.terminal_putPressure_frame (a : Nat) (o : Pressure) (j : Nat) :
    (s.putPressure a o).terminal j = s.terminal j := rfl

@[simp] theorem State.edition_putPressure_frame (a : Nat) (o : Pressure) (j : Nat) :
    (s.putPressure a o).edition j = s.edition j := rfl

@[simp] theorem State.pageAt_putPressure_frame (a : Nat) (o : Pressure) (j : Nat) :
    (s.putPressure a o).page? j = s.page? j := rfl

@[simp] theorem State.page_putPressure_frame (a : Nat) (o : Pressure) (j : Nat) :
    (s.putPressure a o).page j = s.page j := rfl

@[simp] theorem State.line_putPressure_frame (a : Nat) (o : Pressure) (j : LineId) :
    (s.putPressure a o).line j = s.line j := by cases j <;> rfl

@[simp] theorem State.storyAt_putTerminal_frame (a : Nat) (o : Terminal) (j : Nat) :
    (s.putTerminal a o).story? j = s.story? j := rfl

@[simp] theorem State.story_putTerminal_frame (a : Nat) (o : Terminal) (j : Nat) :
    (s.putTerminal a o).story j = s.story j := rfl

@[simp] theorem State.desk_putTerminal_frame (a : Nat) (o : Terminal) (j : Nat) :
    (s.putTerminal a o).desk j = s.desk j := rfl

@[simp] theorem State.basket_putTerminal_frame (a : Nat) (o : Terminal) (j : Nat) :
    (s.putTerminal a o).basket j = s.basket j := rfl

@[simp] theorem State.pressure_putTerminal_frame (a : Nat) (o : Terminal) (j : Nat) :
    (s.putTerminal a o).pressure j = s.pressure j := rfl

@[simp] theorem State.edition_putTerminal_frame (a : Nat) (o : Terminal) (j : Nat) :
    (s.putTerminal a o).edition j = s.edition j := rfl

@[simp] theorem State.pageAt_putTerminal_frame (a : Nat) (o : Terminal) (j : Nat) :
    (s.putTerminal a o).page? j = s.page? j := rfl

@[simp] theorem State.page_putTerminal_frame (a : Nat) (o : Terminal) (j : Nat) :
    (s.putTerminal a o).page j = s.page j := rfl

@[simp] theorem State.line_putTerminal_frame (a : Nat) (o : Terminal) (j : LineId) :
    (s.putTerminal a o).line j = s.line j := by cases j <;> rfl

@[simp] theorem State.storyAt_putEdition_frame (a : Nat) (o : Edition) (j : Nat) :
    (s.putEdition a o).story? j = s.story? j := rfl

@[simp] theorem State.story_putEdition_frame (a : Nat) (o : Edition) (j : Nat) :
    (s.putEdition a o).story j = s.story j := rfl

@[simp] theorem State.desk_putEdition_frame (a : Nat) (o : Edition) (j : Nat) :
    (s.putEdition a o).desk j = s.desk j := rfl

@[simp] theorem State.basket_putEdition_frame (a : Nat) (o : Edition) (j : Nat) :
    (s.putEdition a o).basket j = s.basket j := rfl

@[simp] theorem State.pressure_putEdition_frame (a : Nat) (o : Edition) (j : Nat) :
    (s.putEdition a o).pressure j = s.pressure j := rfl

@[simp] theorem State.terminal_putEdition_frame (a : Nat) (o : Edition) (j : Nat) :
    (s.putEdition a o).terminal j = s.terminal j := rfl

@[simp] theorem State.pageAt_putEdition_frame (a : Nat) (o : Edition) (j : Nat) :
    (s.putEdition a o).page? j = s.page? j := rfl

@[simp] theorem State.page_putEdition_frame (a : Nat) (o : Edition) (j : Nat) :
    (s.putEdition a o).page j = s.page j := rfl

@[simp] theorem State.line_putEdition_frame (a : Nat) (o : Edition) (j : LineId) :
    (s.putEdition a o).line j = s.line j := by cases j <;> rfl

@[simp] theorem State.storyAt_putPage_frame (a : Nat) (o : Option Page) (j : Nat) :
    (s.putPage a o).story? j = s.story? j := rfl

@[simp] theorem State.story_putPage_frame (a : Nat) (o : Option Page) (j : Nat) :
    (s.putPage a o).story j = s.story j := rfl

@[simp] theorem State.desk_putPage_frame (a : Nat) (o : Option Page) (j : Nat) :
    (s.putPage a o).desk j = s.desk j := rfl

@[simp] theorem State.basket_putPage_frame (a : Nat) (o : Option Page) (j : Nat) :
    (s.putPage a o).basket j = s.basket j := rfl

@[simp] theorem State.pressure_putPage_frame (a : Nat) (o : Option Page) (j : Nat) :
    (s.putPage a o).pressure j = s.pressure j := rfl

@[simp] theorem State.terminal_putPage_frame (a : Nat) (o : Option Page) (j : Nat) :
    (s.putPage a o).terminal j = s.terminal j := rfl

@[simp] theorem State.edition_putPage_frame (a : Nat) (o : Option Page) (j : Nat) :
    (s.putPage a o).edition j = s.edition j := rfl

@[simp] theorem State.line_putPage_frame (a : Nat) (o : Option Page) (j : LineId) :
    (s.putPage a o).line j = s.line j := by cases j <;> rfl

@[simp] theorem State.storyAt_putTypesetter_frame (o : Typesetter) (j : Nat) :
    (s.putTypesetter o).story? j = s.story? j := rfl

@[simp] theorem State.story_putTypesetter_frame (o : Typesetter) (j : Nat) :
    (s.putTypesetter o).story j = s.story j := rfl

@[simp] theorem State.desk_putTypesetter_frame (o : Typesetter) (j : Nat) :
    (s.putTypesetter o).desk j = s.desk j := rfl

@[simp] theorem State.basket_putTypesetter_frame (o : Typesetter) (j : Nat) :
    (s.putTypesetter o).basket j = s.basket j := rfl

@[simp] theorem State.pressure_putTypesetter_frame (o : Typesetter) (j : Nat) :
    (s.putTypesetter o).pressure j = s.pressure j := rfl

@[simp] theorem State.terminal_putTypesetter_frame (o : Typesetter) (j : Nat) :
    (s.putTypesetter o).terminal j = s.terminal j := rfl

@[simp] theorem State.edition_putTypesetter_frame (o : Typesetter) (j : Nat) :
    (s.putTypesetter o).edition j = s.edition j := rfl

@[simp] theorem State.pageAt_putTypesetter_frame (o : Typesetter) (j : Nat) :
    (s.putTypesetter o).page? j = s.page? j := rfl

@[simp] theorem State.page_putTypesetter_frame (o : Typesetter) (j : Nat) :
    (s.putTypesetter o).page j = s.page j := rfl

@[simp] theorem State.line_putTypesetter_frame (o : Typesetter) (j : LineId) :
    (s.putTypesetter o).line j = s.line j := by cases j <;> rfl

@[simp] theorem State.storyAt_reach_frame (o : Nat) (j : Nat) :
    (s.reach o).story? j = s.story? j := rfl

@[simp] theorem State.story_reach_frame (o : Nat) (j : Nat) :
    (s.reach o).story j = s.story j := rfl

@[simp] theorem State.desk_reach_frame (o : Nat) (j : Nat) :
    (s.reach o).desk j = s.desk j := rfl

@[simp] theorem State.basket_reach_frame (o : Nat) (j : Nat) :
    (s.reach o).basket j = s.basket j := rfl

@[simp] theorem State.pressure_reach_frame (o : Nat) (j : Nat) :
    (s.reach o).pressure j = s.pressure j := rfl

@[simp] theorem State.terminal_reach_frame (o : Nat) (j : Nat) :
    (s.reach o).terminal j = s.terminal j := rfl

@[simp] theorem State.edition_reach_frame (o : Nat) (j : Nat) :
    (s.reach o).edition j = s.edition j := rfl

@[simp] theorem State.pageAt_reach_frame (o : Nat) (j : Nat) :
    (s.reach o).page? j = s.page? j := rfl

@[simp] theorem State.page_reach_frame (o : Nat) (j : Nat) :
    (s.reach o).page j = s.page j := rfl

@[simp] theorem State.line_reach_frame (o : Nat) (j : LineId) :
    (s.reach o).line j = s.line j := by cases j <;> rfl

@[simp] theorem State.storyAt_markDropped_frame (j : Nat) :
    (s.markDropped).story? j = s.story? j := rfl

@[simp] theorem State.story_markDropped_frame (j : Nat) :
    (s.markDropped).story j = s.story j := rfl

@[simp] theorem State.desk_markDropped_frame (j : Nat) :
    (s.markDropped).desk j = s.desk j := rfl

@[simp] theorem State.basket_markDropped_frame (j : Nat) :
    (s.markDropped).basket j = s.basket j := rfl

@[simp] theorem State.pressure_markDropped_frame (j : Nat) :
    (s.markDropped).pressure j = s.pressure j := rfl

@[simp] theorem State.terminal_markDropped_frame (j : Nat) :
    (s.markDropped).terminal j = s.terminal j := rfl

@[simp] theorem State.edition_markDropped_frame (j : Nat) :
    (s.markDropped).edition j = s.edition j := rfl

@[simp] theorem State.pageAt_markDropped_frame (j : Nat) :
    (s.markDropped).page? j = s.page? j := rfl

@[simp] theorem State.page_markDropped_frame (j : Nat) :
    (s.markDropped).page j = s.page j := rfl

@[simp] theorem State.line_markDropped_frame (j : LineId) :
    (s.markDropped).line j = s.line j := by cases j <;> rfl

@[simp] theorem State.storyAt_putLine_frame (l : LineId) (x : Line) (j : Nat) :
    (s.putLine l x).story? j = s.story? j := by cases l <;> rfl

@[simp] theorem State.story_putLine_frame (l : LineId) (x : Line) (j : Nat) :
    (s.putLine l x).story j = s.story j := by cases l <;> rfl

@[simp] theorem State.desk_putLine_frame (l : LineId) (x : Line) (j : Nat) :
    (s.putLine l x).desk j = s.desk j := by cases l <;> rfl

@[simp] theorem State.basket_putLine_frame (l : LineId) (x : Line) (j : Nat) :
    (s.putLine l x).basket j = s.basket j := by cases l <;> rfl

@[simp] theorem State.pressure_putLine_frame (l : LineId) (x : Line) (j : Nat) :
    (s.putLine l x).pressure j = s.pressure j := by cases l <;> rfl

@[simp] theorem State.terminal_putLine_frame (l : LineId) (x : Line) (j : Nat) :
    (s.putLine l x).terminal j = s.terminal j := by cases l <;> rfl

@[simp] theorem State.edition_putLine_frame (l : LineId) (x : Line) (j : Nat) :
    (s.putLine l x).edition j = s.edition j := by cases l <;> rfl

@[simp] theorem State.pageAt_putLine_frame (l : LineId) (x : Line) (j : Nat) :
    (s.putLine l x).page? j = s.page? j := by cases l <;> rfl

@[simp] theorem State.page_putLine_frame (l : LineId) (x : Line) (j : Nat) :
    (s.putLine l x).page j = s.page j := by cases l <;> rfl

end Sys2Proof.Machine
end

