-- ==== Sys2Proof/Laws/Frame.lean ====
section
/-! SUPPORT. What each shared operation can change: one lemma for each, naming the fields that it may touch. A
field outside the list is read off such a lemma, as `h .part (by decide)`. -/

namespace Sys2Proof.Machine

/-! ### The relation -/

theorem State.onlyChanges.refl (fs : List Field) (s : State) : s.onlyChanges fs s := by
  intro f _; cases f <;> rfl

theorem State.onlyChanges.trans {fs : List Field} {s t u : State} (h : s.onlyChanges fs t)
    (k : t.onlyChanges fs u) : s.onlyChanges fs u := by
  intro f hf
  have a := h f hf
  have b := k f hf
  cases f <;> exact Eq.trans a b

theorem State.onlyChanges.mono {fs gs : List Field} {s t : State} (h : s.onlyChanges fs t)
    (sub : ∀ f ∈ fs, f ∈ gs) : s.onlyChanges gs t :=
  fun f hf => h f (fun m => hf (sub f m))

/-- A fold of steps that keep a frame keeps it. -/
theorem State.onlyChanges.foldl {β : Type} {fs : List Field} (g : State → β → State)
    (h : ∀ (s : State) (b : β), s.onlyChanges fs (g s b)) (l : List β) (s : State) :
    s.onlyChanges fs (l.foldl g s) := by
  induction l generalizing s with
  | nil => exact State.onlyChanges.refl fs s
  | cons b rest ih => exact (h s b).trans (ih (g s b))

/-- An equation of states that differ in the named fields. -/
theorem State.onlyChanges.of_eq {fs : List Field} {s t : State} (h : t = s) : s.onlyChanges fs t :=
  h ▸ State.onlyChanges.refl fs s

/-! ### Writes -/

theorem onlyChanges_putStory (s : State) (n : Nat) (o : Option Story) :
    s.onlyChanges [.stories] (s.putStory n o) := by
  intro f hf; cases f <;> first | rfl | exact absurd (by decide) hf

theorem onlyChanges_putDesk (s : State) (d : Nat) (e : Desk) :
    s.onlyChanges [.desks] (s.putDesk d e) := by
  intro f hf; cases f <;> first | rfl | exact absurd (by decide) hf

theorem onlyChanges_putBasket (s : State) (d : Nat) (b : Basket) :
    s.onlyChanges [.baskets] (s.putBasket d b) := by
  intro f hf; cases f <;> first | rfl | exact absurd (by decide) hf

theorem onlyChanges_putPressure (s : State) (d : Nat) (p : Pressure) :
    s.onlyChanges [.pressures] (s.putPressure d p) := by
  intro f hf; cases f <;> first | rfl | exact absurd (by decide) hf

theorem onlyChanges_putTerminal (s : State) (t : Nat) (r : Terminal) :
    s.onlyChanges [.terminals] (s.putTerminal t r) := by
  intro f hf; cases f <;> first | rfl | exact absurd (by decide) hf

theorem onlyChanges_putLine (s : State) (l : LineId) (x : Line) :
    s.onlyChanges [.lines] (s.putLine l x) := by
  intro f hf; cases l <;> cases f <;> first | rfl | exact absurd (by decide) hf

theorem onlyChanges_putEdition (s : State) (e : Nat) (x : Edition) :
    s.onlyChanges [.editions] (s.putEdition e x) := by
  intro f hf; cases f <;> first | rfl | exact absurd (by decide) hf

theorem onlyChanges_putPage (s : State) (r : Nat) (o : Option Page) :
    s.onlyChanges [.pages] (s.putPage r o) := by
  intro f hf; cases f <;> first | rfl | exact absurd (by decide) hf

theorem onlyChanges_putTypesetter (s : State) (x : Typesetter) :
    s.onlyChanges [.typesetter] (s.putTypesetter x) := by
  intro f hf; cases f <;> first | rfl | exact absurd (by decide) hf

theorem onlyChanges_reach (s : State) (due : Nat) : s.onlyChanges [.now] (s.reach due) := by
  intro f hf; cases f <;> first | rfl | exact absurd (by decide) hf

theorem onlyChanges_modStory (s : State) (n : Nat) (g : Story → Story) :
    s.onlyChanges [.stories] (s.modStory n g) := by
  unfold State.modStory
  split
  · exact onlyChanges_putStory _ _ _
  · exact State.onlyChanges.refl _ s

/-! ### The notice queue -/

theorem onlyChanges_startNotice (s : State) : s.onlyChanges noticeFields s.startNotice := by
  unfold State.startNotice
  split
  · intro f hf; cases f <;> first | rfl | exact absurd (by decide) hf
  · exact State.onlyChanges.refl _ s

theorem onlyChanges_admit (s : State) (n : Notice) : s.onlyChanges noticeFields (s.admitNotice n) := by
  refine State.onlyChanges.trans ?_ (onlyChanges_startNotice _)
  intro f hf; cases f <;> first | rfl | exact absurd (by decide) hf

theorem onlyChanges_markDropped (s : State) : s.onlyChanges noticeFields s.markDropped := by
  intro f hf; cases f <;> first | rfl | exact absurd (by decide) hf

/-- An offer changes the queue, the notice being sent and the reports-dropped flag, and nothing else. -/
theorem onlyChanges_offer (s : State) (n : Notice) : s.onlyChanges noticeFields (s.offer n) := by
  unfold State.offer
  split
  · split
    · exact onlyChanges_admit s n
    · exact onlyChanges_markDropped s
  · split
    · split
      · exact onlyChanges_admit s n
      · exact onlyChanges_markDropped s
    · exact State.onlyChanges.refl _ s
  · split
    · exact onlyChanges_admit s n
    · exact State.onlyChanges.refl _ s
  · exact onlyChanges_admit s n

theorem onlyChanges_refuseOrder (s : State) (k : Byte) (c : Code) (i : Option Nat) :
    s.onlyChanges noticeFields (s.refuseOrder k c i) := onlyChanges_offer s _

theorem onlyChanges_textWanted (s : State) (t n : Nat) (q : RequestKind) :
    s.onlyChanges noticeFields (s.textWanted t n q) := onlyChanges_offer s _

/-! ### Attentions and the terminal table -/

theorem onlyChanges_attend (s : State) (t : Nat) (b : AttentionBody) :
    s.onlyChanges [.terminals] (s.attend t b) := by
  unfold State.attend
  dsimp only
  split
  · exact State.onlyChanges.refl _ s
  · exact onlyChanges_putTerminal _ _ _

theorem onlyChanges_attendAll (s : State) (ts : List Nat) (b : AttentionBody) :
    s.onlyChanges [.terminals] (s.attendAll ts b) :=
  State.onlyChanges.foldl _ (fun s t => onlyChanges_attend s t b) ts s

theorem onlyChanges_addHold (s : State) (t n : Nat) : s.onlyChanges [.terminals] (s.addHold t n) :=
  onlyChanges_putTerminal _ _ _

theorem onlyChanges_dropHold (s : State) (t n : Nat) :
    s.onlyChanges [.terminals] (s.dropHold t n) := onlyChanges_putTerminal _ _ _

theorem onlyChanges_pushView (s : State) (t n : Nat) :
    s.onlyChanges [.terminals] (s.pushView t n) := onlyChanges_putTerminal _ _ _

theorem onlyChanges_discardFrames (s : State) (t : Nat) (p : OutFrame → Bool) :
    s.onlyChanges [.terminals, .freeBlocks] (s.discardFrames t p) := by
  intro f hf; cases f <;> first | rfl | exact absurd (by decide) hf

theorem onlyChanges_appendFrame (s : State) (t : Nat) (x : OutFrame) :
    s.onlyChanges [.terminals, .freeBlocks] (s.appendFrame t x) := by
  intro f hf; cases f <;> first | rfl | exact absurd (by decide) hf

theorem onlyChanges_extendOpen (s : State) (t : Nat) (x y : OutFrame) :
    s.onlyChanges [.terminals, .freeBlocks] (s.extendOpen t x y) := by
  intro f hf; cases f <;> first | rfl | exact absurd (by decide) hf

/-! ### The copy directory -/

/-- What the telling of a change may touch (R13). -/
def tellFields : List Field := [.terminals] ++ noticeFields

theorem onlyChanges_tellWatchers (s : State) (k : Change) (n : Nat) (c : CopyCause) :
    s.onlyChanges [.terminals] (s.tellWatchers k n c) := by
  unfold State.tellWatchers
  split
  · exact onlyChanges_attendAll _ _ _
  · exact State.onlyChanges.refl _ s

theorem onlyChanges_tellChange (s : State) (k : Change) (n : Nat) (c : CopyCause) :
    s.onlyChanges tellFields (s.tellChange k n c) :=
  ((onlyChanges_tellWatchers s k n c).mono (by decide)).trans
    ((onlyChanges_offer _ _).mono (by decide))

theorem onlyChanges_nudgeArrive (s : State) (n : Nat) :
    s.onlyChanges [.stories] (s.nudgeArrive n) := onlyChanges_modStory _ _ _

theorem onlyChanges_nudgeRelease (s : State) (n : Nat) :
    s.onlyChanges [.stories] (s.nudgeRelease n) := onlyChanges_modStory _ _ _

theorem onlyChanges_nudgeLeave (s : State) (n : Nat) :
    s.onlyChanges [.stories] (s.nudgeLeave n) := onlyChanges_modStory _ _ _

theorem onlyChanges_nudgeResume (s : State) : s.onlyChanges [.stories] s.nudgeResume := by
  intro f hf; cases f <;> first | rfl | exact absurd (by decide) hf

theorem onlyChanges_nudgeStop (s : State) : s.onlyChanges [.stories] s.nudgeStop := by
  intro f hf; cases f <;> first | rfl | exact absurd (by decide) hf

theorem onlyChanges_fileAt (s : State) (n d : Nat) (flash : Bool) :
    s.onlyChanges [.baskets, .stories] (s.fileAt n d flash) :=
  (((onlyChanges_putBasket _ _ _).mono (by decide)).trans
    ((onlyChanges_modStory _ _ _).mono (by decide))).trans
      ((onlyChanges_nudgeArrive _ _).mono (by decide))

theorem onlyChanges_leaveBasket (s : State) (d n : Nat) :
    s.onlyChanges [.baskets] (s.leaveBasket d n) := onlyChanges_putBasket _ _ _

theorem onlyChanges_releaseInPlace (s : State) (n : Nat) :
    s.onlyChanges [.stories] (s.releaseInPlace n) :=
  (onlyChanges_modStory _ _ _).trans (onlyChanges_nudgeRelease _ _)

theorem onlyChanges_liftStory (s : State) (n : Nat) :
    s.onlyChanges ([.stories] ++ tellFields) (s.liftStory n) :=
  ((onlyChanges_modStory _ _ _).mono (by decide)).trans
    ((onlyChanges_tellChange _ _ _ _).mono (by decide))

/-! ### The page unit -/

theorem onlyChanges_writeSlot (s : State) (e n : Nat) (x : Slot) :
    s.onlyChanges [.editions] (s.writeSlot e n x) := onlyChanges_putEdition _ _ _

theorem onlyChanges_movePage (s : State) (r : Nat) (p : Page) (c : PageCause) :
    s.onlyChanges pageFields (s.movePage r p c) :=
  (((onlyChanges_putPage _ _ _).mono (by decide)).trans
    ((onlyChanges_writeSlot _ _ _ _).mono (by decide))).trans
      ((onlyChanges_offer _ _).mono (by decide))

theorem onlyChanges_dequeue (s : State) (r : Nat) : s.onlyChanges [.typesetter] (s.dequeue r) :=
  onlyChanges_putTypesetter _ _

theorem onlyChanges_withdraw (s : State) (r : Nat) : s.onlyChanges pageFields (s.withdraw r) :=
  ((onlyChanges_dequeue _ _).mono (by decide)).trans (onlyChanges_movePage _ _ _ _)

theorem onlyChanges_withdrawSection (s : State) (r : Nat) :
    s.onlyChanges pageFields (s.withdrawSection r) :=
  State.onlyChanges.foldl _ onlyChanges_withdraw _ s

theorem onlyChanges_joinPage (s : State) (r : Nat) : s.onlyChanges pageFields (s.joinPage r) :=
  ((onlyChanges_putTypesetter _ _).mono (by decide)).trans (onlyChanges_movePage _ _ _ _)

theorem onlyChanges_spendJoin (s : State) (e : Nat) : s.onlyChanges pageFields (s.spendJoin e) := by
  unfold State.spendJoin
  dsimp only
  split
  · exact (onlyChanges_putEdition _ _ _).mono (by decide)
  · exact State.onlyChanges.refl _ s

theorem onlyChanges_joinReplates (l : List Nat) (s : State) :
    s.onlyChanges pageFields (joinReplates l s).1 := by
  induction l generalizing s with
  | nil => exact State.onlyChanges.refl _ s
  | cons r rest ih =>
    unfold joinReplates
    split
    · exact (onlyChanges_joinPage s r).trans (ih _)
    · exact State.onlyChanges.refl _ s

theorem onlyChanges_joinSections (l : List (Nat × Nat)) (s : State) :
    s.onlyChanges pageFields (joinSections l s) := by
  induction l generalizing s with
  | nil => exact State.onlyChanges.refl _ s
  | cons e rest ih =>
    obtain ⟨e, k⟩ := e
    unfold joinSections
    split
    · split
      · exact ((onlyChanges_spendJoin s e).trans
          (State.onlyChanges.foldl _ onlyChanges_joinPage _ _)).trans (ih _)
      · exact State.onlyChanges.refl _ s
    · exact ih s

/-- An evaluation of the joins touches pages, report slots, the typesetter queue and notices only. -/
theorem onlyChanges_evaluateJoins (s : State) : s.onlyChanges pageFields s.evaluateJoins := by
  unfold State.evaluateJoins
  have h := onlyChanges_joinReplates s.waitingReplates s
  split <;> rename_i heq <;> rw [heq] at h
  · exact h.trans (onlyChanges_joinSections _ _)
  · exact h

theorem onlyChanges_freePage (s : State) (r : Nat) (c : PageCause) :
    s.onlyChanges sealFields (s.freePage r c) := by
  have lifted := State.onlyChanges.foldl _ onlyChanges_liftStory (s.page r).placement s
  exact ((lifted.mono (by decide)).trans
    ((onlyChanges_putPage _ _ _).mono (by decide))).trans ((onlyChanges_offer _ _).mono (by decide))

theorem onlyChanges_sealPages (s : State) (e : Nat) : s.onlyChanges sealFields (s.sealPages e) := by
  have removed := State.onlyChanges.foldl _ onlyChanges_dequeue
    (s.recordsWith e (fun p => p.state == .queued)) s
  exact (removed.mono (by decide)).trans
    (State.onlyChanges.foldl _ (fun s r => onlyChanges_freePage s r _) _ _)

/-- A seal touches stories, terminals (their attentions), pages, editions, the typesetter queue and
notices only. -/
theorem onlyChanges_seal (s : State) (e : Nat) : s.onlyChanges sealFields (s.seal e) :=
  ((onlyChanges_sealPages s e).trans ((onlyChanges_offer _ _).mono (by decide))).trans
    ((onlyChanges_putEdition _ _ _).mono (by decide))

theorem onlyChanges_sealTest (s : State) (e : Nat) : s.onlyChanges sealFields (s.sealTest e) := by
  unfold State.sealTest
  split
  · exact onlyChanges_seal s e
  · exact State.onlyChanges.refl _ s

theorem onlyChanges_completeTest (s : State) (e : Nat) :
    s.onlyChanges pageFields (s.completeTest e) := by
  unfold State.completeTest
  dsimp only
  split
  · exact ((onlyChanges_putEdition _ _ _).mono (by decide)).trans
      ((onlyChanges_offer _ _).mono (by decide))
  · exact State.onlyChanges.refl _ s

theorem onlyChanges_afterSend (s : State) (e : Nat) : s.onlyChanges sealFields (s.afterSend e) := by
  unfold State.afterSend
  refine State.onlyChanges.trans ?_ ((onlyChanges_evaluateJoins _).mono (by decide))
  refine ((onlyChanges_completeTest s e).mono (by decide)).trans ?_
  split
  · exact onlyChanges_seal _ e
  · exact onlyChanges_sealTest _ e

theorem onlyChanges_storySet (s : State) (n : Nat) : s.onlyChanges pageFields (s.storySet n) := by
  unfold State.storySet
  split
  · exact State.onlyChanges.refl _ s
  · dsimp only
    split
    · exact (onlyChanges_movePage _ _ _ _).trans (onlyChanges_evaluateJoins _)
    · exact State.onlyChanges.refl _ s

theorem onlyChanges_storyPulled (s : State) (n : Nat) :
    s.onlyChanges sealFields (s.storyPulled n) := by
  unfold State.storyPulled
  split
  · exact State.onlyChanges.refl _ s
  · dsimp only
    split
    · exact ((((onlyChanges_movePage _ _ _ _).mono (by decide)).trans
        ((onlyChanges_withdrawSection _ _).mono (by decide))).trans (onlyChanges_sealTest _ _)).trans
          ((onlyChanges_evaluateJoins _).mono (by decide))
    · exact (((((onlyChanges_dequeue _ _).mono (by decide)).trans
        ((onlyChanges_movePage _ _ _ _).mono (by decide))).trans
        ((onlyChanges_withdrawSection _ _).mono (by decide))).trans (onlyChanges_sealTest _ _)).trans
          ((onlyChanges_evaluateJoins _).mono (by decide))
    · exact ((onlyChanges_movePage _ _ _ _).mono (by decide)).trans
        ((onlyChanges_evaluateJoins _).mono (by decide))
    all_goals exact State.onlyChanges.refl _ s

theorem onlyChanges_storyRevised (s : State) (n : Nat) :
    s.onlyChanges pageFields (s.storyRevised n) := by
  unfold State.storyRevised
  split
  · exact State.onlyChanges.refl _ s
  · dsimp only
    split
    · exact onlyChanges_movePage _ _ _ _
    · exact (onlyChanges_movePage _ _ _ _).trans (onlyChanges_evaluateJoins _)
    all_goals exact State.onlyChanges.refl _ s

/-! ### The typesetter unit -/

theorem onlyChanges_putSend (s : State) (x : Send) : s.onlyChanges [.typesetter] (s.putSend x) :=
  onlyChanges_putTypesetter _ _

theorem onlyChanges_offerCall (s : State) : s.onlyChanges pageFields s.offerCall := by
  unfold State.offerCall
  split
  · exact State.onlyChanges.refl _ s
  · split
    · exact ((onlyChanges_offer _ _).mono (by decide)).trans
        ((onlyChanges_putSend _ _).mono (by decide))
    · exact (onlyChanges_putSend _ _).mono (by decide)

theorem onlyChanges_callDue (s : State) : s.onlyChanges pageFields s.callDue := by
  unfold State.callDue
  split
  · exact State.onlyChanges.refl _ s
  · split
    · exact onlyChanges_offerCall s
    · exact State.onlyChanges.refl _ s

theorem onlyChanges_startSend (s : State) (r : Nat) : s.onlyChanges pageFields (s.startSend r) :=
  ((((onlyChanges_dequeue _ _).mono (by decide)).trans
    ((onlyChanges_putSend _ _).mono (by decide))).trans (onlyChanges_movePage _ _ _ _)).trans
      (onlyChanges_callDue _)

/-- The start test touches pages, report slots, the typesetter unit and notices only. -/
theorem onlyChanges_startTest (s : State) : s.onlyChanges pageFields s.startTest := by
  unfold State.startTest
  split
  · exact State.onlyChanges.refl _ s
  · split
    · exact onlyChanges_startSend s _
    · exact State.onlyChanges.refl _ s

theorem onlyChanges_clearStall (s : State) : s.onlyChanges pageFields s.clearStall := by
  unfold State.clearStall
  dsimp only
  split
  · exact ((onlyChanges_putTypesetter _ _).mono (by decide)).trans
      ((onlyChanges_offer _ _).mono (by decide))
  · exact State.onlyChanges.refl _ s

theorem onlyChanges_beginBlock (s : State) : s.onlyChanges pageFields s.beginBlock := by
  unfold State.beginBlock
  dsimp only
  split
  · exact (((onlyChanges_putTypesetter _ _).mono (by decide)).trans
      (onlyChanges_clearStall _)).trans (onlyChanges_startTest _)
  · split
    · exact (((onlyChanges_putTypesetter _ _).mono (by decide)).trans
        (onlyChanges_clearStall _)).trans (onlyChanges_callDue _)
    · exact State.onlyChanges.refl _ s

theorem onlyChanges_judgeReady (s : State) : s.onlyChanges [.tsrdy] s.judgeReady := by
  unfold State.judgeReady
  split
  · exact State.onlyChanges.refl _ s
  · split
    · exact State.onlyChanges.refl _ s
    · intro f hf; cases f <;> first | rfl | exact absurd (by decide) hf

theorem onlyChanges_tsProceed (s : State) : s.onlyChanges pageFields s.tsProceed := by
  unfold State.tsProceed
  dsimp only
  split
  · exact (onlyChanges_putTypesetter _ _).mono (by decide)
  · split
    · exact onlyChanges_beginBlock s
    · split
      · exact State.onlyChanges.refl _ s
      · exact (onlyChanges_putTypesetter _ _).mono (by decide)

/-- A level of TSRDY that the part is told of touches nothing else. -/
theorem onlyChanges_setReady (s : State) (level : Bool) :
    s.onlyChanges [.tsrdy] (s.setReady level) := by
  intro f hf; cases f <;> first | rfl | exact absurd (by decide) hf

/-- A byte of a terminal line touches its line, and the queue of commands when it completes or spoils a
frame. -/
theorem onlyChanges_takeLineByte (s : State) (l : LineId) (b : Byte) :
    s.onlyChanges [.lines, .pending] (s.takeLineByte l b) := by
  unfold State.takeLineByte
  split
  · cases l <;> (intro f hf; cases f <;> first | rfl | exact absurd (by decide) hf)
  · exact State.onlyChanges.refl _ s
  · exact State.onlyChanges.refl _ s
  · exact State.onlyChanges.refl _ s

/-- A look at the typesetter line touches the level of TSRDY as well, which it may judge afresh. -/
theorem onlyChanges_tsLine (s : State) : s.onlyChanges ([.tsrdy] ++ pageFields) s.tsLine :=
  ((onlyChanges_judgeReady s).mono (by decide)).trans ((onlyChanges_tsProceed _).mono (by decide))

theorem onlyChanges_completeSend (s : State) : s.onlyChanges sealFields s.completeSend := by
  unfold State.completeSend
  split
  · exact State.onlyChanges.refl _ s
  · dsimp only
    exact (((((onlyChanges_putTypesetter _ _).mono (by decide)).trans
      ((onlyChanges_movePage _ _ _ _).mono (by decide))).trans (onlyChanges_afterSend _ _)).trans
        ((onlyChanges_putTypesetter _ _).mono (by decide))).trans
          ((onlyChanges_startTest _).mono (by decide))

theorem onlyChanges_returnPage (s : State) (r : Nat) :
    s.onlyChanges pageFields (s.returnPage r) := by
  unfold State.returnPage
  dsimp only
  split
  · exact (onlyChanges_movePage _ _ _ _).trans (onlyChanges_withdraw _ _)
  · exact onlyChanges_movePage _ _ _ _

theorem onlyChanges_abandonSend (s : State) (c : AbandonCause) :
    s.onlyChanges pageFields (s.abandonSend c) := by
  unfold State.abandonSend
  split
  · exact State.onlyChanges.refl _ s
  · rename_i x _
    have kept : s.onlyChanges pageFields ((s.cutSend x).returnPage x.page) :=
      ((onlyChanges_putTypesetter _ _).mono (by decide)).trans (onlyChanges_returnPage _ _)
    dsimp only
    split
    · exact kept
    · exact kept.trans ((onlyChanges_offer _ _).mono (by decide))

theorem onlyChanges_abandon (s : State) (c : AbandonCause) :
    s.onlyChanges ([.tsrdy] ++ sealFields) (s.abandon c) := by
  unfold State.abandon
  split
  · exact State.onlyChanges.refl _ s
  · exact ((((onlyChanges_abandonSend s c).mono (by decide)).trans
      ((onlyChanges_afterSend _ _).mono (by decide))).trans
        ((onlyChanges_tsLine _).mono (by decide))).trans
        ((onlyChanges_startTest _).mono (by decide))

/-! ### The terminal lines -/

theorem onlyChanges_wantRefresh (s : State) (t : Nat) (r : RefreshReason) :
    s.onlyChanges tellFields (s.wantRefresh t r) := by
  unfold State.wantRefresh
  dsimp only
  split
  · exact State.onlyChanges.refl _ s
  · split
    · exact (onlyChanges_offer _ _).mono (by decide)
    · exact (onlyChanges_putTerminal _ _ _).mono (by decide)

theorem onlyChanges_reofferRefresh (s : State) (t : Nat) :
    s.onlyChanges tellFields (s.reofferRefresh t) := by
  unfold State.reofferRefresh
  split
  · exact State.onlyChanges.refl _ s
  · split
    · exact ((onlyChanges_offer _ _).mono (by decide)).trans
        ((onlyChanges_putTerminal _ _ _).mono (by decide))
    · exact State.onlyChanges.refl _ s

/-- What darkness may touch (R90). -/
def darkFields : List Field := [.stories, .freeBlocks] ++ tellFields

theorem onlyChanges_releaseHeld (c : CopyCause) (t : Nat) (s : State) (n : Nat) :
    s.onlyChanges darkFields (State.releaseHeld c t s n) :=
  (((onlyChanges_releaseInPlace _ _).mono (by decide)).trans
    ((onlyChanges_dropHold _ _ _).mono (by decide))).trans
      ((onlyChanges_tellChange _ _ _ _).mono (by decide))

theorem onlyChanges_goDark (s : State) (t : Nat) : s.onlyChanges darkFields (s.goDark t) :=
  ((((onlyChanges_putTerminal _ _ _).mono (by decide)).trans
    (State.onlyChanges.foldl _ (onlyChanges_releaseHeld _ _) _ _)).trans
      ((onlyChanges_discardFrames _ _ _).mono (by decide))).trans
        ((onlyChanges_offer _ _).mono (by decide))

theorem onlyChanges_countMiss (s : State) (t : Nat) (r : Terminal) (f : Liveness) :
    s.onlyChanges darkFields (s.countMiss t r f) := by
  unfold State.countMiss
  split
  · exact ((onlyChanges_putTerminal _ _ _).mono (by decide)).trans (onlyChanges_goDark _ _)
  · exact (onlyChanges_putTerminal _ _ _).mono (by decide)

theorem onlyChanges_miss (s : State) (t : Nat) : s.onlyChanges darkFields (s.miss t) := by
  unfold State.miss
  dsimp only
  split
  all_goals first
    | exact State.onlyChanges.refl _ s
    | exact onlyChanges_countMiss _ _ _ _

theorem onlyChanges_reconnect (s : State) (t : Nat) : s.onlyChanges tellFields (s.reconnect t) := by
  have told : ∀ n b, s.onlyChanges tellFields ((s.offer n).attend t b) := fun n b =>
    ((onlyChanges_offer s n).mono (by decide)).trans
      ((onlyChanges_attend (s.offer n) t b).mono (by decide))
  unfold State.reconnect
  dsimp only
  split
  · exact (told _ _).trans ((onlyChanges_putTerminal _ _ _).mono (by decide))
  · exact State.onlyChanges.refl _ s

theorem onlyChanges_goLive (s : State) (t : Nat) : s.onlyChanges tellFields (s.goLive t) :=
  (((onlyChanges_putTerminal _ _ _).mono (by decide)).trans (onlyChanges_wantRefresh _ _ _)).trans
    (onlyChanges_reconnect _ _)

theorem onlyChanges_countAnswer (s : State) (t : Nat) (r : Terminal) :
    s.onlyChanges tellFields (s.countAnswer t r) := by
  unfold State.countAnswer
  split
  · exact ((onlyChanges_putTerminal _ _ _).mono (by decide)).trans (onlyChanges_goLive _ _)
  · exact (onlyChanges_putTerminal _ _ _).mono (by decide)

theorem onlyChanges_answerLiveness (s : State) (t : Nat) :
    s.onlyChanges tellFields (s.answerLiveness t) := by
  unfold State.answerLiveness
  dsimp only
  split
  all_goals first
    | exact State.onlyChanges.refl _ s
    | exact onlyChanges_countAnswer _ _ _
    | exact ((onlyChanges_putTerminal _ _ _).mono (by decide)).trans
        (onlyChanges_reofferRefresh _ _)
    | exact (onlyChanges_putTerminal _ _ _).mono (by decide)

theorem onlyChanges_beginPoll (s : State) (l : LineId) (c d : Nat) :
    s.onlyChanges [.lines, .terminals] (s.beginPoll l c d) :=
  (onlyChanges_putLine _ _ _).mono (by decide)

theorem onlyChanges_beginCycle (s : State) (l : LineId) (c : Nat) :
    s.onlyChanges [.lines, .terminals] (s.beginCycle l c) := by
  unfold State.beginCycle
  split
  · exact onlyChanges_beginPoll _ _ _ _
  · exact (onlyChanges_putLine _ _ _).mono (by decide)

theorem onlyChanges_pollTurn (s : State) (l : LineId) :
    s.onlyChanges [.lines, .terminals] (s.pollTurn l) := by
  unfold State.pollTurn
  dsimp only
  split
  · exact onlyChanges_beginPoll _ _ _ _
  · exact onlyChanges_beginCycle _ _ _

theorem onlyChanges_beginOutput (s : State) (l : LineId) (d : Nat) :
    s.onlyChanges [.lines, .terminals] (s.beginOutput l d) := by
  unfold State.beginOutput
  dsimp only
  split
  · exact State.onlyChanges.refl _ s
  · exact ((onlyChanges_putTerminal _ _ _).mono (by decide)).trans
      ((onlyChanges_putLine _ _ _).mono (by decide))

/-- A line turn touches its line, and the attention queue or outbound list it takes a frame from. -/
theorem onlyChanges_lineTurn (s : State) (l : LineId) :
    s.onlyChanges [.lines, .terminals] (s.lineTurn l) := by
  unfold State.lineTurn
  split
  · split
    · exact onlyChanges_beginOutput _ _ _
    · exact onlyChanges_pollTurn _ _
  · exact onlyChanges_pollTurn _ _

theorem onlyChanges_refuseRequest (s : State) (t : Nat) (q : RequestKind) (c : Code)
    (n d : Option Nat) : s.onlyChanges [.terminals] (s.refuseRequest t q c n d) :=
  onlyChanges_attend _ _ _

theorem onlyChanges_done (s : State) (t : Nat) (q : RequestKind) (n : Nat) (m : Bool) :
    s.onlyChanges [.terminals] (s.done t q n m) := onlyChanges_attend _ _ _

/-! ### The store link -/

theorem onlyChanges_endStoreLost (s : State) :
    s.onlyChanges ([.storeLost, .terminals] ++ pageFields) s.endStoreLost := by
  unfold State.endStoreLost
  split
  · refine State.onlyChanges.trans ?_ ((onlyChanges_startTest _).mono (by decide))
    refine State.onlyChanges.trans ?_ ((onlyChanges_attendAll _ _ _).mono (by decide))
    intro f hf; cases f <;> first | rfl | exact absurd (by decide) hf
  · exact State.onlyChanges.refl _ s

theorem onlyChanges_hearFrame (s : State) :
    s.onlyChanges (frameFields ++ [.storeLost, .terminals] ++ pageFields) s.hearFrame := by
  refine State.onlyChanges.trans ?_ ((onlyChanges_endStoreLost _).mono (by decide))
  intro f hf; cases f <;> first | rfl | exact absurd (by decide) hf

/-- A valid frame that arrives while the part listens is judged in the state the frame left (R177). -/
theorem takeFrame_of_listening (s : State) (h : s.listening) (kind : Byte) (body : List Byte)
    (fits : body.length ≤ 1040) (judge : State → State) :
    s.takeFrame kind body judge = judge s.heard := by
  obtain ⟨h1, h2⟩ := h
  simp [State.takeFrame, Nat.not_lt.2 fits, h1, State.hearFrame, State.endStoreLost, h2,
    State.heard, State.after]

end Sys2Proof.Machine
end

