-- ==== Sys2Proof/Laws/Lists.lean ====
section
/-! SUPPORT. What the operations on baskets, attention queues and outbound lists do to the counts that the
invariants bound: one lemma for each. -/

namespace Sys2Proof.Machine

/-! ### Baskets (R25) -/

@[simp] theorem Basket.count_join (b : Basket) (n : Nat) (flash : Bool) :
    (b.join n flash).count = b.count + 1 := by
  cases flash <;> simp [Basket.join, Basket.count] <;> omega

theorem Basket.count_leave_le (b : Basket) (n : Nat) : (b.leave n).count ≤ b.count :=
  Nat.add_le_add (List.length_filter_le ..) (List.length_filter_le ..)

/-- A story joins a basket that is not full without going above the desk's capacity. -/
theorem count_join_le (s : State) (d n : Nat) (flash : Bool) (h : s.basketFull d = false) :
    ((s.basket d).join n flash).count ≤ (s.desk d).capacity := by
  rw [Basket.count_join]
  simpa [State.basketFull] using h

/-! ### Attention queues (R120) -/

theorem joinAttention_length (q : List Attention) (b : AttentionBody) (h : q.length ≤ 4) :
    (joinAttention q b).length = min (q.length + 1) 4 := by
  unfold joinAttention
  split <;> simp <;> omega

/-! ### Open frames (R105, R107, R108) -/

theorem replaceOpen_of_all_closed (g : OutFrame) (fs : List OutFrame)
    (h : fs.filter OutFrame.isOpen = []) : replaceOpen g fs = fs := by
  induction fs with
  | nil => rfl
  | cons f rest ih =>
    cases hf : f.isOpen <;> simp_all [replaceOpen]

/-- Replacing the open frame never adds an open frame. -/
theorem replaceOpen_open_le (g : OutFrame) (fs : List OutFrame) :
    ((replaceOpen g fs).filter OutFrame.isOpen).length ≤ (fs.filter OutFrame.isOpen).length := by
  induction fs with
  | nil => exact Nat.le_refl _
  | cons f rest ih =>
    cases hf : f.isOpen <;> cases hg : g.isOpen <;> simp [replaceOpen, hf, hg] <;> omega

/-- A new screen takes its place on a list from which every open frame has gone. -/
theorem no_open_after_supersede (form : Form) (fs : List OutFrame) :
    (fs.filter (fun f => !supersededBy form f)).filter OutFrame.isOpen = [] := by
  rw [List.filter_filter, List.filter_eq_nil_iff]
  intro f _
  cases hf : f.isOpen <;> simp [supersededBy, hf]

theorem filter_open_le (keep : OutFrame → Bool) (fs : List OutFrame) :
    ((fs.filter keep).filter OutFrame.isOpen).length ≤ (fs.filter OutFrame.isOpen).length := by
  rw [List.filter_comm]
  exact List.length_filter_le ..

end Sys2Proof.Machine
end

