-- ==== Sys2Proof/Laws/PerInstr.lean ====
section
/-! SUPPORT. A law of every command as syntax, one lemma for each constructor: what a well-formed command is
carried in fits its link. -/

namespace Sys2Proof.Laws

/-- A well-formed command's store link frame has a body of at most 1,040 bytes (R174), and its answer frame
an address of a drop and a body of at most 80 bytes (R78, R199). -/
def FrameBodyFits.Statement (i : Instr) : Prop :=
  i.wellFormed = true →
    (∀ kind body, i.frame? = some (kind, body) → body.length ≤ 1040) ∧
      ∀ l drop kind body, i.answer? = some (l, drop, kind, body) → drop < 24 ∧ body.length ≤ 80

/-- A command that arrives in a store link frame. -/
theorem FrameBodyFits.ofFrame {i : Instr} {k : Byte} {b : List Byte} (hf : i.frame? = some (k, b))
    (ha : i.answer? = none) (h : i.wellFormed = true → b.length ≤ 1040) :
    FrameBodyFits.Statement i := by
  refine fun w => ⟨fun kind body e => ?_, fun l drop kind body e => ?_⟩
  · cases hf.symm.trans e; exact h w
  · cases ha.symm.trans e

/-- A command that arrives in an answer. -/
theorem FrameBodyFits.ofAnswer {i : Instr} {l : LineId} {d : Nat} {k : Byte} {b : List Byte}
    (hf : i.frame? = none) (ha : i.answer? = some (l, d, k, b))
    (h : i.wellFormed = true → d < 24 ∧ b.length ≤ 80) : FrameBodyFits.Statement i := by
  refine fun w => ⟨fun kind body e => ?_, fun l drop kind body e => ?_⟩
  · cases hf.symm.trans e
  · cases ha.symm.trans e; exact h w

/-- A command that arrives in no frame. -/
theorem FrameBodyFits.ofEvent {i : Instr} (hf : i.frame? = none) (ha : i.answer? = none) :
    FrameBodyFits.Statement i := by
  refine fun _ => ⟨fun kind body e => ?_, fun l drop kind body e => ?_⟩
  · cases hf.symm.trans e
  · cases ha.symm.trans e

theorem FrameBodyFits.idle (body : List Byte) :
    FrameBodyFits.Statement (.idle body) :=
  FrameBodyFits.ofFrame rfl rfl fun h => of_decide_eq_true h

theorem FrameBodyFits.run (body : List Byte) :
    FrameBodyFits.Statement (.run body) :=
  FrameBodyFits.ofFrame rfl rfl fun h => of_decide_eq_true h

theorem FrameBodyFits.restart (body : List Byte) :
    FrameBodyFits.Statement (.restart body) :=
  FrameBodyFits.ofFrame rfl rfl fun h => of_decide_eq_true h

theorem FrameBodyFits.ackRestart (body : List Byte) :
    FrameBodyFits.Statement (.ackRestart body) :=
  FrameBodyFits.ofFrame rfl rfl fun h => of_decide_eq_true h

theorem FrameBodyFits.loadDesk (body : List Byte) :
    FrameBodyFits.Statement (.loadDesk body) :=
  FrameBodyFits.ofFrame rfl rfl fun h => of_decide_eq_true h

theorem FrameBodyFits.loadRoute (body : List Byte) :
    FrameBodyFits.Statement (.loadRoute body) :=
  FrameBodyFits.ofFrame rfl rfl fun h => of_decide_eq_true h

theorem FrameBodyFits.loadDiversion (body : List Byte) :
    FrameBodyFits.Statement (.loadDiversion body) :=
  FrameBodyFits.ofFrame rfl rfl fun h => of_decide_eq_true h

theorem FrameBodyFits.loadTerminal (body : List Byte) :
    FrameBodyFits.Statement (.loadTerminal body) :=
  FrameBodyFits.ofFrame rfl rfl fun h => of_decide_eq_true h

theorem FrameBodyFits.setPressure (body : List Byte) :
    FrameBodyFits.Statement (.setPressure body) :=
  FrameBodyFits.ofFrame rfl rfl fun h => of_decide_eq_true h

theorem FrameBodyFits.reseed (body : List Byte) :
    FrameBodyFits.Statement (.reseed body) :=
  FrameBodyFits.ofFrame rfl rfl fun h => of_decide_eq_true h

theorem FrameBodyFits.setTiming (body : List Byte) :
    FrameBodyFits.Statement (.setTiming body) :=
  FrameBodyFits.ofFrame rfl rfl fun h => of_decide_eq_true h

theorem FrameBodyFits.setReporting (body : List Byte) :
    FrameBodyFits.Statement (.setReporting body) :=
  FrameBodyFits.ofFrame rfl rfl fun h => of_decide_eq_true h

theorem FrameBodyFits.read (body : List Byte) :
    FrameBodyFits.Statement (.read body) :=
  FrameBodyFits.ofFrame rfl rfl fun h => by
    simp only [Instr.wellFormed, Bool.and_eq_true] at h
    exact of_decide_eq_true h.1

theorem FrameBodyFits.readStatus (rest : List Byte) :
    FrameBodyFits.Statement (.readStatus rest) :=
  FrameBodyFits.ofFrame rfl rfl fun h => of_decide_eq_true h

theorem FrameBodyFits.announce (body : List Byte) :
    FrameBodyFits.Statement (.announce body) :=
  FrameBodyFits.ofFrame rfl rfl fun h => of_decide_eq_true h

theorem FrameBodyFits.revise (body : List Byte) :
    FrameBodyFits.Statement (.revise body) :=
  FrameBodyFits.ofFrame rfl rfl fun h => of_decide_eq_true h

theorem FrameBodyFits.purge (body : List Byte) :
    FrameBodyFits.Statement (.purge body) :=
  FrameBodyFits.ofFrame rfl rfl fun h => of_decide_eq_true h

theorem FrameBodyFits.move (body : List Byte) :
    FrameBodyFits.Statement (.move body) :=
  FrameBodyFits.ofFrame rfl rfl fun h => of_decide_eq_true h

theorem FrameBodyFits.pull (body : List Byte) :
    FrameBodyFits.Statement (.pull body) :=
  FrameBodyFits.ofFrame rfl rfl fun h => of_decide_eq_true h

theorem FrameBodyFits.screen (body : List Byte) :
    FrameBodyFits.Statement (.screen body) :=
  FrameBodyFits.ofFrame rfl rfl fun h => by
    simp only [Instr.wellFormed, Bool.and_eq_true] at h
    exact of_decide_eq_true h.1

theorem FrameBodyFits.screenContinuation (body : List Byte) :
    FrameBodyFits.Statement (.screenContinuation body) :=
  FrameBodyFits.ofFrame rfl rfl fun h => by
    simp only [Instr.wellFormed, Bool.and_eq_true] at h
    exact of_decide_eq_true h.1

theorem FrameBodyFits.planEdition (body : List Byte) :
    FrameBodyFits.Statement (.planEdition body) :=
  FrameBodyFits.ofFrame rfl rfl fun h => of_decide_eq_true h

theorem FrameBodyFits.startEdition (body : List Byte) :
    FrameBodyFits.Statement (.startEdition body) :=
  FrameBodyFits.ofFrame rfl rfl fun h => of_decide_eq_true h

theorem FrameBodyFits.closeEdition (body : List Byte) :
    FrameBodyFits.Statement (.closeEdition body) :=
  FrameBodyFits.ofFrame rfl rfl fun h => of_decide_eq_true h

theorem FrameBodyFits.sealEdition (body : List Byte) :
    FrameBodyFits.Statement (.sealEdition body) :=
  FrameBodyFits.ofFrame rfl rfl fun h => of_decide_eq_true h

theorem FrameBodyFits.makePage (body : List Byte) :
    FrameBodyFits.Statement (.makePage body) :=
  FrameBodyFits.ofFrame rfl rfl fun h => of_decide_eq_true h

theorem FrameBodyFits.place (body : List Byte) :
    FrameBodyFits.Statement (.place body) :=
  FrameBodyFits.ofFrame rfl rfl fun h => of_decide_eq_true h

theorem FrameBodyFits.lift (body : List Byte) :
    FrameBodyFits.Statement (.lift body) :=
  FrameBodyFits.ofFrame rfl rfl fun h => of_decide_eq_true h

theorem FrameBodyFits.release (body : List Byte) :
    FrameBodyFits.Statement (.release body) :=
  FrameBodyFits.ofFrame rfl rfl fun h => of_decide_eq_true h

theorem FrameBodyFits.replate (body : List Byte) :
    FrameBodyFits.Statement (.replate body) :=
  FrameBodyFits.ofFrame rfl rfl fun h => of_decide_eq_true h

theorem FrameBodyFits.dropPage (body : List Byte) :
    FrameBodyFits.Statement (.dropPage body) :=
  FrameBodyFits.ofFrame rfl rfl fun h => of_decide_eq_true h

theorem FrameBodyFits.typesetMode (body : List Byte) :
    FrameBodyFits.Statement (.typesetMode body) :=
  FrameBodyFits.ofFrame rfl rfl fun h => of_decide_eq_true h

theorem FrameBodyFits.abortSend (body : List Byte) :
    FrameBodyFits.Statement (.abortSend body) :=
  FrameBodyFits.ofFrame rfl rfl fun h => of_decide_eq_true h

theorem FrameBodyFits.pageData (body : List Byte) :
    FrameBodyFits.Statement (.pageData body) :=
  FrameBodyFits.ofFrame rfl rfl fun h => of_decide_eq_true h

theorem FrameBodyFits.unknownOrder (kind : Byte) (body : List Byte) :
    FrameBodyFits.Statement (.unknownOrder kind body) :=
  FrameBodyFits.ofFrame rfl rfl fun h => by
    simp only [Instr.wellFormed, Bool.and_eq_true] at h
    exact of_decide_eq_true h.1

theorem FrameBodyFits.frameLengthOver (kind : Byte) :
    FrameBodyFits.Statement (.frameLengthOver kind) :=
  FrameBodyFits.ofEvent rfl rfl

theorem FrameBodyFits.frameBadCheck (kind : Byte) :
    FrameBodyFits.Statement (.frameBadCheck kind) :=
  FrameBodyFits.ofEvent rfl rfl

theorem FrameBodyFits.powerOn :
    FrameBodyFits.Statement (.powerOn) :=
  FrameBodyFits.ofEvent rfl rfl

theorem FrameBodyFits.rstinRelease :
    FrameBodyFits.Statement (.rstinRelease) :=
  FrameBodyFits.ofEvent rfl rfl

theorem FrameBodyFits.fullRestart :
    FrameBodyFits.Statement (.fullRestart) :=
  FrameBodyFits.ofEvent rfl rfl

theorem FrameBodyFits.warmRestart :
    FrameBodyFits.Statement (.warmRestart) :=
  FrameBodyFits.ofEvent rfl rfl

theorem FrameBodyFits.noticeFrameEnd :
    FrameBodyFits.Statement (.noticeFrameEnd) :=
  FrameBodyFits.ofEvent rfl rfl

theorem FrameBodyFits.pageCallOwedOffered :
    FrameBodyFits.Statement (.pageCallOwedOffered) :=
  FrameBodyFits.ofEvent rfl rfl

theorem FrameBodyFits.storeSilenceExpiry :
    FrameBodyFits.Statement (.storeSilenceExpiry) :=
  FrameBodyFits.ofEvent rfl rfl

theorem FrameBodyFits.pollFrameSent (line : LineId) :
    FrameBodyFits.Statement (.pollFrameSent line) :=
  FrameBodyFits.ofEvent rfl rfl

theorem FrameBodyFits.nil (line : LineId) (drop : Nat) (kind : Byte) (body : List Byte) :
    FrameBodyFits.Statement (.nil line drop kind body) :=
  FrameBodyFits.ofAnswer rfl rfl fun h => by
    simp only [Instr.wellFormed, Bool.and_eq_true] at h
    exact ⟨of_decide_eq_true h.1.1.1, of_decide_eq_true h.1.1.2⟩

theorem FrameBodyFits.keys (line : LineId) (drop : Nat) (bytes : List Byte) :
    FrameBodyFits.Statement (.keys line drop bytes) :=
  FrameBodyFits.ofAnswer rfl rfl fun h => by
    simp only [Instr.wellFormed, Bool.and_eq_true] at h
    exact ⟨of_decide_eq_true h.1, of_decide_eq_true h.2⟩

theorem FrameBodyFits.get (line : LineId) (drop : Nat) (args : List Byte) :
    FrameBodyFits.Statement (.get line drop args) :=
  FrameBodyFits.ofAnswer rfl rfl fun h => by
    simp only [Instr.wellFormed, Bool.and_eq_true, beq_iff_eq] at h
    exact ⟨of_decide_eq_true h.1, by rw [List.length_cons, h.2]; decide⟩

theorem FrameBodyFits.getNext (line : LineId) (drop : Nat) (args : List Byte) :
    FrameBodyFits.Statement (.getNext line drop args) :=
  FrameBodyFits.ofAnswer rfl rfl fun h => by
    simp only [Instr.wellFormed, Bool.and_eq_true, beq_iff_eq] at h
    exact ⟨of_decide_eq_true h.1, by rw [List.length_cons, h.2]; decide⟩

theorem FrameBodyFits.send (line : LineId) (drop : Nat) (args : List Byte) :
    FrameBodyFits.Statement (.send line drop args) :=
  FrameBodyFits.ofAnswer rfl rfl fun h => by
    simp only [Instr.wellFormed, Bool.and_eq_true, beq_iff_eq] at h
    exact ⟨of_decide_eq_true h.1, by rw [List.length_cons, h.2]; decide⟩

theorem FrameBodyFits.returnStory (line : LineId) (drop : Nat) (args : List Byte) :
    FrameBodyFits.Statement (.returnStory line drop args) :=
  FrameBodyFits.ofAnswer rfl rfl fun h => by
    simp only [Instr.wellFormed, Bool.and_eq_true, beq_iff_eq] at h
    exact ⟨of_decide_eq_true h.1, by rw [List.length_cons, h.2]; decide⟩

theorem FrameBodyFits.spike (line : LineId) (drop : Nat) (args : List Byte) :
    FrameBodyFits.Statement (.spike line drop args) :=
  FrameBodyFits.ofAnswer rfl rfl fun h => by
    simp only [Instr.wellFormed, Bool.and_eq_true, beq_iff_eq] at h
    exact ⟨of_decide_eq_true h.1, by rw [List.length_cons, h.2]; decide⟩

theorem FrameBodyFits.pullRequest (line : LineId) (drop : Nat) (args : List Byte) :
    FrameBodyFits.Statement (.pullRequest line drop args) :=
  FrameBodyFits.ofAnswer rfl rfl fun h => by
    simp only [Instr.wellFormed, Bool.and_eq_true, beq_iff_eq] at h
    exact ⟨of_decide_eq_true h.1, by rw [List.length_cons, h.2]; decide⟩

theorem FrameBodyFits.view (line : LineId) (drop : Nat) (args : List Byte) :
    FrameBodyFits.Statement (.view line drop args) :=
  FrameBodyFits.ofAnswer rfl rfl fun h => by
    simp only [Instr.wellFormed, Bool.and_eq_true, beq_iff_eq] at h
    exact ⟨of_decide_eq_true h.1, by rw [List.length_cons, h.2]; decide⟩

theorem FrameBodyFits.back (line : LineId) (drop : Nat) (args : List Byte) :
    FrameBodyFits.Statement (.back line drop args) :=
  FrameBodyFits.ofAnswer rfl rfl fun h => by
    simp only [Instr.wellFormed, Bool.and_eq_true, beq_iff_eq] at h
    exact ⟨of_decide_eq_true h.1, by rw [List.length_cons, h.2]; decide⟩

theorem FrameBodyFits.list (line : LineId) (drop : Nat) (args : List Byte) :
    FrameBodyFits.Statement (.list line drop args) :=
  FrameBodyFits.ofAnswer rfl rfl fun h => by
    simp only [Instr.wellFormed, Bool.and_eq_true, beq_iff_eq] at h
    exact ⟨of_decide_eq_true h.1, by rw [List.length_cons, h.2]; decide⟩

theorem FrameBodyFits.watch (line : LineId) (drop : Nat) (args : List Byte) :
    FrameBodyFits.Statement (.watch line drop args) :=
  FrameBodyFits.ofAnswer rfl rfl fun h => by
    simp only [Instr.wellFormed, Bool.and_eq_true, beq_iff_eq] at h
    exact ⟨of_decide_eq_true h.1, by rw [List.length_cons, h.2]; decide⟩

theorem FrameBodyFits.unwatch (line : LineId) (drop : Nat) (args : List Byte) :
    FrameBodyFits.Statement (.unwatch line drop args) :=
  FrameBodyFits.ofAnswer rfl rfl fun h => by
    simp only [Instr.wellFormed, Bool.and_eq_true, beq_iff_eq] at h
    exact ⟨of_decide_eq_true h.1, by rw [List.length_cons, h.2]; decide⟩

theorem FrameBodyFits.badAnswerFrame (line : LineId) :
    FrameBodyFits.Statement (.badAnswerFrame line) :=
  FrameBodyFits.ofEvent rfl rfl

theorem FrameBodyFits.pollWindowExpiry (line : LineId) :
    FrameBodyFits.Statement (.pollWindowExpiry line) :=
  FrameBodyFits.ofEvent rfl rfl

theorem FrameBodyFits.idleWaitExpiry (line : LineId) :
    FrameBodyFits.Statement (.idleWaitExpiry line) :=
  FrameBodyFits.ofEvent rfl rfl

theorem FrameBodyFits.outputFrameEnd (line : LineId) :
    FrameBodyFits.Statement (.outputFrameEnd line) :=
  FrameBodyFits.ofEvent rfl rfl

theorem FrameBodyFits.nudgeExpiry (story : Nat) :
    FrameBodyFits.Statement (.nudgeExpiry story) :=
  FrameBodyFits.ofEvent rfl rfl

theorem FrameBodyFits.samplePeriod :
    FrameBodyFits.Statement (.samplePeriod) :=
  FrameBodyFits.ofEvent rfl rfl

theorem FrameBodyFits.tsrdyAsserted :
    FrameBodyFits.Statement (.tsrdyAsserted) :=
  FrameBodyFits.ofEvent rfl rfl

theorem FrameBodyFits.galleyBlockEnd (tsrdy : Bool) :
    FrameBodyFits.Statement (.galleyBlockEnd tsrdy) :=
  FrameBodyFits.ofEvent rfl rfl

theorem FrameBodyFits.dataTimerExpiry :
    FrameBodyFits.Statement (.dataTimerExpiry) :=
  FrameBodyFits.ofEvent rfl rfl

theorem FrameBodyFits.waitTimerExpiry :
    FrameBodyFits.Statement (.waitTimerExpiry) :=
  FrameBodyFits.ofEvent rfl rfl

theorem FrameBodyFits.unknownRequest (line : LineId) (drop : Nat) (body : List Byte) :
    FrameBodyFits.Statement (.unknownRequest line drop body) :=
  FrameBodyFits.ofAnswer rfl rfl fun h => by
    simp only [Instr.wellFormed, Bool.and_eq_true] at h
    exact ⟨of_decide_eq_true h.1.1, of_decide_eq_true h.1.2⟩

end Sys2Proof.Laws
end

