-- ==== Sys2Proof/Tests/Slice0.lean ====
section
/-! SUPPORT. Tests of single steps on small states, with results worked out from the manual's rules and worked
examples, the checks of WellFormed, and for every statement with hypotheses a state and operands that
meet them. -/

namespace Sys2Proof.Tests

open Sys2Proof Sys2Proof.Machine

/-! ### Small states -/

/-- A desk in use with capacity 3 and T = 60 s. -/
def deskIn : Desk := { Desk.initial with inUse := true, name := [0x4E], capacity := 3, t := 60 }

/-- A LIVE terminal of desk 0. -/
def seat (role : Role) : Terminal :=
  { Terminal.initial with configured := true, desk := 0, role := role, liveness := .live }

/-- A RUNNING part: story 0 FILED and story 1 HELD by terminal 0 in desk 0's basket, story 2 SET,
terminals 0 (EDITOR) and 1 (CHIEF, watching story 1) LIVE, terminal 2 DARK, and line A awaiting
terminal 0's answer. -/
def room : State :=
  { State.reset with
    part := .running, sampleTimer := some 5000, desks := [(0, deskIn), (1, deskIn)],
    stories :=
      [(0, some { Story.blank with slug := [0x41], nudgeDue := some 60000 }),
       (1, some { Story.blank with slug := [0x42], state := .held, holder := some 0 }),
       (2, some { Story.blank with slug := [0x43], state := .set })],
    baskets := [(0, { flash := [], ordinary := [0, 1] })],
    routes := [(0, .desk 1 :: List.replicate 15 .none)],
    terminals :=
      [(0, { seat .editor with holds := [1], views := [1, 0] }),
       (1, { seat .chief with watches := [1] }),
       (2, { seat .writer with liveness := .dark, wasDark := true, missCount := 3 })],
    lines :=
      { State.reset.lines with
        a := { Line.initial with activity := .awaiting 0 20 .hunt, position := some 0 } } }

/-- The page in record 0 of `pageRoomOf`. -/
def pageOne (ps : PageState) : Page :=
  { Page.blank with edition := 1, number := 1, placement := [2], state := ps }

/-- The page in record 1 of `pageRoomOf`. -/
def pageTwo : Page := { Page.blank with edition := 1, number := 2 }

/-- A RUNNING part with story 2 SET on page 1 of edition 1, in record 0 with state `ps`. Edition 1 has two
pages in one section and is RUNNING, or CLOSED with edition 2 RUNNING; its page 2 is OPEN in record 1 if
`second` says so. -/
def pageRoomOf (ps : PageState) (closed second : Bool) : State :=
  { State.reset with
    part := .running, sampleTimer := some 5000, desks := [(0, deskIn)],
    stories := [(2, some { Story.blank with slug := [0x43], state := .set, page := some 0 })],
    editions :=
      (1, { Edition.initial with
            state := if closed then .closed else .running, planned := 2, size := 2,
            allowance := 2, counter := if closed then 2 else 0,
            slots :=
              [{ code := ps.slot, replates := 0 },
               { code := if second then .opened else .empty, replates := 0 }] }) ::
        (if closed then
          [(2, { Edition.initial with
                 state := .running, planned := 1, size := 1,
                 slots := [{ code := .empty, replates := 0 }] })]
        else []),
    pages := (0, some (pageOne ps)) :: (if second then [(1, some pageTwo)] else []),
    typesetter :=
      { Typesetter.initial with
        cancel := none, waiting := false, waitTimer := none,
        firstTier := if ps = .queued then [0] else [],
        send := if ps = .sending then some (Send.initial 0) else none } }

/-- `pageRoomOf` with edition 1 RUNNING and no second page. -/
abbrev pageRoom (ps : PageState) : State := pageRoomOf ps false false

/-- The state after a command; every command answers a next state. -/
def after (c : Instr) (s : State) : State :=
  match exec c s with
  | .next t => t
  | .fault f => nomatch f
  | .refused _ => s

/-- Line A waits for the answer of drop `d`. -/
def awaiting (s : State) (d : Nat) : State :=
  s.putLine .a { s.line .a with activity := .awaiting d 20 .hunt }

/-! ### The small states meet the invariants -/

/-- Stories, baskets and holds agree in `room`. -/
theorem room_stories_stand : room.storiesStand where
  canonical := by decide
  filed := by
    intro d n
    by_cases hd : d = 0
    · subst hd
      by_cases h0 : n = 0
      · subst h0; simp [State.basket, State.story?, room, Table.get, Basket.all, Story.blank]
      · by_cases h1 : n = 1
        · subst h1; simp [State.basket, State.story?, room, Table.get, Basket.all, Story.blank]
        · by_cases h2 : n = 2
          · subst h2; simp [State.basket, State.story?, room, Table.get, Basket.all, Story.blank]
          · simp [State.basket, State.story?, room, Table.get, Basket.all, h0, h1, h2]
    · have hb : (room.basket d).all = [] := by simp [State.basket, room, Table.get, hd, Basket.initial, Basket.all]
      rw [hb]
      constructor
      · intro h; cases h
      · rintro ⟨st, h, hdesk, -⟩
        exfalso
        simp only [State.story?, room, Table.get] at h
        split at h <;> [skip; split at h <;> [skip; split at h]]
        all_goals first | (cases h; exact hd hdesk.symm) | (simp at h)
  once := by
    intro d
    by_cases hd : d = 0
    · subst hd; decide
    · simp [State.basket, room, Table.get, hd, Basket.initial, Basket.all]
  held := by
    intro n st h
    simp only [State.story?, room, Table.get] at h
    split at h <;> [skip; split at h <;> [skip; split at h]]
    all_goals first | (cases h; decide) | (simp at h)
  holds := by
    intro x n
    by_cases h1 : n = 1
    · subst h1
      by_cases hx : x = 0
      · subst hx; simp [State.terminal, State.story?, room, Table.get, Story.blank]
      · have : (room.terminal x).holds = [] := by
          simp only [State.terminal, room, Table.get, hx, if_false]
          split <;> [rfl; split <;> rfl]
        rw [this]
        simpa [State.story?, room, Table.get, Story.blank] using Ne.symm hx
    · have hx : n ∉ (room.terminal x).holds := by
        simp only [State.terminal, room, Table.get]
        split <;> [simpa using h1; split <;> [exact List.not_mem_nil; split <;> exact List.not_mem_nil]]
      simp only [hx, false_iff, not_exists, not_and]
      intro st h
      simp only [State.story?, room, Table.get] at h
      rw [if_neg h1] at h
      split at h <;> [skip; split at h]
      all_goals first | (cases h; simp [Story.blank]) | (simp at h)
  holdsOnce := by
    intro x
    simp only [State.terminal, room, Table.get]
    split <;> [decide; split <;> [decide; split <;> decide]]
  awake := by
    intro x
    simp only [State.terminal, room, Table.get]
    split <;> [decide; split <;> [decide; split <;> decide]]
  configured := by
    intro x
    simp only [State.terminal, room, Table.get]
    split <;> [decide; split <;> [decide; split <;> decide]]

/-- The timers of `room` are as its part state has them. -/
theorem room_timers_kept : room.timersKept where
  sample := by decide
  silence := by decide
  due := by
    intro n st h
    simp only [State.story?, room, Table.get] at h
    split at h <;> [skip; split at h <;> [skip; split at h]]
    all_goals first | (cases h; decide) | (simp at h)
  counts := by
    intro n st h
    simp only [State.story?, room, Table.get] at h
    split at h <;> [skip; split at h <;> [skip; split at h]]
    all_goals first | (cases h; decide) | (simp at h)
  limits := by
    intro d
    simp only [State.desk, room, Table.get]
    split <;> [decide; split <;> decide]

/-- The pages of `pageRoomOf`. -/
theorem pageRoom_page {ps : PageState} {c b : Bool} {r : Nat} {p : Page}
    (h : (pageRoomOf ps c b).page? r = some p) :
    (r = 0 ∧ p = pageOne ps) ∨ (b = true ∧ r = 1 ∧ p = pageTwo) := by
  simp only [State.page?, pageRoomOf, Table.get] at h
  split at h
  · cases h; exact .inl ⟨‹_›, rfl⟩
  · cases b
    · cases h
    · simp only [if_true, Table.get] at h
      split at h
      · cases h; exact .inr ⟨rfl, ‹_›, rfl⟩
      · cases h

/-- The one story of `pageRoomOf`. -/
theorem pageRoom_story {ps : PageState} {c b : Bool} {n : Nat} {st : Story}
    (h : (pageRoomOf ps c b).story? n = some st) :
    n = 2 ∧ st = { Story.blank with slug := [0x43], state := .set, page := some 0 } := by
  simp only [State.story?, pageRoomOf, Table.get] at h
  split at h
  · cases h; exact ⟨‹_›, rfl⟩
  · cases h

/-- The records from 2 on are free in `pageRoomOf`. -/
theorem pageRoom_free {ps : PageState} {c b : Bool} {r : Nat} (h0 : r ≠ 0) (h1 : r ≠ 1) :
    (pageRoomOf ps c b).page? r = none := by
  cases b <;> simp [State.page?, pageRoomOf, Table.get, h0, h1]

/-- Pages and stories agree in `pageRoomOf`. -/
theorem pageRoom_pages_stand (ps : PageState) (c b : Bool) : (pageRoomOf ps c b).pagesStand where
  canonical := by cases ps <;> cases b <;> cases c <;> decide
  inRange := by
    intro r p h
    obtain ⟨rfl, rfl⟩ | ⟨-, rfl, rfl⟩ := pageRoom_page h <;>
      cases ps <;> cases c <;> cases b <;> decide
  distinct := by
    intro r q p o hr hq _ hn
    obtain ⟨rfl, rfl⟩ | ⟨-, rfl, rfl⟩ := pageRoom_page hr <;>
      obtain ⟨rfl, rfl⟩ | ⟨-, rfl, rfl⟩ := pageRoom_page hq <;> first | rfl | cases hn
  alive := by
    intro r p h
    obtain ⟨rfl, rfl⟩ | ⟨-, rfl, rfl⟩ := pageRoom_page h <;>
      cases c <;> first | exact .inr (.inl rfl) | exact .inr (.inr rfl)
  slots := by
    intro e
    simp only [State.edition, pageRoomOf, Table.get]
    cases c <;> simp only [if_true, if_false, Bool.false_eq_true, Table.get] <;>
      split <;> first | rfl | (split <;> rfl)
  sized := by
    intro e
    simp only [State.edition, pageRoomOf, Table.get]
    cases c <;> simp only [if_true, if_false, Bool.false_eq_true, Table.get] <;>
      split <;> first | exact .inr (by simp) | exact .inl rfl |
        (split <;> first | exact .inr (by simp) | exact .inl rfl)
  listed := by
    intro r p h
    obtain ⟨rfl, rfl⟩ | ⟨-, rfl, rfl⟩ := pageRoom_page h
    · simp [State.story?, pageRoomOf, Table.get, Story.blank, pageOne]
    · exact ⟨by decide, by decide, fun n h => absurd h List.not_mem_nil⟩
  placed := by
    intro n st r h hp
    obtain ⟨rfl, rfl⟩ := pageRoom_story h
    cases hp
    exact ⟨pageOne ps, rfl, by simp [pageOne]⟩
  first := by
    intro r
    by_cases h0 : r = 0
    · subst h0; cases ps <;> simp [State.page?, pageRoomOf, Table.get, pageOne, Page.blank]
    · by_cases h1 : r = 1
      · subst h1
        cases ps <;> cases b <;> simp [State.page?, pageRoomOf, Table.get, pageTwo, Page.blank]
      · rw [pageRoom_free h0 h1]
        cases ps <;> simp [pageRoomOf, h0]
  replate := by
    intro r
    by_cases h0 : r = 0
    · subst h0
      simp [State.page?, pageRoomOf, Table.get, pageOne, Page.blank, Typesetter.initial]
    · by_cases h1 : r = 1
      · subst h1
        cases b <;>
          simp [State.page?, pageRoomOf, Table.get, pageTwo, Page.blank, Typesetter.initial]
      · rw [pageRoom_free h0 h1]
        simp [pageRoomOf, Typesetter.initial]
  once := by cases ps <;> cases c <;> cases b <;> decide
  sending := by
    intro r
    by_cases h0 : r = 0
    · subst h0
      cases ps <;> simp [State.page?, pageRoomOf, Table.get, pageOne, Page.blank, Send.initial]
    · by_cases h1 : r = 1
      · subst h1
        cases ps <;> cases b <;>
          simp [State.page?, pageRoomOf, Table.get, pageTwo, Page.blank, Send.initial]
      · rw [pageRoom_free h0 h1]
        cases ps <;> simp [pageRoomOf, Send.initial, Ne.symm h0]
  room := by cases ps <;> cases c <;> cases b <;> decide

/-- Stories, baskets and holds agree in `pageRoomOf`. -/
theorem pageRoom_stories_stand (ps : PageState) (c b : Bool) :
    (pageRoomOf ps c b).storiesStand where
  canonical := rfl
  filed := by
    intro d n
    refine ⟨fun h => (List.not_mem_nil h).elim, ?_⟩
    rintro ⟨st, h, -, hs⟩
    obtain ⟨rfl, rfl⟩ := pageRoom_story h
    rcases hs with hs | hs <;> cases hs
  once := fun _ => List.nodup_nil
  held := by
    intro n st h
    obtain ⟨rfl, rfl⟩ := pageRoom_story h
    decide
  holds := by
    intro x n
    refine ⟨fun h => (List.not_mem_nil h).elim, ?_⟩
    rintro ⟨st, h, hs⟩
    obtain ⟨rfl, rfl⟩ := pageRoom_story h
    cases hs
  holdsOnce := fun _ => List.nodup_nil
  awake := fun _ h => absurd rfl h
  configured := fun _ => ⟨fun h => (Bool.false_ne_true h).elim, fun h => absurd rfl h⟩

/-- What `pagesStand` looks at: a state that shares it stands too. -/
theorem pages_stand_of {s t : State} (h : s.pagesStand) (hp : t.pages = s.pages)
    (hs : t.stories = s.stories) (hf : t.typesetter.firstTier = s.typesetter.firstTier)
    (hr : t.typesetter.replateTier = s.typesetter.replateTier)
    (hx : t.typesetter.send = s.typesetter.send)
    (he : ∀ e, (t.edition e).state = (s.edition e).state ∧
      (t.edition e).planned = (s.edition e).planned ∧ (t.edition e).size = (s.edition e).size ∧
      (t.edition e).slots = (s.edition e).slots) : t.pagesStand := by
  have page : ∀ r, t.page? r = s.page? r := fun r => by rw [State.page?, hp]; rfl
  have story : ∀ n, t.story? n = s.story? n := fun n => by rw [State.story?, hs]; rfl
  obtain ⟨a, b, c, d, e, f, g, i, j, k, l, m, n⟩ := h
  constructor <;> simp only [page, story, hp, hf, hr, hx, fun e => (he e).1, fun e => (he e).2.1,
    fun e => (he e).2.2.1, fun e => (he e).2.2.2] <;> assumption

/-- `pageRoomOf` with the first edition CLOSED, every counter 0, and every mark `pending`. -/
def closedOf (ps : PageState) (second pending : Bool) : State :=
  { pageRoomOf ps true second with
    editions := (pageRoomOf ps true second).editions.map (fun y =>
      (y.1, { y.2 with counter := 0, sealPending := pending })) }

theorem closed_pages_stand (ps : PageState) (b p : Bool) : (closedOf ps b p).pagesStand := by
  refine pages_stand_of (pageRoom_pages_stand ps true b) rfl rfl rfl rfl rfl fun e => ?_
  simp only [State.edition, closedOf]
  generalize (pageRoomOf ps true b).editions = tab
  induction tab with
  | nil => exact ⟨rfl, rfl, rfl, rfl⟩
  | cons y rest ih =>
    simp only [List.map_cons, Table.get]
    split
    · exact ⟨rfl, rfl, rfl, rfl⟩
    · exact ih

/-! ### Witnesses: states and operands that meet the hypotheses of the statements -/

theorem test_witness_step :
    ({ room with pending := [.run []] } : State).pending = .run [] :: [] := rfl

theorem test_witness_idle_step :
    room.pending = [] ∧ room.skrx = [] ∧ room.lnrx = [] ∧
      ({ room with skrx := [0x5A] } : State).skrx = 0x5A :: [] ∧
      (({ room with lnrx := [(.a, 0x5A)] } : State).lnrx = (.a, 0x5A) :: [] ∧
        (room.line .a).activity = .awaiting 0 20 .hunt) ∧
      ∀ drop due f, (room.line .b).activity ≠ .awaiting drop due f :=
  ⟨rfl, rfl, rfl, rfl, ⟨rfl, rfl⟩, fun _ _ _ h => by cases h⟩

theorem test_witness_hunt_drops :
    room.pending = [] ∧ room.framer = .hunt ∧
      ({ room with skrx := [0x59] } : State).skrx = 0x59 :: [] ∧ (0x59 : Byte) ≠ 0x5A := by decide

/-- A part whose notice queue, basket, attention queue, frames and pressure values stand at their bounds. -/
def crowded : State :=
  { room with
    queue := List.replicate 64 (.restarted .pin),
    desks := [(0, { deskIn with capacity := 2 }), (1, { deskIn with capacity := 128 })],
    pressures := [(0, { Pressure.initial with load := 255, baseline := 65280 })],
    terminals :=
      [(0, { seat .editor with
             holds := [1, 3, 4, 5], views := [1, 3, 4, 5, 0, 1, 0, 1], watches := [0, 1, 2, 3],
             attentions := List.replicate 4 { body := .storeBack, earlierLost := true },
             outbound := [.screen .delta [] false, .screen .delta [] true] })] }

theorem test_witness_bounded :
    crowded.bounded ∧ crowded.pressureInRange ∧ (crowded.basketsFit ∧
      (crowded.basket 0).count = (crowded.desk 0).capacity) ∧ crowded.oneOpenFrame ∧
      ∃ t, step crowded = .next t := by
  refine ⟨⟨by decide, fun t => ?_⟩, fun d => ?_, ⟨fun d => ?_, by decide⟩, fun x => ?_, _, rfl⟩
  · simp only [State.terminal, crowded, Table.get]
    split <;> decide
  · simp only [State.pressure, crowded, Table.get]
    split <;> decide
  · by_cases h0 : d = 0
    · subst h0; decide
    · by_cases h1 : d = 1
      · subst h1; decide
      · simp [State.basket, State.desk, crowded, room, Table.get, h0, h1, Basket.count,
          Basket.initial, Desk.initial]
  · simp only [State.terminal, crowded, Table.get]
    split <;> decide

/-- A part with a listing of one block on its way down line B and a screen of two blocks waiting. -/
def stored : State :=
  { room with
    freeBlocks := 253,
    terminals :=
      [(0, { seat .editor with outbound := [.screen .delta (List.replicate 65 0x20) false] })],
    lines :=
      { room.lines with
        b := { Line.initial with
               activity := .output 24 (.frame (.listing
                 { desk := 0, start := 0, basketCount := 0, entries := [] })) } } }

theorem test_witness_frame_store :
    stored.frameStoreWhole ∧ ∃ t, step stored = .next t := by
  refine ⟨⟨by decide, by decide, fun x => ?_, fun x => ?_⟩, _, rfl⟩ <;>
    simp only [State.terminal, stored, Table.get] <;> split <;> decide

theorem test_witness_canonical : room.canonical ∧ ∃ t, step room = .next t := by
  refine ⟨⟨by decide, by decide, by decide, by decide, by decide, by decide, by decide, by decide,
    by decide⟩, _, rfl⟩

theorem test_witness_timers :
    room.timersKept ∧ room.storiesStand ∧ ∃ t, step room = .next t :=
  ⟨room_timers_kept, room_stories_stand, _, rfl⟩

/-- A part sending page 0 with a galley buffer of `n` bytes and the call state `c`. -/
def galley (n : Nat) (c : CallState) : State :=
  (pageRoom .sending).putSend
    { Send.initial 0 with
      expected := 16777215, call := c, buffer := List.replicate n 0,
      dataTimer := if c = .outstanding then some 30000 else none }

theorem test_witness_galley :
    ((galley 2048 .none).galleyFits ∧ ∃ t, step (galley 2048 .none) = .next t) ∧
      (galley 1024 .outstanding).galleyFits ∧
        ∃ t, step (galley 1024 .outstanding) = .next t := by
  refine ⟨⟨?_, _, rfl⟩, ?_, _, rfl⟩ <;>
    · intro x hx
      cases hx
      simp only [List.length_replicate]
      decide

theorem test_witness_framer_delivers :
    (List.replicate 1040 (0 : Byte)).length ≤ 1040 ∧ ([] : List Byte).length ≤ 1040 ∧
      nat2 0 1 ≠ checkSum (0x03 :: be2 ([] : List Byte).length ++ []) ∧
      (List.replicate 80 (0 : Byte)).length ≤ 80 ∧
      nat2 0 1 ≠ checkSum (0x61 :: 5 :: be2 ([] : List Byte).length ++ []) :=
  ⟨Nat.le_of_eq List.length_replicate, by decide, by decide, by decide, by decide⟩

theorem test_witness_oversize :
    1040 < (4 : Byte).toNat * 256 + (0x11 : Byte).toNat ∧
      (0 : Byte).toNat * 256 + (0 : Byte).toNat = 0 ∧
      (4 : Byte).toNat * 256 + (0x10 : Byte).toNat = 1040 ∧
      (0 : Byte).toNat * 256 + (1 : Byte).toNat = 1 ∧
      80 < (0 : Byte).toNat * 256 + (81 : Byte).toNat ∧
      (0 : Byte).toNat * 256 + (80 : Byte).toNat = 80 := by decide

theorem test_witness_read_back :
    (Instr.move [1, 0xA1, 5, 1]).wellFormed = true ∧
      (Instr.move [1, 0xA1, 5, 1]).frame? = some (0x11, [1, 0xA1, 5, 1]) ∧
      (Instr.get .b 7 [1, 0xA1]).wellFormed = true ∧
      (Instr.get .b 7 [1, 0xA1]).answer? = some (.b, 7, 0x63, [1, 1, 0xA1]) := by decide

theorem test_witness_valid_frames :
    (Instr.run []).frame? = some (Kind.run, []) ∧ ([] : List Byte).length ≤ 1040 ∧
      ({ room with restartPending := some .warm } : State).restartPending.isSome = true ∧
      room.storeLost = false ∧ room.restartPending = none ∧
      ({ room with storeLost := true, silenceTimer := none } : State).storeLost = true ∧
      (let both : State := { room with storeLost := true, restartPending := some .full };
        both.storeLost = true ∧ both.restartPending.isSome = true) := by decide

theorem room_listening : room.listening := ⟨rfl, rfl⟩

theorem test_witness_bad_frames :
    room.listening ∧ (List.replicate 1040 (0 : Byte)).length ≤ 1040 ∧
      (Instr.run (List.replicate 1040 0)).frame? = some (Kind.run, List.replicate 1040 0) ∧
      (Instr.run (List.replicate 1040 0)).lengthFits = false ∧
      (Instr.loadDesk [0, 1, 9, 0xFF, 60, 2, 3, 1]).lengthFits = false ∧
      (Instr.loadDesk [0, 1, 9, 0xFF, 60, 2, 3, 1, 0x43]).lengthFits = true ∧
      ((Instr.loadTerminal [95]).frame? = some (0x08, 95 :: []) ∧
        (Instr.loadTerminal [95]).lengthFits = false) ∧
      ((Instr.purge [3, 255, 0]).frame? = some (0x10, 3 :: 255 :: [0]) ∧
        (Instr.purge [3, 255, 0]).lengthFits = false) := by
  refine ⟨room_listening, Nat.le_of_eq List.length_replicate, rfl, ?_, by decide, by decide,
    by decide, by decide⟩
  rw [Instr.lengthFits, List.length_replicate]
  rfl

/-- A COPY EVENT. -/
def copyNotice : Notice := .copyEvent .held 0 .held 0 0 .order [] none

/-- A part whose notice queue has `n` free entries. -/
def withFree (n : Nat) : State := { room with queue := List.replicate (64 - n) (.restarted .pin) }

theorem test_witness_admission :
    copyNotice.noticeClass = .report .copy ∧
      ({ room with reporting := { room.reporting with copy := false } } : State).reporting.enabled
        .copy = false ∧
      room.reporting.enabled .copy = true ∧ 64 - (withFree 7).queue.length < 8 ∧
      8 ≤ 64 - (withFree 8).queue.length ∧ (withFree 8).sending.isSome = true ∧
      (Notice.keys 0 [1]).noticeClass = .traffic ∧ 64 - (withFree 0).queue.length < 1 ∧
      1 ≤ 64 - (withFree 1).queue.length ∧
      (Notice.status room.status).noticeClass = .answer ∧
      ({ room with sending := none } : State).sending = none ∧ room.restartPending = none ∧
      room.queue = [] := by decide

theorem test_witness_frame_end :
    room.sending = some (.restarted .power) ∧ room.restartPending = none ∧ room.queue = [] ∧
      (withFree 63).queue = .restarted .pin :: [] ∧
      ({ room with restartPending := some .full } : State).restartPending = some .full ∧
      ({ room with restartPending := some .warm } : State).restartPending = some .warm ∧
      ({ room with sending := none } : State).sending = none := by decide

theorem test_witness_settings :
    room.listening ∧ ¬ 15 < (15 : Byte).toNat ∧ 15 < (16 : Byte).toNat :=
  ⟨room_listening, by decide, by decide⟩

theorem test_witness_run_idle :
    room.listening ∧ room.part = .running ∧ State.reset.listening ∧
      State.reset.part = .loading := ⟨room_listening, rfl, ⟨rfl, rfl⟩, rfl⟩

theorem test_witness_restart :
    room.listening ∧ room.sending = some (.restarted .power) ∧
      ({ room with sending := none } : State).listening ∧
      ({ room with sending := none } : State).sending = none ∧ (2 : Byte) ≠ 0 ∧ (2 : Byte) ≠ 1 :=
  ⟨room_listening, rfl, ⟨rfl, rfl⟩, rfl, by decide, by decide⟩

/-- TSRDY as the part was last told of it, and whether it has fallen since. -/
abbrev told (level fell : Bool) : Ready := { asserted := level, falls := [fell] }

/-- The part finds TSRDY asserted when it judges it. -/
abbrev State.findsReady (s : State) : Bool := s.tsrdy.asserted && !(s.tsrdy.falls.headD false)

theorem test_witness_cold :
    (Instr.powerOn = .powerOn ∧ RestartCause.power = .power) ∧
      (Instr.rstinRelease = .rstinRelease ∧ RestartCause.pin = .pin) ∧
      State.findsReady room = false ∧
      State.findsReady { room with tsrdy := told true true } = false ∧
      State.findsReady { room with tsrdy := told true false } = true ∧
      (({ room with restartPending := some .full } : State).restartPending = some .full ∧
        ({ room with restartPending := some .full } : State).sending.isSome = true) ∧
      (({ room with sending := none } : State).listening ∧
        ({ room with sending := none } : State).sending = none) := by
  refine ⟨by decide, by decide, by decide, by decide, by decide, ⟨rfl, rfl⟩, ⟨rfl, rfl⟩, rfl⟩

/-- Page 0 SENDING, with TSRDY as `r` says, the reporting flags of the last clause of the statement of an
abandon, and a second, OPEN page in its section if `b` says so. -/
def sendingRoom (r b : Bool) : State :=
  { pageRoomOf .sending false b with
    tsrdy := told true (!r), reporting := { Reporting.initial with page := false } }

theorem sendingRoom_pages_stand (r b : Bool) : (sendingRoom r b).pagesStand :=
  pages_stand_of (pageRoom_pages_stand .sending false b) rfl rfl rfl rfl rfl
    fun _ => ⟨rfl, rfl, rfl, rfl⟩

/-- The page of record 1 stands OPEN in the section of the page of record 0. -/
theorem second_page_open (s : State) (h : s.pages = (pageRoomOf .sending false true).pages) :
    ∃ r q, s.page? r = some q ∧ q.edition = 1 ∧
      (q.number - 1) / 2 = ((pageOne .sending).number - 1) / 2 ∧
      (q.state = .opened ∨ q.state = .armed) :=
  ⟨1, pageTwo, by rw [State.page?, h]; rfl, rfl, by decide, .inl rfl⟩

theorem test_witness_warm :
    (Table.wf Terminal.initial room.terminals = true ∧ room.typesetter.send = none) ∧
      (∀ r b, (sendingRoom r b).typesetter.send = some (Send.initial 0) ∧
        (sendingRoom r b).page? 0 = some (pageOne .sending) ∧ (sendingRoom r b).pagesStand ∧
        State.findsReady (sendingRoom r b) = r ∧
        Table.wf Terminal.initial (sendingRoom r b).terminals = true) ∧
      (∃ r q, (sendingRoom true true).page? r = some q ∧ q.edition = 1 ∧
        (q.number - 1) / 2 = ((pageOne .sending).number - 1) / 2 ∧
        (q.state = .opened ∨ q.state = .armed)) ∧
      ((closedOf .sending false true).pagesStand ∧
        (closedOf .sending false true).typesetter.send = some (Send.initial 0) ∧
        (closedOf .sending false true).page? 0 = some (pageOne .sending) ∧
        ((closedOf .sending false true).edition 1).sealPending = true) ∧
      (((room.terminal (terminalOf .a 0)).configured = true) ∧
        ∀ d, (room.terminal (terminalOf .b d)).configured = false) := by
  refine ⟨by decide, fun r b => ⟨rfl, rfl, sendingRoom_pages_stand r b, by cases r <;> rfl, rfl⟩,
    second_page_open _ rfl, ⟨closed_pages_stand .., rfl, rfl, rfl⟩, rfl, fun d => ?_⟩
  have h : ∀ k, k < 3 → ¬ terminalOf .b d = k := by simp only [terminalOf, lineIndex]; omega
  simp [State.terminal, room, Table.get, h 0, h 1, h 2, Terminal.initial]

theorem test_witness_silence :
    room.silenceTimer = some 5000 ∧ Table.wf Terminal.initial room.terminals = true ∧
      room.typesetter.send = none ∧
      ({ room with silenceTimer := none } : State).silenceTimer = none := by decide

theorem test_witness_reads :
    room.listening ∧ (8 : Byte) ≠ 9 ∧ (10 : Byte) ≠ 9 := ⟨room_listening, by decide, by decide⟩

/-- The parameters of the City desk in the worked examples of chapter 4. -/
def cityParams : PressureParams := { PressureParams.initial with quietBeta := 5 }

/-- A desk's pressure state with a load of 0 and no mark. -/
def atBaseline (b : Nat) (x : SurgeState) (count : Nat) : Pressure :=
  { load := 0, baseline := b, surge := x, count := count, reseedPending := false }

theorem test_witness_sample :
    let enter := 256 * 2 + 2560 * 64 / 256
    (atBaseline 2560 .calm 0).surge = .calm ∧ (enter : Int) < 256 * 16 - 2560 ∧
      (256 * (10 : Int) - 2560 ≤ enter) ∧
      (atBaseline 2752 .rising 1).surge = .rising ∧ (atBaseline 2752 .surge 2).surge = .surge ∧
      (atBaseline 2752 .easing 1).surge = .easing ∧
      ((256 * (13 : Int) - 2752) < 600 ∧ (600 : Int) ≤ 256 * 14 - 2752) ∧
      (256 * (4 : Int) - 1024 = 0) ∧ cityParams.hold = true ∧
      ({ cityParams with hold := false } : PressureParams).hold = false := by decide

theorem test_witness_sample_period :
    room.sampleTimer = some 5000 ∧ room.countdown = none ∧
      ({ room with countdown := some 1 } : State).countdown = some (0 + 1) ∧
      room.reporting.pressure = true ∧ room.sending.isSome = true ∧
      (withFree 25).queue.length + 25 ≤ 64 := by decide

theorem test_witness_load_desk :
    room.listening ∧ ([0x43, 0x49] : List Byte).length = (2 : Byte).toNat :=
  ⟨room_listening, by decide⟩

theorem test_witness_load_route :
    room.listening ∧ (List.replicate 16 (15 : Byte)).length = 16 ∧ 31 < (32 : Byte).toNat ∧
      (∃ x ∈ List.replicate 16 (16 : Byte), ¬ (x.toNat ≤ 15 ∨ x = 0xFE ∨ x = 0xFF)) ∧
      (31 : Byte).toNat ≤ 31 ∧
      (∀ x ∈ List.replicate 16 (15 : Byte), x.toNat ≤ 15 ∨ x = 0xFE ∨ x = 0xFF) :=
  ⟨room_listening, by decide, by decide, by decide, by decide, by decide⟩

theorem test_witness_load_diversion :
    room.listening ∧
      (7 < (8 : Byte).toNat ∨ ((1 : Byte) ≠ 0 ∧ 15 < (0 : Byte).toNat)) ∧
      ¬ (7 < (7 : Byte).toNat ∨ ((1 : Byte) ≠ 0 ∧ (15 < (0 : Byte).toNat ∨
        15 < (15 : Byte).toNat ∨ (0 : Byte) = 15 ∨ ((1 : Byte) ≠ 0 ∧ (1 : Byte) ≠ 1) ∨
        ((31 : Byte) ≠ 0xFF ∧ 31 < (31 : Byte).toNat)))) :=
  ⟨room_listening, by decide, by decide⟩

/-- A value in a table that lists the numbers below `n`. -/
theorem get_range {α : Type} (d : α) (f : Nat → α) (n k : Nat) :
    Table.get d ((List.range n).map (fun i => (i, f i))) k = if k < n then f k else d := by
  suffices h : ∀ a, Table.get d ((List.range' a n).map (fun i => (i, f i))) k =
      if a ≤ k ∧ k < a + n then f k else d by
    simpa [List.range_eq_range'] using h 0
  induction n with
  | zero => intro a; have : ¬ (a ≤ k ∧ k < a + 0) := by omega
            simp only [this, if_false]; rfl
  | succ n ih =>
    intro a
    simp only [List.range'_succ, List.map_cons, Table.get, ih]
    by_cases h : k = a
    · subst h; simp
    · have : (a + 1 ≤ k ∧ k < a + 1 + n) ↔ (a ≤ k ∧ k < a + (n + 1)) := by omega
      simp only [h, if_false]
      exact if_congr this rfl rfl

/-- A part with every story number in use. -/
def fullRoom : State :=
  { room with stories := (List.range 1024).map (fun i => (i, some Story.blank)) }

theorem test_witness_announce :
    room.listening ∧ ([0x41] : List Byte).length = (1 : Byte).toNat ∧ 31 < (32 : Byte).toNat ∧
      (15 : Byte).toNat ≤ 15 ∧ (31 : Byte).toNat ≤ 31 ∧ (room.desk 2).inUse = false ∧
      (room.desk 1).inUse = true ∧ room.story? 3 = none ∧
      (∀ j, j < 3 → room.story? j ≠ none) ∧ fullRoom.listening ∧ (fullRoom.desk 1).inUse = true ∧
      (∀ k, k < 1024 → fullRoom.story? k ≠ none) := by
  refine ⟨room_listening, by decide, by decide, by decide, by decide, by decide, by decide,
    by decide, by decide, ⟨rfl, rfl⟩, by decide, fun k hk => ?_⟩
  simp [State.story?, fullRoom, get_range, hk]

theorem test_witness_move_pull : room.listening := room_listening

theorem test_witness_revise_purge :
    room.listening ∧ ([] : List Byte).length = (0 : Byte).toNat ∧ 1023 < 4 * 256 ∧
      room.story? 3 = none ∧
      (room.story? 1 = some (room.story 1) ∧ (room.story 1).state = .held) ∧
      ((pageRoom .opened).story? 2 = some ((pageRoom .opened).story 2) ∧
        ((pageRoom .opened).story 2).state ≠ .held ∧
        ((pageRoom .opened).story 2).page.isSome = true) ∧
      (room.story? 0 = some (room.story 0) ∧ (room.story 0).state ≠ .held ∧
        (room.story 0).page = none ∧ Table.wf Terminal.initial room.terminals = true) :=
  ⟨room_listening, by decide⟩

theorem test_witness_watchers : Table.wf Terminal.initial room.terminals = true := by decide

theorem room_hears : room.hears .a 0 := ⟨⟨20, .hunt, rfl⟩, .inl rfl⟩

theorem room_hears_chief : (awaiting room 1).hears .a 1 := ⟨⟨20, .hunt, rfl⟩, .inl rfl⟩

/-- `room` with terminal 0 in another liveness and wake count. -/
def roomWith (l : Liveness) (w : Nat) : State :=
  room.putTerminal 0 { room.terminal 0 with liveness := l, wakeCount := w }

/-- The answers of a FAINT terminal, and of a WAKING one at its last answer but one, are heard too. -/
theorem test_witness_hears :
    (roomWith .faint 0).hears .a 0 ∧ (roomWith .waking 1).hears .a 0 :=
  ⟨⟨⟨20, .hunt, rfl⟩, .inr (.inl rfl)⟩, ⟨⟨20, .hunt, rfl⟩, .inr (.inr ⟨rfl, by decide⟩)⟩⟩

theorem test_witness_get :
    room.hears .a 0 ∧ room.inService ∧
      (∀ m ∈ (room.basket ((room.answered .a 0).terminal 0).desk).all, room.story? m ≠ none) :=
  ⟨room_hears, ⟨rfl, rfl⟩, by decide⟩

theorem test_witness_send : room.hears .a 0 ∧ room.part = .running := ⟨room_hears, rfl⟩

/-- `room` with terminal 0 a WRITER. -/
def writerRoom : State :=
  room.putTerminal 0 { room.terminal 0 with role := .writer }

theorem test_witness_return_spike_pull :
    room.hears .a 0 ∧ room.part = .running ∧ (0xFF == (0xFF : Byte)) = true ∧
      ((4 : Byte) == 0xFF) = false ∧ 1023 < (4 : Byte).toNat * 256 + (0 : Byte).toNat ∧
      (((awaiting room 1).answered .a 1).terminal 1).views.head? = none ∧
      room.story? 1023 = none ∧
      (((room.answered .a 0).terminal 0).views.head? = some 1 ∧
        room.story? 1 = some (room.story 1) ∧ (room.story 1).state = .held ∧
        (room.story 1).holder = some 0 ∧ (room.story 1).page = none ∧
        ((room.answered .a 0).terminal 0).role ≠ .writer) ∧
      ((pageRoom .opened).story 2).page.isSome = true ∧
      (room.story? 0 = some (room.story 0) ∧ (room.story 0).state = .filed ∧
        (room.story 0).desk = ((room.answered .a 0).terminal 0).desk ∧
        ((room.answered .a 0).terminal 0).role ≠ .chief) ∧
      ((awaiting room 1).hears .a 1 ∧ (((awaiting room 1).answered .a 1).terminal 1).desk = 0 ∧
        (((awaiting room 1).answered .a 1).terminal 1).role = .chief) ∧
      (room.story? 2 = some (room.story 2) ∧ (room.story 2).state = .set) ∧
      (writerRoom.hears .a 0 ∧ ((writerRoom.answered .a 0).terminal 0).role = .writer) :=
  ⟨room_hears, by decide, by decide, by decide, by decide, by decide, by decide, by decide,
    by decide, by decide, ⟨room_hears_chief, by decide, by decide⟩, by decide,
    ⟨⟨20, .hunt, rfl⟩, .inl rfl⟩, by decide⟩

theorem test_witness_stories_stand : room.storiesStand ∧ ∃ t, step room = .next t :=
  ⟨room_stories_stand, _, rfl⟩

theorem test_witness_load_terminal : room.listening := room_listening

/-- Terminal `d` of line A has pending output, as the statement of the line turn says it. -/
def pendingAt (s : State) (d : Nat) : Prop :=
  d < 24 ∧ (s.terminal (terminalOf .a d)).configured = true ∧
    ((s.terminal (terminalOf .a d)).attentions ≠ [] ∨
      ∃ f rest, (s.terminal (terminalOf .a d)).outbound = f :: rest ∧ f.isOpen = false)

/-- A part in which terminal 0 alone is configured, with the record `r`. -/
def alone (r : Terminal) : State := { room with terminals := [(0, r)] }

theorem pendingAt_alone {r : Terminal} {d : Nat} (h : pendingAt (alone r) d) : d = 0 := by
  obtain ⟨-, hc, -⟩ := h
  by_cases hd : d = 0
  · exact hd
  · simp [State.terminal, alone, Table.get, terminalOf, lineIndex, hd, Terminal.initial] at hc

/-- A terminal with an attention, and one with a closed screen. -/
def spoken : Terminal :=
  { seat .editor with attentions := [{ body := .storeBack, earlierLost := false }] }
def screened : Terminal := { seat .editor with outbound := [.screen .refresh [0x41] false] }

theorem test_witness_line_serves :
    (room.line .a).lastOutput ≤ 23 ∧ (room.line .a).outputCount < (room.line .a).allowance ∧
      (pendingAt (alone spoken) 0 ∧ pendingAt (alone screened) 0) ∧
      (∀ e, pendingAt (alone spoken) e → ((alone spoken).pressure 0).surge ≠ .surge) ∧
      (∀ e, pendingAt (alone spoken) e → (0 + 23 - 23) % 24 ≤ (e + 23 - 23) % 24) ∧
      ((alone spoken).terminal 0).attentions = { body := .storeBack, earlierLost := false } :: [] ∧
      ((alone screened).terminal 0).attentions = [] ∧
      ((alone screened).terminal 0).outbound = .screen .refresh [0x41] false :: [] := by
  refine ⟨by decide, by decide, ⟨⟨by decide, by decide, .inl (by decide)⟩,
    ⟨by decide, by decide, .inr ⟨_, _, rfl, rfl⟩⟩⟩, fun _ _ => by decide, fun e _ => by omega, rfl,
    rfl, rfl⟩

/-- Line A of `room` polled last at `p`, in the cycle `c`. -/
def polled (p c : Nat) : State :=
  room.putLine .a { room.line .a with position := some p, cycle := c }

theorem not_pending (d : Nat) : ¬ pendingAt room d := by
  rintro ⟨-, -, h⟩
  rcases h with h | ⟨f, rest, h, -⟩
  · revert h
    simp only [State.terminal, room, Table.get]
    split <;> [decide; split <;> [decide; split <;> decide]]
  · revert h
    simp only [State.terminal, room, Table.get]
    split <;> [(intro h; cases h); split <;> [(intro h; cases h); split <;> (intro h; cases h)]]

theorem test_witness_line_polls :
    (∀ d, ¬ pendingAt room d) ∧
      (({ room.line .a with outputCount := 2 } : Line).allowance ≤ 2) ∧
      (((polled 0 1).terminal 1).configured = true ∧ ((polled 0 1).terminal 1).liveness ≠ .dark ∧
        ∀ p, ((polled 0 1).line .a).position = some p → p < 1) ∧
      ((polled 0 0).terminal 2).liveness = .dark ∧
      (∀ p, ((polled 23 7).line .a).position = some p → ¬ p < 2) ∧
      (((polled 23 7).line .a).cycle + 1) % 8 = 0 ∧
      (∀ d, ((State.reset).terminal (terminalOf .a d)).configured ≠ true) := by
  refine ⟨not_pending, by decide, ⟨by decide, by decide, ?_⟩, by decide, ?_, by decide,
    fun _ => Bool.false_ne_true⟩
  · intro p h; cases h; decide
  · intro p h; cases h; decide

/-- `room` with line A in another activity. -/
def lineDoing (a : Activity) : State := room.putLine .a { room.line .a with activity := a }

theorem test_witness_line_events :
    ((lineDoing (.sendingPoll 0)).line .a).activity = .sendingPoll 0 ∧
      (room.line .a).activity = .awaiting 0 20 .hunt ∧
      ((lineDoing (.output 0 (.attention { body := .storeBack, earlierLost := false }))).line
        .a).activity = .output 0 (.attention { body := .storeBack, earlierLost := false }) ∧
      ((lineDoing (.idleWait 20)).line .a).activity = .idleWait 20 := ⟨rfl, rfl, rfl, rfl⟩

/-- `room` with terminal 0 FAINT after two misses, and line A's dark limit 3. -/
def fading : State :=
  room.putTerminal 0 { room.terminal 0 with liveness := .faint, missCount := 2 }

theorem test_witness_misses :
    (room.terminal 3).liveness = .absent ∧ (room.terminal 2).liveness = .dark ∧
      ((room.terminal 0).liveness ≠ .absent ∧ (room.terminal 0).liveness ≠ .dark ∧
        1 < (room.line (lineOf 0)).darkLimit) ∧
      ((fading.terminal 0).liveness ≠ .absent ∧ (fading.terminal 0).liveness ≠ .dark ∧
        (fading.line (lineOf 0)).darkLimit ≤ (fading.terminal 0).missCount + 1) ∧
      (fading.terminal 0).holds.Nodup ∧ (fading.terminal 0).holds.length ≤ 4 ∧
      (∀ n, n ∈ (fading.terminal 0).holds ↔
        ∃ st, fading.story? n = some st ∧ st.holder = some 0) ∧
      fading.reporting.copy = true ∧ fading.reporting.terminal = true ∧
      fading.sending.isSome = true ∧ fading.queue.length + 13 ≤ 64 ∧
      (Table.wf Terminal.initial fading.terminals = true ∧
        (fading.terminal 1).watches = (fading.terminal 0).holds) :=
  ⟨by decide, by decide, by decide, by decide, by decide, by decide,
    fun n => room_stories_stand.holds 0 n, by decide, by decide, by decide, by decide, by decide⟩

/-- The watcher of a story released by darkness is told. -/
theorem test_dark_tells_watchers :
    ((fading.miss 0).terminal 1).attentions =
      [{ body := .watch .released 1 0 0, earlierLost := false }] := by decide

/-- A part in which terminal 0 alone is configured, WAKING or DARK with a wake count. -/
def waking (l : Liveness) (w : Nat) : State :=
  alone { seat .editor with liveness := l, wakeCount := w, wasDark := l == .dark }

/-- A part in which terminal 0 alone is configured and is owed a REFRESH WANTED. -/
def owing (l : Liveness) : State :=
  alone { seat .editor with liveness := l, wakeCount := 1, refreshOwed := some .degrade }

theorem test_witness_answers_live :
    (room.terminal 3).liveness = .absent ∧
      ((room.terminal 0).liveness = .live ∧ (room.terminal 0).refreshOwed = none) ∧
      (((owing .live).terminal 0).refreshOwed = some .degrade ∧ (owing .live).queue.length < 64) ∧
      ((owing .faint).terminal 0).liveness = .faint ∧ ¬ (withFree 0).queue.length < 64 ∧
      (((waking .waking 0).terminal 0).wakeCount + 1 < ((waking .waking 0).line .a).wakeNeeded) ∧
      (((waking .waking 1).line .a).wakeNeeded ≤ ((waking .waking 1).terminal 0).wakeCount + 1 ∧
        ((waking .waking 1).terminal 0).refreshOwed = none ∧
        ((waking .waking 1).terminal 0).wasDark = false) ∧
      (((owing .waking).line .a).wakeNeeded ≤ ((owing .waking).terminal 0).wakeCount + 1 ∧
        ((owing .waking).terminal 0).refreshOwed = some .degrade) ∧
      (((waking .dark 0).terminal 0).wasDark = true ∧
        ((waking .dark 0).putLine .a { room.line .a with wakeNeeded := 1 }).lines.a.wakeNeeded ≤
          1) := by
  decide

theorem test_witness_answers_acted :
    (Instr.keys .a 0 [0x41]).answer? = some (.a, 0, keysKind, [0x41]) ∧
      (List.replicate 80 (0 : Byte)).length ≤ 80 ∧ ((awaiting room 2).line .a).activity =
        .awaiting 2 20 .hunt ∧ ((awaiting room 2).terminal 2).liveness = .dark ∧
      (((waking .waking 0).terminal 0).liveness = .waking ∧
        ((waking .waking 0).terminal 0).wakeCount + 1 <
          ((waking .waking 0).line (lineOf 0)).wakeNeeded) ∧
      (Instr.unknownRequest .a 0 [12]).answer? = some (.a, 0, requestKind, [12]) ∧
      (Instr.unknownRequest .a 0 []).answer? = some (.a, 0, requestKind, []) ∧
      (Instr.unknownRequest .a 0 [1, 0]).wellFormed = true ∧
      (Instr.get .a 0 [0, 0]).wellFormed = true ∧
      (Instr.get .a 0 [0, 0]).answer? = some (.a, 0, requestKind, [1, 0, 0]) ∧
      (([1, 0, 0] : List Byte).getD 0 0).toNat ∈ [1, 2, 3, 4] ∧
      ({ room with part := .loading } : State).part = .loading ∧
      ({ room with storeLost := true } : State).storeLost = true ∧ room.part = .running :=
  ⟨rfl, by decide, rfl, rfl, by decide, rfl, rfl, rfl, rfl, rfl, by decide, rfl, rfl, rfl⟩

theorem test_witness_answers_hear :
    room.hears .a 0 ∧ ({ room with part := .loading } : State).hears .a 0 ∧
      ({ room with storeLost := true } : State).hears .a 0 ∧
      (∀ b, Instr.get .a 0 [0, 0] ≠ .unknownRequest .a 0 b) :=
  ⟨room_hears, ⟨⟨20, .hunt, rfl⟩, .inl rfl⟩, ⟨⟨20, .hunt, rfl⟩, .inl rfl⟩, fun b h => by cases h⟩

/-- `room` with story 0 reminded twice already. -/
def reminded : State := room.modStory 0 (fun st => { st with nudgeCount := 2 })

theorem test_witness_reminders :
    State.reset.part = .loading ∧ (room.story? 2 = some (room.story 2) ∧
      (room.story 2).nudgeDue = none) ∧ room.story? 9 = none ∧
      (room.part = .running ∧ room.story? 0 = some (room.story 0) ∧
        (room.story 0).nudgeDue = some 60000 ∧
        Table.wf Terminal.initial room.terminals = true ∧
        (room.story 0).nudgeCount + 1 < (room.desk 0).r) ∧
      (reminded.story? 0 = some (reminded.story 0) ∧
        (reminded.story 0).nudgeDue = some 60000 ∧
        (reminded.desk 0).r ≤ (reminded.story 0).nudgeCount + 1) := by decide

theorem test_witness_views :
    room.hears .a 0 ∧ room.part = .running ∧ room.storeLost = false ∧
      ((room.answered .a 0).terminal 0).views = 1 :: 0 :: [] ∧ (awaiting room 1).hears .a 1 ∧
      (((awaiting room 1).answered .a 1).terminal 1).views.length < 2 :=
  ⟨room_hears, by decide, by decide, by decide, room_hears_chief, by decide⟩

/-- A LIVE terminal 0 with `n` DELTA screens of one byte waiting, and `free` blocks free. -/
def waitingScreens (n free : Nat) : State :=
  { alone { seat .editor with outbound := List.replicate n (.screen .delta [0x41] false) } with
    freeBlocks := free }

theorem test_witness_new_screen :
    room.listening ∧ (0 : Byte) = 0 ∧ ([0x41] : List Byte).length =
        (0 : Byte).toNat * 256 + (1 : Byte).toNat ∧ 95 < (96 : Byte).toNat ∧
      (95 : Byte).toNat ≤ 95 ∧ (room.terminal 95).configured = false ∧
      ((room.terminal 2).configured = true ∧ (room.terminal 2).liveness = .dark) ∧
      ((waitingScreens 4 31).freeBlocks < (waitingScreens 4 31).timing.lowWater ∧
        ((waitingScreens 4 31).pressure 0).surge ≠ .surge ∧
        4 ≤ ((waitingScreens 4 31).terminal 0).outbound.countP OutFrame.isPendingScreen) ∧
      ((waitingScreens 3 0).terminal 0).outbound.countP OutFrame.isPendingScreen < 4 ∧
      (waitingScreens 3 0).freeBlocks < 1 ∧ 1 ≤ (waitingScreens 3 1).freeBlocks :=
  ⟨room_listening, by decide⟩

/-- A LIVE terminal 0 with an open screen of `n` bytes, behind a closed one. -/
def openScreen (n : Nat) : State :=
  alone { seat .editor with
          outbound := [.screen .delta [] false, .screen .refresh (List.replicate n 0x41) true] }

/-- The open screen of `openScreen` with a listing behind it. -/
def openScreenListed (n : Nat) : State :=
  (openScreen n).appendFrame 0
    (.listing { desk := 0, start := 0, basketCount := 0, entries := [] })

theorem test_witness_continuation :
    room.listening ∧ (1 : Byte) ≠ 0 ∧ ([0x41] : List Byte).length =
        (0 : Byte).toNat * 256 + (1 : Byte).toNat ∧ 95 < (96 : Byte).toNat ∧
      (95 : Byte).toNat ≤ 95 ∧ (room.terminal 95).configured = false ∧
      (room.terminal 2).liveness = .dark ∧
      (∀ g ∈ (room.terminal 0).outbound, g.isOpen = false) ∧
      ((openScreen 2047).terminal 0).outbound =
        [.screen .delta [] false] ++ .screen .refresh (List.replicate 2047 0x41) true :: [] ∧
      (∀ g ∈ ([.screen .delta [] false] ++ [] : List OutFrame), g.isOpen = false) ∧
      ((openScreenListed 63).terminal 0).outbound =
        [.screen .delta [] false] ++ .screen .refresh (List.replicate 63 0x41) true ::
          [.listing { desk := 0, start := 0, basketCount := 0, entries := [] }] := by
  refine ⟨room_listening, by decide, by decide, by decide, by decide, by decide, by decide,
    by decide, rfl, by decide, rfl⟩

theorem test_witness_plan : room.listening := room_listening

theorem pageRoom_listening (ps : PageState) (c b : Bool) : (pageRoomOf ps c b).listening :=
  ⟨rfl, rfl⟩

theorem test_witness_editions_running :
    (pageRoom .sent).listening ∧ (pageRoom .sent).pagesStand ∧ 8 < (9 : Byte).toNat ∧
      ((pageRoom .sent).edition 1).state = .running ∧
      (∀ c, 1 ≤ c → c ≤ 8 → c ≠ 1 → ((pageRoom .sent).edition c).state ≠ .closed) ∧
      ((pageRoom .sent).edition 1).allowance ≠ 0 := by
  refine ⟨pageRoom_listening .., pageRoom_pages_stand .., by decide, by decide, ?_, by decide⟩
  intro c h1 h8 hc
  have : c = 2 ∨ c = 3 ∨ c = 4 ∨ c = 5 ∨ c = 6 ∨ c = 7 ∨ c = 8 := by omega
  rcases this with rfl | rfl | rfl | rfl | rfl | rfl | rfl <;> decide

theorem test_witness_editions_closed :
    (pageRoomOf .sent true false).listening ∧ (pageRoomOf .sent true false).pagesStand ∧
      ((pageRoomOf .sent true false).edition 2).state = .running ∧
      (((pageRoomOf .sent true false).edition 1).state = .closed ∧
        ((pageRoomOf .sent true false).edition 1).sealPending = false) ∧
      (((pageRoomOf .sent true false).heard.seal 1).evaluateJoins.pages = [] ∧
        (((pageRoomOf .sent true false).heard.seal 1).evaluateJoins.edition 2).allowance = 0 ∧
        (((pageRoomOf .sent true false).heard.seal 1).evaluateJoins.edition 2).sealPending =
          false) ∧
      (∃ r p, (pageRoomOf .sending true false).page? r = some p ∧ p.edition = 1 ∧
        p.state = .sending) ∧
      (¬ ∃ r p, (pageRoomOf .sent true false).page? r = some p ∧ p.edition = 1 ∧
        p.state = .sending) ∧
      ((pageRoomOf .sent true false).edition 3).state ≠ .closed ∧
      (let s := pageRoomOf .sending true true;
        s.listening ∧ s.pagesStand ∧ s.reporting.page = true ∧ s.sending.isSome = true ∧
          s.queue.length + 1 + 8 ≤ 64 ∧ Table.wf Terminal.initial s.terminals = true ∧
          s.page? 1 = some pageTwo ∧ pageTwo.edition = 1 ∧ pageTwo.state ≠ .sending) := by
  refine ⟨pageRoom_listening .., pageRoom_pages_stand .., by decide, by decide, by decide,
    ⟨0, _, rfl, rfl, rfl⟩, ?_, by decide, pageRoom_listening .., pageRoom_pages_stand .., rfl, rfl,
    by decide, rfl, rfl, rfl, by decide⟩
  rintro ⟨r, p, h, -, hs⟩
  obtain ⟨rfl, rfl⟩ | ⟨h, -⟩ := pageRoom_page h
  · cases hs
  · cases h

theorem test_witness_seal :
    (pageRoom .sent).pagesStand ∧
      (∀ r p, (pageRoom .sent).page? r = some p → p.edition = 1 → p.state ≠ .sending) ∧
      (pageRoom .sent).reporting.page = true ∧ (pageRoom .sent).reporting.copy = true ∧
      (pageRoom .sent).sending.isSome = true ∧ (pageRoom .sent).queue.length + 3 + 8 ≤ 64 ∧
      Table.wf Terminal.initial (pageRoom .sent).terminals = true := by
  refine ⟨pageRoom_pages_stand .., ?_, by decide, by decide, by decide, by decide, by decide⟩
  intro r p h _
  obtain ⟨rfl, rfl⟩ | ⟨h, -⟩ := pageRoom_page h
  · decide
  · cases h

/-- The page in record `r` of `fullPages`. -/
def fullPage (r : Nat) : Page := { Page.blank with edition := r / 64 + 1, number := r % 64 + 1 }

/-- A part with every page record in use by editions 1 and 2, and edition 3 PLANNED. -/
def fullPages : State :=
  { room with
    stories := [], pages := (List.range 128).map (fun r => (r, some (fullPage r))),
    editions :=
      [(1, plannedEdition 64 8 1), (2, plannedEdition 64 8 1), (3, plannedEdition 1 1 1)] }

theorem fullPages_page (r : Nat) :
    fullPages.page? r = if r < 128 then some (fullPage r) else none := by
  simp [State.page?, fullPages, get_range]

theorem fullPages_edition {r : Nat} (h : r < 128) :
    fullPages.edition (fullPage r).edition = plannedEdition 64 8 1 := by
  have : r / 64 = 0 ∨ r / 64 = 1 := by omega
  rcases this with h | h <;> simp [State.edition, fullPages, fullPage, Table.get, h]

theorem fullPages_pages_stand : fullPages.pagesStand where
  canonical := by decide
  inRange := by
    intro r p h
    rw [fullPages_page] at h
    split at h
    · rename_i hr
      cases h
      rw [fullPages_edition hr]
      exact ⟨hr, by simp [fullPage], by simp [fullPage]; omega, by simp [fullPage],
        by simp [fullPage, plannedEdition, clamp]; omega⟩
    · cases h
  distinct := by
    intro r q p o hr hq he hn
    rw [fullPages_page] at hr hq
    split at hr <;> split at hq <;> first | (cases hr; done) | (cases hq; done) | skip
    cases hr; cases hq
    simp only [fullPage] at he hn
    omega
  alive := by
    intro r p h
    rw [fullPages_page] at h
    split at h
    · rename_i hr
      cases h
      rw [fullPages_edition hr]
      exact .inl rfl
    · cases h
  slots := by
    intro e
    simp only [State.edition, fullPages, Table.get]
    split <;> [decide; split <;> [decide; split <;> decide]]
  sized := by
    intro e
    simp only [State.edition, fullPages, Table.get]
    split <;> [decide; split <;> [decide; split <;> decide]]
  listed := by
    intro r p h
    rw [fullPages_page] at h
    split at h
    · cases h; exact ⟨by simp [fullPage, Page.blank], by simp [fullPage, Page.blank],
        fun n h => absurd h List.not_mem_nil⟩
    · cases h
  placed := by
    intro n st r h
    cases h
  first := by
    intro r
    rw [fullPages_page]
    split <;> simp [fullPages, room, State.reset, Typesetter.initial, fullPage, Page.blank]
  replate := by
    intro r
    rw [fullPages_page]
    split <;> simp [fullPages, room, State.reset, Typesetter.initial, fullPage, Page.blank]
  once := by decide
  sending := by
    intro r
    rw [fullPages_page]
    split <;> simp [fullPages, room, State.reset, Typesetter.initial, fullPage, Page.blank]
  room := by decide

theorem test_witness_make_page :
    (pageRoom .ready).listening ∧ (pageRoom .ready).pagesStand ∧ 8 < (9 : Byte).toNat ∧
      ((pageRoom .ready).edition 8).state = .empty ∧
      ((pageRoom .ready).edition 1).planned < (3 : Byte).toNat ∧
      ((pageRoom .ready).page? 0 = some (pageOne .ready) ∧ (pageOne .ready).number = 1) ∧
      (pageRoom .ready).page? 1 = none ∧ (∀ q, q < 1 → (pageRoom .ready).page? q ≠ none) ∧
      (¬ ∃ r q, (pageRoom .ready).page? r = some q ∧ q.edition = 1 ∧ (q.number = 2 ∨
        ((q.number - 1) / 2 = (2 - 1) / 2 ∧ q.state = .queued ∧ q.tier = .first))) ∧
      fullPages.pagesStand ∧ fullPages.listening ∧
      ((fullPages.edition 3).state = .planned ∧ ∀ r, r < 128 → fullPages.page? r ≠ none) ∧
      (¬ ∃ r q, fullPages.page? r = some q ∧ q.edition = 3) := by
  refine ⟨pageRoom_listening .., pageRoom_pages_stand .., by decide, by decide, by decide,
    by decide, by decide, by decide, ?_, fullPages_pages_stand, ⟨rfl, rfl⟩, ⟨by decide, ?_⟩, ?_⟩
  · rintro ⟨r, q, h, -, hq⟩
    obtain ⟨rfl, rfl⟩ | ⟨h, -⟩ := pageRoom_page h
    · revert hq; decide
    · cases h
  · intro r hr
    simp [fullPages_page, hr]
  · rintro ⟨r, q, h, he⟩
    rw [fullPages_page] at h
    split at h
    · cases h; simp only [fullPage] at he; omega
    · cases h

theorem test_witness_drop_page :
    127 < (128 : Byte).toNat ∧ (127 : Byte).toNat ≤ 127 ∧ (pageRoom .armed).page? 127 = none ∧
      (∀ ps, (pageRoom ps).listening ∧ (pageRoom ps).pagesStand ∧
        (pageRoom ps).page? 0 = some (pageOne ps) ∧ (pageOne ps).state = ps) ∧
      ((pageRoom .armed).reporting.page = true ∧ (pageRoom .armed).sending.isSome = true ∧
        (pageRoom .armed).queue.length + 2 + 8 ≤ 64 ∧
        Table.wf Terminal.initial (pageRoom .armed).terminals = true) :=
  ⟨by decide, by decide, by decide, fun ps => ⟨pageRoom_listening .., pageRoom_pages_stand ..,
    rfl, rfl⟩, by decide⟩

/-- An edition whose automatic seal test finds its conditions, and one whose does not. -/
theorem test_witness_seal_test :
    (closedOf .sent false false).listening ∧ (closedOf .sent false false).pagesStand ∧
      (((closedOf .sent false false).edition 1).state = .closed ∧
        ((closedOf .sent false false).edition 1).sealPending = false ∧
        ((closedOf .sent false false).edition 1).counter = 0 ∧
        ∀ r p, (closedOf .sent false false).page? r = some p → p.state = .sent) ∧
      ((closedOf .sent false false).edition 2).state ≠ .closed := by
  refine ⟨⟨rfl, rfl⟩, closed_pages_stand .., ⟨rfl, rfl, rfl, fun r p h => ?_⟩, by decide⟩
  obtain ⟨-, rfl⟩ | ⟨h, -⟩ :=
    pageRoom_page (show (pageRoomOf .sent true false).page? r = some p from h)
  · rfl
  · cases h

theorem test_witness_place_lift :
    room.listening ∧ 1023 < (4 : Byte).toNat * 256 + (0 : Byte).toNat ∧
      (3 : Byte).toNat * 256 + (255 : Byte).toNat ≤ 1023 ∧ room.story? 1023 = none ∧
      (room.story? 0 = some (room.story 0) ∧ (room.story 0).page = none) ∧
      (∀ ps, (pageRoom ps).listening ∧ (pageRoom ps).story? 2 = some ((pageRoom ps).story 2) ∧
        ((pageRoom ps).story 2).page = some 0 ∧ (pageRoom ps).page? 0 = some (pageOne ps)) :=
  ⟨room_listening, by decide, by decide, by decide, by decide, fun ps => ⟨pageRoom_listening ..,
    rfl, rfl, rfl⟩⟩

theorem test_witness_release_replate :
    (pageRoom .opened).listening ∧
      (let s := pageRoomOf .queued false true;
        s.pagesStand ∧ s.page? 1 = some pageTwo ∧ s.reporting.page = true ∧
          s.sending.isSome = true ∧ s.queue.length + 1 + 8 ≤ 64) :=
  ⟨pageRoom_listening .., pageRoom_pages_stand .., rfl, rfl, rfl, by decide⟩

theorem test_witness_joins :
    ∀ closed, (let s := pageRoomOf .ready closed true;
      s.pagesStand ∧ s.reporting.page = true ∧ s.sending.isSome = true ∧
        s.queue.length + 1 + 8 ≤ 64) :=
  fun _ => ⟨pageRoom_pages_stand .., rfl, rfl, by decide +revert⟩

/-- Two pages of edition 1, each a section, and one of edition 2, all READY. Edition 1 is CLOSED with `counter`
left, edition 2 is RUNNING, and `queued` is the FIRST tier. -/
def threeReady (counter : Nat) (queued : List Nat) : State :=
  let ready := fun e n => some ({ Page.blank with edition := e, number := n, state := .ready } : Page)
  let edition := fun st n c => { plannedEdition n 1 0 with state := st, counter := c }
  { room with
    editions := [(1, edition .closed 2 counter), (2, edition .running 1 0)],
    pages := [(0, ready 1 1), (1, ready 1 2), (2, ready 2 1)],
    typesetter := { room.typesetter with firstTier := queued } }

/-- A section passed over because its edition has spent its counter holds up no later one. -/
theorem test_joins_pass_spent :
    (threeReady 1 []).evaluateJoins.typesetter.firstTier = [0, 2] ∧
      ((threeReady 1 []).evaluateJoins.edition 1).counter = 0 := by decide

/-- A section of two pages that finds one free entry stops the evaluation: the section of one page behind it
does not overtake. -/
theorem test_joins_nothing_overtakes :
    ({ threeReady 1 (List.replicate 63 9) with
        editions := [(1, { plannedEdition 2 2 0 with state := .closed, counter := 1 }),
          (2, { plannedEdition 1 1 0 with state := .running })] } :
      State).evaluateJoins.typesetter.firstTier = List.replicate 63 9 := by decide

theorem test_witness_placed_changes (ps : PageState) :
    (pageRoom ps).pagesStand ∧ (pageRoom ps).listening ∧
      (pageRoom ps).story? 2 = some ((pageRoom ps).story 2) ∧
      ((pageRoom ps).story 2).page = some 0 ∧ (pageRoom ps).page? 0 = some (pageOne ps) ∧
      ((pageRoom ps).story 2).state = .set ∧
      (∀ m ∈ (pageOne ps).placement, ((pageRoom ps).story m).state = .set) ∧
      2 = (0 : Byte).toNat * 256 + (2 : Byte).toNat ∧ 2 ≤ 1023 ∧ (0 : Byte).toNat ≤ 15 ∧
      ((pageRoom ps).desk 0).inUse = true ∧
      ((pageRoom ps).basket 0).count < ((pageRoom ps).desk 0).capacity := by
  refine ⟨pageRoom_pages_stand .., pageRoom_listening .., rfl, rfl, rfl, rfl, ?_, by decide,
    by decide, by decide, rfl, by cases ps <;> decide⟩
  intro m hm
  have : m = 2 := by simpa [pageOne] using hm
  subst this
  rfl

/-- Edition 1 bears the seal-pending mark with its page SENDING, and edition 2 is RUNNING. -/
def markedRoom : State :=
  (pageRoomOf .sending true false).putEdition 1
    { (pageRoomOf .sending true false).edition 1 with sealPending := true }

theorem markedRoom_edition (e : Nat) : (markedRoom.edition e).state =
    (if e = 1 then .closed else if e = 2 then .running else .empty) ∧
      ((markedRoom.edition e).sealPending = true ↔ e = 1) := by
  by_cases h1 : e = 1
  · subst h1; decide
  · by_cases h2 : e = 2
    · subst h2; decide
    · have : markedRoom.edition e = Edition.initial := by
        simp [markedRoom, State.edition, State.putEdition, Table.put, Table.insert, pageRoomOf,
          Edition.initial, Table.get, h1, h2]
      simp [this, h1, h2, Edition.initial]

theorem markedRoom_editions_stand : markedRoom.editionsStand := by
  constructor <;> simp only [markedRoom_edition]
  · intro e h
    by_cases h1 : e = 1
    · omega
    · by_cases h2 : e = 2
      · omega
      · simp [h1, h2] at h
  · intro d e hd he
    by_cases h1 : d = 1 <;> by_cases h2 : d = 2 <;> by_cases h3 : e = 1 <;> by_cases h4 : e = 2 <;>
      simp_all
  · intro d e hd hs he _
    have hd1 : d = 1 := by
      by_cases h1 : d = 1
      · exact h1
      · by_cases h2 : d = 2 <;> simp [h1, h2] at hd
    exact absurd ((markedRoom_edition d).2.2 hd1) (by simp [hs])
  · intro d e hd he
    omega
  · intro e h
    subst h
    refine ⟨rfl, 0, _, rfl, rfl, rfl, fun q o hq _ => ?_⟩
    obtain ⟨rfl, -⟩ | ⟨h, -⟩ :=
      pageRoom_page (show (pageRoomOf .sending true false).page? q = some o from hq)
    · rfl
    · cases h

theorem pageRoom_sections_whole (ps : PageState) : (pageRoom ps).sectionsWhole := by
  intro r p q o hr hq _ _ hs _
  obtain ⟨rfl, rfl⟩ | ⟨h, -⟩ := pageRoom_page hr
  · obtain ⟨rfl, rfl⟩ | ⟨h, -⟩ := pageRoom_page hq
    · rw [hs]; decide
    · cases h
  · cases h

theorem test_witness_pages_stand (ps : PageState) :
    ((pageRoom ps).pagesStand ∧ (pageRoom ps).storiesStand ∧ (pageRoom ps).sectionsWhole ∧
      ∃ t, step (pageRoom ps) = .next t) ∧
      (markedRoom.pagesStand ∧ markedRoom.storiesStand ∧ markedRoom.editionsStand ∧
        ∃ t, step markedRoom = .next t) := by
  refine ⟨⟨pageRoom_pages_stand .., pageRoom_stories_stand .., pageRoom_sections_whole ps, _, rfl⟩,
    pages_stand_of (pageRoom_pages_stand .sending true false) rfl rfl rfl rfl rfl fun e => ?_, ?_,
    markedRoom_editions_stand, _, rfl⟩
  · by_cases h1 : e = 1
    · subst h1; exact ⟨rfl, rfl, rfl, rfl⟩
    · by_cases h2 : e = 2
      · subst h2; exact ⟨rfl, rfl, rfl, rfl⟩
      · simp [markedRoom, State.edition, State.putEdition, Table.put, Table.insert, pageRoomOf,
          Edition.initial, Table.get, h1, h2]
  · obtain ⟨a, b, c, d, e, f, g, h⟩ := pageRoom_stories_stand .sending true false
    exact ⟨a, b, c, d, e, f, g, h⟩

/-- A page is QUEUED and the output mode is `m`. -/
def queuedIn (m : OutputMode) : State := (pageRoom .queued).setMode m

theorem test_witness_start :
    (pageRoom .ready).listening ∧
      ((pageRoom .ready).typesetter.replateTier ++ (pageRoom .ready).typesetter.firstTier).head? =
        none ∧
      ((queuedIn .hold).typesetter.replateTier ++ (queuedIn .hold).typesetter.firstTier).head? =
        some 0 ∧ (queuedIn .hold).typesetter.mode = .hold ∧
      (((queuedIn .run).typesetter.replateTier ++ (queuedIn .run).typesetter.firstTier).head? =
        some 0 ∧ (queuedIn .run).typesetter.mode ≠ .hold ∧
        (queuedIn .run).typesetter.send = none ∧ (queuedIn .run).part = .running ∧
        (queuedIn .run).storeLost = false ∧ (queuedIn .run).typesetter.cancel = none) :=
  ⟨pageRoom_listening .., by decide⟩

theorem test_witness_page_data :
    (galley 0 .outstanding).listening ∧
      (List.replicate 1024 (0 : Byte)).length = (4 : Byte).toNat * 256 + (0 : Byte).toNat ∧
      127 < (128 : Byte).toNat ∧ (0 : Byte).toNat ≤ 127 ∧ room.typesetter.send = none ∧
      (∃ x, (galley 0 .outstanding).typesetter.send = some x ∧ x.call = .outstanding ∧
        x.page = 0) ∧
      (∃ x, (galley 0 .owed).typesetter.send = some x ∧ x.call = .owed) ∧
      (galley 0 .owed).queue.length < 64 := by
  refine ⟨⟨rfl, rfl⟩, ?_, by decide, by decide, by decide, ⟨_, rfl, rfl, rfl⟩, ⟨_, rfl, rfl⟩,
    by decide⟩
  rw [List.length_replicate]
  decide

theorem test_witness_abandon :
    room.listening ∧ room.typesetter.send = none ∧
      (galley 0 .none).typesetter.send.map Send.dataTimer = some none ∧
      (galley 0 .outstanding).typesetter.send.map Send.dataTimer = some (some 30000) ∧
      (∀ r b, (sendingRoom r b).typesetter.send = some (Send.initial 0) ∧
        (sendingRoom r b).page? 0 = some (pageOne .sending) ∧
        (sendingRoom r b).typesetter.mode = .hold ∧
        ({ sendingRoom r b with part := .loading } : State).part = .loading ∧
        (sendingRoom r b).pagesStand ∧
        ((sendingRoom r b).edition 1).state = .running ∧
        ((sendingRoom r b).edition 1).sealPending = false ∧
        (sendingRoom r b).typesetter.block = none ∧ State.findsReady (sendingRoom r b) = r ∧
        (sendingRoom r b).reporting.page = false ∧
        (sendingRoom r b).reporting.typesetter = true ∧
        (sendingRoom r b).typesetter.stalled = false ∧
        (sendingRoom r b).sending.isSome = true ∧ (sendingRoom r b).queue.length + 8 ≤ 64) ∧
      (∃ r q, (sendingRoom true true).page? r = some q ∧ q.edition = 1 ∧
        (q.number - 1) / 2 = ((pageOne .sending).number - 1) / 2 ∧
        (q.state = .opened ∨ q.state = .armed)) ∧
      (∀ b, let s := pageRoomOf .sending false b;
        s.pagesStand ∧ s.typesetter.send = some (Send.initial 0) ∧
          s.page? 0 = some (pageOne .sending) ∧ s.typesetter.mode = .hold ∧
          s.typesetter.stalled = false ∧ s.reporting.page = true ∧ s.sending.isSome = true ∧
          s.queue.length + 10 ≤ 64) := by
  refine ⟨room_listening, by decide, by decide, by decide, fun r b => ⟨rfl, rfl, rfl,
    rfl, sendingRoom_pages_stand r b, rfl, rfl, rfl, by cases r <;> rfl, rfl, rfl, rfl, rfl,
    by decide +revert⟩, second_page_open _ rfl, fun b => ⟨pageRoom_pages_stand .., rfl, rfl, rfl,
    rfl, rfl, rfl, by decide +revert⟩⟩

/-- Abandons that seal an edition, by its mark and by the automatic seal test, and one in RUN whose page heads
the queue. -/
theorem test_witness_abandon_seals :
    (∀ b p, (closedOf .sending b p).typesetter.send = some (Send.initial 0) ∧
      (closedOf .sending b p).page? 0 = some (pageOne .sending) ∧
      (closedOf .sending b p).pagesStand ∧ ((closedOf .sending b p).edition 1).state = .closed ∧
      ((closedOf .sending b p).edition 1).sealPending = p ∧
      ((closedOf .sending b p).edition 1).counter = 0) ∧
      (∃ r q, (closedOf .sending true false).page? r = some q ∧ q.edition = 1 ∧
        (q.number - 1) / 2 = ((pageOne .sending).number - 1) / 2 ∧
        (q.state = .opened ∨ q.state = .armed)) ∧
      (∀ r q, (closedOf .sending true false).page? r = some q → q.state ≠ .queued ∧
        q.tier ≠ .replate) ∧
      (let going := (pageRoom .sending).setMode .run;
        going.typesetter.mode ≠ .hold ∧ going.storeLost = false ∧ going.part = .running ∧
          going.typesetter.replateTier = [] ∧ going.typesetter.send = some (Send.initial 0) ∧
          going.pagesStand) := by
  refine ⟨fun b p => ⟨rfl, rfl, closed_pages_stand .., rfl, rfl, rfl⟩, second_page_open _ rfl,
    fun r q h => ?_, by decide, rfl, rfl, rfl, rfl, pages_stand_of (pageRoom_pages_stand ..)
      rfl rfl rfl rfl rfl fun _ => ⟨rfl, rfl, rfl, rfl⟩⟩
  obtain ⟨-, rfl⟩ | ⟨-, -, rfl⟩ :=
    pageRoom_page (show (pageRoomOf .sending true true).page? r = some q from h) <;> decide

/-- Page 0 SENDING with its end block on the line. -/
def ending : State :=
  (pageRoom .sending).putTypesetter
    { (pageRoom .sending).typesetter with block := some (.galley 0 1 [] true) }

theorem test_witness_blocks :
    room.typesetter.block = none ∧
      (ending.typesetter.block = some (.galley 0 1 [] true) ∧
        ending.typesetter.send = some (Send.initial 0)) ∧
      (∀ r q data, Block.cancel { page := none, sequence := 0 } ≠ .galley r q data true) ∧
      (pageRoom .ready).typesetter.waitTimer = none ∧
      room.typesetter.waitTimer = some 30000 ∧
      (room.typesetter.cancel ≠ none ∧ room.tsrdy = { asserted := false, falls := [] }) ∧
      ({ room with tsrdy := told true true } : State).tsrdy =
        { asserted := true, falls := true :: [] } ∧
      ((pageRoom .sending).typesetter.cancel = none ∧
        (galley 64 .none).typesetter.send.map (fun x => x.buffer.length) = some 64 ∧
        (galley 63 .none).typesetter.send.map (fun x => x.buffer.length) = some 63) ∧
      room.typesetter.send = none ∧
      (∃ x, (galley 1024 .none).typesetter.send = some x ∧ x.call = .none ∧
        x.finalAccepted = false ∧ (x.buffer.length + 63) / 64 + 16 ≤ 32) ∧
      (∃ x, (galley 1025 .none).typesetter.send = some x ∧ ¬ (x.buffer.length + 63) / 64 + 16 ≤ 32) ∧
      (galley 1024 .none).queue.length < 64 ∧
      64 ≤ ({ galley 1024 .none with queue := crowded.queue } : State).queue.length := by
  refine ⟨by decide, by decide, ?_, by decide, by decide, by decide, by decide, by decide,
    by decide, ⟨_, rfl, rfl, rfl, ?_⟩, ⟨_, rfl, ?_⟩, by decide, by decide⟩
  · intro r q data h
    cases h
  · simp only [List.length_replicate]; decide
  · simp only [List.length_replicate]; decide

/-! ### WellFormed: an ill-formed command for each check -/

theorem test_wf_order_too_long : (Instr.run (List.replicate 1041 0)).wellFormed = false := by
  rw [Instr.wellFormed, bodyFits, List.length_replicate]; rfl
theorem test_wf_read_of_status : (Instr.read [9, 0, 0, 1]).wellFormed = false := by decide
theorem test_wf_read_status_too_long :
    (Instr.readStatus (List.replicate 1040 0)).wellFormed = false := by
  rw [Instr.wellFormed, bodyFits, List.length_cons, List.length_replicate]; rfl
theorem test_wf_screen_continued : (Instr.screen [0, 0, 1, 0, 0, 0]).wellFormed = false := by decide
theorem test_wf_continuation_new :
    (Instr.screenContinuation [0, 0, 0, 0, 0, 0]).wellFormed = false := by decide
theorem test_wf_known_kind : (Instr.unknownOrder Kind.run []).wellFormed = false := by decide
theorem test_wf_drop : (Instr.get .a 24 [0, 0]).wellFormed = false := by decide
theorem test_wf_answer_too_long : (Instr.keys .a 0 (List.replicate 81 0)).wellFormed = false := by
  decide
theorem test_wf_nil_kind : (Instr.nil .a 0 keysKind []).wellFormed = false := by decide
theorem test_wf_arguments :
    (Instr.get .a 0 [0]).wellFormed = false ∧ (Instr.getNext .a 0 [0]).wellFormed = false ∧
      (Instr.send .a 0 [0, 0, 0]).wellFormed = false ∧
      (Instr.pullRequest .a 0 [0, 0]).wellFormed = false ∧
      (Instr.list .a 0 [0]).wellFormed = false := by decide
theorem test_wf_request_known : (Instr.unknownRequest .a 0 [1, 0, 0]).wellFormed = false := by decide
theorem test_wf_story : (Instr.nudgeExpiry 1024).wellFormed = false := by decide

/-! ### Frames, from the worked examples of chapters 9 and 10 -/

theorem test_move_frame :
    storeFrame Kind.move [0x01, 0xA1, 0x05, 0x01] =
      [0x5A, 0x11, 0x00, 0x04, 0x01, 0xA1, 0x05, 0x01, 0x00, 0xBD] := by decide
theorem test_refused_frame :
    (Notice.refused 0x11 .full (some 417)).frame =
      [0x5A, 0x40, 0x00, 0x04, 0x11, 0x0B, 0x01, 0xA1, 0x01, 0x02] := by decide
set_option maxRecDepth 2000 in
theorem test_framer_reads_move :
    Framer.takeAll .hunt [0x5A, 0x11, 0x00, 0x04, 0x01, 0xA1, 0x05, 0x01, 0x00, 0xBD] =
      (.hunt, [.move [0x01, 0xA1, 0x05, 0x01]]) := by decide
set_option maxRecDepth 2000 in
theorem test_framer_bad_check :
    Framer.takeAll .hunt [0x5A, 0x11, 0x00, 0x04, 0x01, 0xA1, 0x05, 0x01, 0x00, 0xBC] =
      (.hunt, [.frameBadCheck 0x11]) := by decide
theorem test_framer_length_1200 :
    Framer.takeAll .hunt [0x00, 0x13, 0x5A, 0x13, 0x04, 0xB0] =
      (.hunt, [.frameLengthOver 0x13]) := by decide
set_option maxRecDepth 2000 in
theorem test_line_framer_reads_nil :
    LineFramer.takeAll .c .hunt [0x00, 0x5A, 0x61, 0x04, 0x00, 0x00, 0x00, 0x65] =
      (.hunt, [.nil .c 4 0x61 []]) := by decide
set_option maxRecDepth 2000 in
theorem test_line_framer_bad_check :
    LineFramer.takeAll .a .hunt [0x5A, 0x62, 0x03, 0x00, 0x01, 0x41, 0x00, 0xA6] =
      (.hunt, [.badAnswerFrame .a]) := by decide
theorem test_line_framer_length_81 :
    LineFramer.takeAll .a .hunt [0x5A, 0x62, 0x03, 0x00, 0x51] =
      (.hunt, [.badAnswerFrame .a]) := by decide
theorem test_line_byte :
    ((room.takeLineByte .a 0x5A).line .a).activity = .awaiting 0 20 .kind ∧
      (lineDoing (.idleWait 20)).takeLineByte .a 0x5A = lineDoing (.idleWait 20) := by decide
theorem test_filler :
    ({ room with sending := none } : State).sktx = [0x00] ∧ room.tsout = [0x00] ∧
      ending.tsout = [0xA5, 0x00, 0x01, 0x00, 0x00, 0x01] := by decide
theorem test_no_word_spells_a_command : decodeTableWord 16 0 = none := rfl
theorem test_cancel_block :
    (Block.cancel { page := none, sequence := 0 }).bytes =
      [0xA5, 0xFF, 0x00, 0xC0, 0x01, 0xBF] := by decide
theorem test_end_block :
    (Block.galley 1 8 [] true).bytes = [0xA5, 0x01, 0x08, 0x00, 0x00, 0x09] := by decide

/-! ### The worked examples of chapters 3 and 4 -/

theorem test_long_intervals :
    [0, 1, 2, 3, 4, 5, 6].map (nudgeInterval 255 4) = [255, 1020, 3600, 3600, 3600, 3600, 3600] := by
  decide
theorem test_plain_schedule :
    [0, 1, 2].map (nudgeInterval 120 2) = [120, 240, 480] := by decide

/-- One sample of the City desk while an edition runs. -/
def citySample (load : Nat) (x : Pressure) : Nat × SurgeState × Nat :=
  let y := x.sampled cityParams true load
  (y.baseline, y.surge, y.count)

theorem test_surge_table :
    citySample 16 (atBaseline 2560 .calm 0) = (2752, .rising, 1) ∧
      citySample 17 (atBaseline 2752 .rising 1) = (2752, .surge, 2) ∧
      citySample 8 (atBaseline 2752 .surge 2) = (2752, .easing, 1) ∧
      citySample 9 (atBaseline 2752 .easing 1) = (2752, .easing, 2) ∧
      citySample 9 (atBaseline 2752 .easing 2) = (2696, .calm, 3) ∧
      citySample 14 (atBaseline 2752 .easing 1) = (2752, .surge, 0) := by decide
theorem test_surge_rounding : roundBaseline 2752 = 11 ∧ roundBaseline 2696 = 11 := by decide

/-- One sample of the Copy desk with no edition running. -/
def copySample (load : Nat) (x : Pressure) : Nat × SurgeState × Nat :=
  let y := x.sampled { cityParams with fastBeta := 0, fastBand := 8 } false load
  (y.baseline, y.surge, y.count)

theorem test_batch_table :
    copySample 20 (atBaseline 1024 .calm 0) = (5120, .rising, 1) ∧
      copySample 21 (atBaseline 5120 .rising 1) = (5128, .calm, 0) ∧
      copySample 21 (atBaseline 5128 .calm 0) = (5135, .calm, 0) := by decide

/-! ### One step of each order -/

theorem test_idle :
    (after (.idle []) room).part = .loading ∧ (after (.idle []) room).sampleTimer = none ∧
      ((after (.idle []) room).story 0).nudgeDue = none := by decide
theorem test_run :
    (after (.run []) State.reset).part = .running ∧
      (after (.run []) State.reset).sampleTimer = some 5000 := by decide
theorem test_run_running :
    (after (.run []) room).queue = [.refused 0x02 .state none] := by decide
theorem test_restart_held :
    (after (.restart [1]) room).restartPending = some .warm ∧
      (after (.restart [1]) room).part = .running := by decide
theorem test_ack_restart : (after (.ackRestart []) room).unacknowledged = false := by decide
theorem test_load_desk_clamps :
    ((after (.loadDesk [3, 1, 200, 0xFF, 0, 9, 9, 2, 0x43, 0x44]) room).desk 3) =
      { Desk.initial with
        inUse := true, name := [0x43, 0x44], capacity := 128, duty := none, t := 1, m := 4,
        r := 7 } := by decide
theorem test_load_desk_occupied :
    (after (.loadDesk [0, 0, 3, 0xFF, 60, 2, 3, 0]) room).queue =
      [.refused 0x05 .occupied none] := by decide
theorem test_load_route :
    (after (.loadRoute (2 :: 0xFE :: List.replicate 15 3)) room).route 2 0 = .set ∧
      (after (.loadRoute (2 :: 0xFE :: List.replicate 15 3)) room).route 2 15 = .desk 3 := by decide
theorem test_load_diversion :
    (after (.loadDiversion [1, 1, 5, 0xFF, 1, 8]) room).diversion 1 =
      { inUse := true, fromDesk := 5, cls := none, condition := .onSurge, toDesk := 8 } := by decide
theorem test_load_diversion_itself :
    (after (.loadDiversion [1, 1, 5, 0xFF, 1, 5]) room).queue = [.refused 0x07 .range none] := by
  decide
theorem test_load_terminal :
    (after (.loadTerminal [5, 1, 1, 2]) room).terminal 5 =
      { Terminal.initial with configured := true, desk := 1, role := .chief, liveness := .waking } :=
  by decide
theorem test_load_terminal_refused :
    (after (.loadTerminal [95]) room).queue = [.refused 0x08 .length (some 95)] ∧
      (after (.loadTerminal [0, 0, 0, 0]) room).queue = [.refused 0x08 .occupied (some 0)] := by
  decide
theorem test_set_pressure :
    ((after (.setPressure [1, 0, 9, 9, 255, 0, 64, 128, 0, 16, 0]) room).desk 1).params =
      { quietBeta := 1, deadlineBeta := 8, fastBeta := 8, fastBand := 255, floor := 1,
        proportional := 64, hysteresis := 128, enterDebounce := 1, exitDebounce := 15,
        hold := false } := by decide
theorem test_reseed :
    (after (.reseed [0]) room).pressure 0 =
      { load := 1, baseline := 256, surge := .calm, count := 0, reseedPending := false } := by decide
/-- A SET TIMING of silence timeout 60 s restarts the timer with the old 5 s, and the next frame with 60 s
(R188, log 35). -/
theorem test_set_timing_silence :
    let order := Instr.setTiming (List.replicate 19 5 ++ [60])
    (after order room).silenceTimer = some 5000 ∧
      (after (.readStatus [0, 0, 0]) (after order room)).silenceTimer = some 60000 := by decide

theorem test_set_timing :
    (after (.setTiming [0, 4, 0, 0, 0, 101, 9, 16, 4, 20, 2, 3, 2, 20, 2, 3, 2, 15, 4, 61])
      room).timing =
        { samplePeriod := 1, lowWater := 16, stallTimeout := 5, silenceTimeout := 60 } ∧
      ((after (.setTiming [0, 4, 0, 0, 0, 101, 9, 16, 4, 20, 2, 3, 2, 20, 2, 3, 2, 15, 4, 61])
        room).line .b).window = 100 := by decide
theorem test_set_reporting :
    (after (.setReporting [0, 1, 0, 0, 0, 4]) room).countdown = some 4 ∧
      (after (.setReporting [0, 1, 0, 0, 0, 4]) room).reporting.copy = false := by decide
theorem test_read_basket :
    (after (.read [8, 0, 1, 5]) room).queue =
      [.records 8 (some 0) 1
        [[0, 1, 0x42, 0, 0, 0, 0, 0, 0, 0, 0, 0, 0, 0, 2, 0]]] := by decide
theorem test_read_range :
    (after (.read [2, 0, 16, 1]) room).queue = [.refused 0x0D .range (some 2)] := by decide
theorem test_read_status :
    (after (.readStatus [0, 0, 1]) { room with reportsDropped := true }).reportsDropped = false ∧
      (after (.readStatus [0, 0, 1]) room).queue.map Notice.body =
        [[1, 0, 0, 1, 0, 64, 1, 0, 0, 3, 0, 0, 0xFF, 0, 0, 0, 0, 0, 0, 0, 0, 0]] := by decide
theorem test_announce :
    (after (.announce [1, 4, 1, 14, 68, 79, 67, 75, 83, 84, 82, 73, 75, 69, 86, 79, 84, 69])
      room).story? 3 =
        some { slug := [68, 79, 67, 75, 83, 84, 82, 73, 75, 69, 86, 79], cls := 4, desk := 1,
               state := .filed, flash := true, holder := none, revision := 0, page := none,
               nudgeCount := 0, nudgeDue := some 60000, overdue := false } := by decide
theorem test_announce_no_route :
    (after (.announce [9, 2, 1, 1, 81]) room).queue = [.refused 0x0E .noRoute (some 9)] := by decide
theorem test_revise_wraps :
    ((after (.revise [0, 0, 0]) (room.modStory 0 (fun st => { st with revision := 255 }))).story
      0).revision = 0 := by decide
theorem test_purge :
    (after (.purge [0, 2]) room).story? 2 = none ∧
      (after (.purge [0, 2]) room).lowestFree = some 2 := by decide
theorem test_purge_held :
    (after (.purge [0, 1]) room).queue = [.refused 0x10 .held (some 1)] := by decide
theorem test_move :
    (after (.move [0, 0, 1, 1]) room).basket 1 = { flash := [0], ordinary := [] } ∧
      (after (.move [0, 0, 1, 1]) room).basket 0 = { flash := [], ordinary := [1] } := by decide
theorem test_pull :
    (after (.pull [0, 2, 0, 1]) (pageRoom .ready)).page? 0 = some (pageOne .armed) ∧
      ((after (.pull [0, 2, 0, 1]) (pageRoom .ready)).story 2).state = .filed := by decide
theorem test_screen :
    ((after (.screen [0, 1, 0, 0, 0, 2, 0x41, 0x42]) room).terminal 0).outbound =
        [.screen .delta [0x41, 0x42] false] ∧
      (after (.screen [0, 1, 0, 0, 0, 2, 0x41, 0x42]) room).freeBlocks = 255 := by decide
theorem test_screen_dark :
    (after (.screen [2, 1, 0, 0, 0, 0]) room).queue = [.refused 0x13 .dark (some 2)] := by decide
theorem test_screen_continuation :
    ((after (.screenContinuation [0, 0, 1, 0, 0, 1, 0x42]) (openScreen 63)).terminal 0).outbound =
        [.screen .delta [] false, .screen .refresh (List.replicate 63 0x41 ++ [0x42]) false] ∧
      (after (.screenContinuation [0, 0, 1, 0, 0, 2, 0x42, 0x43]) (openScreen 63)).freeBlocks =
        255 := by decide
theorem test_continuation_without_open :
    (after (.screenContinuation [0, 0, 1, 0, 0, 0]) room).queue =
      [.refused 0x13 .state (some 0)] := by decide
theorem test_plan_edition :
    (after (.planEdition [3, 70, 3, 20]) room).edition 3 =
      { state := .planned, planned := 64, size := 4, allowance := 15, counter := 0,
        sealPending := false, completeReported := false,
        slots := List.replicate 64 { code := .empty, replates := 0 } } := by decide
theorem test_plan_sizes :
    ((after (.planEdition [3, 1, 0, 0]) room).edition 3).size = 1 ∧
      ((after (.planEdition [3, 1, 6, 0]) room).edition 3).size = 8 := by decide
theorem test_start_edition :
    ((after (.startEdition [3]) fullPages).edition 3).state = .running := by decide
theorem test_close_edition :
    ((after (.closeEdition [1]) (pageRoom .sent)).edition 1).state = .closed ∧
      ((after (.closeEdition [1]) (pageRoom .sent)).edition 1).counter = 2 := by decide
theorem test_close_marks_the_other :
    ((after (.closeEdition [2]) (pageRoomOf .sending true false)).edition 1).sealPending = true ∧
      (after (.closeEdition [2]) (pageRoomOf .sending true false)).page? 0 =
        some (pageOne .sending) := by decide
theorem test_seal_edition :
    ((after (.sealEdition [1]) (pageRoomOf .sent true false)).edition 1).state = .sealed ∧
      (after (.sealEdition [1]) (pageRoomOf .sent true false)).page? 0 = none ∧
      ((after (.sealEdition [1]) (pageRoomOf .sent true false)).story 2).page = none := by decide
theorem test_make_page :
    (after (.makePage [1, 2]) (pageRoom .ready)).page? 1 = some pageTwo := by decide
theorem test_make_page_busy :
    (after (.makePage [1, 2]) (pageRoom .queued)).queue = [.refused 0x19 .pageBusy (some 1)] := by
  decide
theorem test_place :
    (after (.place [0, 0, 0]) ((pageRoom .ready).putStory 0 (some Story.blank))).page? 0 =
        some { pageOne .armed with placement := [2, 0] } ∧
      (after (.place [0, 2, 0]) (pageRoom .sending)).queue =
        [.refused 0x1A .pageBusy (some 2)] := by decide
theorem test_lift :
    ((after (.lift [0, 2]) (pageRoom .armed)).page? 0) =
        some { pageOne .ready with placement := [] } ∧
      ((after (.lift [0, 2]) (pageRoom .armed)).story 2).page = none := by decide
theorem test_release :
    (after (.release [0]) (pageRoom .opened)).page? 0 = some (pageOne .ready) := by decide
theorem test_replate_joins :
    (after (.replate [0]) (pageRoom .sent)).page? 0 =
        some { pageOne .queued with tier := .replate } ∧
      (after (.replate [0]) (pageRoom .sent)).typesetter.replateTier = [0] := by decide
theorem test_drop_page :
    (after (.dropPage [0]) (pageRoom .armed)).page? 0 = none ∧
      (after (.dropPage [0]) (pageRoom .sent)).queue = [.refused 0x1E .state none] := by decide
theorem test_typeset_mode_starts :
    (after (.typesetMode [2]) (pageRoom .queued)).typesetter.sendingPage = some 0 ∧
      (after (.typesetMode [2]) (pageRoom .queued)).queue =
        [.pageEvent 0 1 1 (some .sending) .first false false 0 .typesetter,
         .pageCall 0 1 1 0] := by decide
theorem test_abort_send :
    (after (.abortSend []) (pageRoom .sending)).typesetter.firstTier = [0] ∧
      (after (.abortSend []) (pageRoom .sending)).typesetter.cancel =
        some { page := some 0, sequence := 0 } := by decide
theorem test_page_data_offset :
    (after (.pageData [0, 0, 0, 1, 0, 0, 1, 0x41]) (galley 0 .outstanding)).queue =
      [.refused 0x21 .offset (some 0)] := by decide
theorem test_unknown_order :
    (after (.unknownOrder 0x22 [1]) room).queue = [.refused 0x22 .unknown none] := by decide
theorem test_frame_failures :
    (after (.frameLengthOver 0x13) room).queue = [.refused 0x13 .framing none] ∧
      (after (.frameBadCheck 0x0D) room).queue = [.refused 0x0D .check none] ∧
      (after (.frameBadCheck 0x0D) room).silenceTimer = some 5000 := by decide

/-! ### One step of each event of the store link and of a restart -/

theorem test_power_on :
    (after .powerOn room).stories = [] ∧ (after .powerOn room).sending = some (.restarted .power) :=
  by decide
theorem test_rstin : (after .rstinRelease room).cause = .pin := by decide
theorem test_full_restart :
    (after .fullRestart { room with restartPending := some .full }).desks = [] ∧
      (after .fullRestart room).desks = room.desks := by decide
theorem test_warm_restart :
    (after .warmRestart { room with restartPending := some .warm }).story 1 =
        { Story.blank with slug := [0x42], state := .filed } ∧
      ((after .warmRestart { room with restartPending := some .warm }).terminal 2).liveness =
        .waking := by decide
theorem test_notice_frame_end :
    (after .noticeFrameEnd (withFree 63)).sending = some (.restarted .pin) ∧
      (after .noticeFrameEnd (withFree 63)).queue = [] := by decide
theorem test_owed_call :
    ((after .pageCallOwedOffered (galley 0 .owed)).typesetter.send.map Send.call) =
      some .outstanding := by decide
theorem test_store_silence :
    (after .storeSilenceExpiry room).storeLost = true ∧
      ((after .storeSilenceExpiry room).terminal 0).attentions =
        [{ body := .storeLost, earlierLost := false }] ∧
      ((after .storeSilenceExpiry room).terminal 2).attentions = [] := by decide

/-! ### One step of each event and answer of a terminal line -/

/-- What line A sends after a command: the output that the turn after it begins. -/
def sends (c : Instr) (s : State) : Activity := ((after c s).line .a).activity

/-- Line A sends terminal 0 an attention. -/
def tells (b : AttentionBody) : Activity := .output 0 (.attention { body := b, earlierLost := false })

theorem test_poll_frame_sent :
    sends (.pollFrameSent .a) (lineDoing (.sendingPoll 0)) = .awaiting 0 20 .hunt := by decide
theorem test_nil :
    ((after (.nil .a 0 0x61 []) (waking .waking 0)).terminal 0).wakeCount = 1 ∧
      ((after (.nil .a 0 0x61 []) (waking .waking 1)).terminal 0).liveness = .live := by decide
theorem test_keys :
    (after (.keys .a 0 [0x41]) room).queue = [.keys 0 [0x41]] ∧
      sends (.keys .a 0 []) room = tells (.refused .keys .length none none) := by decide
theorem test_get :
    ((after (.get .a 0 [0, 0]) room).story 0).holder = some 0 ∧
      ((after (.get .a 0 [0, 0]) room).terminal 0).holds = [1, 0] ∧
      (after (.get .a 0 [0, 0]) room).queue =
        [.textWanted 0 0 0 .get, .copyEvent .held 0 .held 0 0 (.terminal 0) [] none] := by decide
theorem test_get_held :
    sends (.get .a 0 [0, 1]) room = tells (.refused .get .held (some 1) none) := by decide
theorem test_get_next :
    ((after (.getNext .a 0 []) room).terminal 0).views = [0, 1, 0] ∧
      ((after (.getNext .a 0 []) room).story 0).state = .held := by decide
theorem test_send_by_route :
    (after (.send .a 0 [0xFF, 0xFF, 0xFF, 0]) room).basket 1 = { flash := [], ordinary := [1] } ∧
      ((after (.send .a 0 [0xFF, 0xFF, 0xFF, 0]) room).story 1).nudgeDue = some 60000 ∧
      sends (.send .a 0 [0xFF, 0xFF, 0xFF, 0]) room = tells (.done .send 1 1 0 false) := by decide
theorem test_send_same_desk :
    sends (.send .a 0 [0, 1, 0, 0]) room = tells (.refused .send .sameDesk (some 1) none) := by decide
theorem test_return :
    ((after (.returnStory .a 0 [0, 1]) room).story 1).state = .filed ∧
      ((after (.returnStory .a 0 [0, 1]) room).terminal 1).attentions =
        [{ body := .watch .released 1 0 0, earlierLost := false }] := by decide
theorem test_spike :
    ((after (.spike .a 0 [0, 1]) room).story 1).state = .spiked ∧
      sends (.spike .a 0 [0, 1]) writerRoom = tells (.refused .spike .role (some 1) none) := by decide
theorem test_pull_request :
    sends (.pullRequest .a 0 [0, 2, 0]) room = tells (.refused .pull .role (some 2) none) ∧
      ((after (.pullRequest .a 1 [0, 2, 1]) (awaiting room 1)).basket 0).flash = [2] := by decide
theorem test_view :
    ((after (.view .a 0 [0, 2]) room).terminal 0).views = [2, 1, 0] ∧
      ((after (.view .a 0 [0, 1]) room).terminal 0).views = [1, 0] := by decide
theorem test_back :
    ((after (.back .a 0 []) room).terminal 0).views = [0] ∧
      (after (.back .a 0 []) room).queue = [.textWanted 0 0 0 .back] := by decide
theorem test_list :
    sends (.list .a 0 [0, 1]) room =
      .output 0 (.frame (.listing
        { desk := 0, start := 1, basketCount := 2,
          entries := [{ story := 1, slug := [0x42], flash := false, held := true,
                        overdue := false, revision := 0 }] })) := by decide
theorem test_watch :
    ((after (.watch .a 0 [0, 2]) room).terminal 0).watches = [2] ∧
      sends (.watch .a 1 [0, 1]) (awaiting room 1) =
        .output 1 (.attention
          { body := .refused .watch .duplicate (some 1) none, earlierLost := false }) := by decide
theorem test_unwatch :
    ((after (.unwatch .a 1 [0, 1]) (awaiting room 1)).terminal 1).watches = [] := by decide
theorem test_unknown_request :
    sends (.unknownRequest .a 0 [12]) room = tells (.refused .keys .unknown none none) ∧
      sends (.unknownRequest .a 0 [1, 0]) room = tells (.refused .get .length none none) := by decide
theorem test_nil_from_faint :
    (after (.nil .a 0 0x61 []) (owing .faint)).queue = [] ∧
      ((after (.nil .a 0 0x61 []) (owing .faint)).terminal 0).refreshOwed = some .degrade ∧
      (after (.nil .a 0 0x61 []) (owing .live)).queue = [.refreshWanted 0 .degrade] := by decide
theorem test_bad_answer_frame :
    ((after (.badAnswerFrame .a) room).terminal 0).liveness = .faint ∧
      ((after (.badAnswerFrame .a) fading).terminal 0).liveness = .dark := by decide
theorem test_poll_window :
    (after (.pollWindowExpiry .a) fading).queue =
        [.copyEvent .released 1 .filed 0 0 .darkness [] none,
         .terminalEvent 0 false 0 .editor 1] ∧
      ((after (.pollWindowExpiry .a) fading).terminal 0).holds = [] := by decide
theorem test_idle_wait :
    sends (.idleWaitExpiry .a) (lineDoing (.idleWait 20)) = .sendingPoll 1 := by decide
theorem test_output_end :
    (after (.outputFrameEnd .b) stored).freeBlocks = 254 := by decide
theorem test_nudge :
    (after (.nudgeExpiry 0) room).now = 60000 ∧
      ((after (.nudgeExpiry 0) room).story 0).nudgeDue = some 180000 ∧
      ((after (.nudgeExpiry 0) room).terminal 1).attentions =
        [{ body := .nudge 0 0 0 1, earlierLost := false }] := by decide
theorem test_nudge_overdue :
    ((after (.nudgeExpiry 0) reminded).story 0).overdue = true ∧
      (after (.nudgeExpiry 0) reminded).queue =
        [.copyEvent .overdue 0 .filed 0 0 .nudge [] (some 3)] := by decide

/-! ### One step of each event of the pressure monitor and of the typesetter line -/

theorem test_sample_period :
    (after .samplePeriod room).sampleTimer = some 10000 ∧
      (after .samplePeriod room).pressure 0 =
        { load := 1, baseline := 8, surge := .calm, count := 0, reseedPending := false } := by decide
theorem test_tsrdy_begins_cancel :
    (after .tsrdyAsserted room).typesetter.block = some (.cancel { page := none, sequence := 0 }) ∧
      (after .tsrdyAsserted room).typesetter.cancel = none := by decide
theorem test_end_block_completes :
    (after (.galleyBlockEnd true) ending).page? 0 = some (pageOne .sent) ∧
      (after (.galleyBlockEnd true) ending).typesetter.send = none := by decide
theorem test_data_timer :
    (after .dataTimerExpiry (galley 0 .outstanding)).page? 0 =
        some { pageOne .queued with broken := true } ∧
      (after .dataTimerExpiry (galley 0 .outstanding)).now = 30000 := by decide
theorem test_tsrdy_fallen :
    (after (.abortSend []) { pageRoom .sending with tsrdy := told true true }).typesetter.cancel =
        some { page := some 0, sequence := 0 } ∧
      (after (.abortSend []) { pageRoom .sending with tsrdy := told true false }).typesetter.cancel =
        none := by decide
theorem test_wait_timer :
    (after .waitTimerExpiry room).typesetter.stalled = true ∧
      (after .waitTimerExpiry room).queue = [.typesetterEvent .stall none none 0 0] := by decide

end Sys2Proof.Tests
end

section
/-! SUPPORT. What a cold reset leaves (R191), and the telling of a change (R13 to R16): how an offer acts on
states that differ outside the notice queue, and what an attention to many terminals leaves of each record. -/

namespace Sys2Proof.Machine

/-! ### A cold reset -/

/-- Every route entry is NONE after a cold reset, whatever class and desk are named (R27). -/
theorem route_reset (c d : Nat) : State.reset.route c d = .none := by
  have hrow : State.reset.routeRow c = List.replicate 16 RouteTarget.none := rfl
  rw [State.route, hrow, List.getD_eq_getElem?_getD, List.getElem?_replicate]
  split <;> rfl

/-- Settles O5: each conjunct reads one field of the reset state. -/
theorem resetLeavesThePartClear : Obligations.ResetLeavesThePartClear := by
  have hline : ∀ l, State.reset.line l = Line.initial := by intro l; cases l <;> rfl
  unfold Obligations.ResetLeavesThePartClear
  refine ⟨fun _ => rfl, fun _ => rfl, fun _ => rfl, fun _ => ⟨rfl, rfl, rfl⟩, route_reset,
    fun _ => rfl, fun _ => rfl, rfl, fun l => ?lines, ?rest⟩
  case lines => rw [hline]; decide
  case rest => decide

/-! ### Offers to two states -/

/-- The fields an offer reads (R179 to R181, R190). -/
def offerReads : List Field := [.queue, .sending, .restartPending, .reporting, .reportsDropped]

theorem startNotice_onlyChanges {fs : List Field} {s t : State} (h : s.onlyChanges fs t)
    (hr : ∀ f ∈ offerReads, f ∉ fs) : s.startNotice.onlyChanges fs t.startNotice := by
  have hq := h .queue (hr _ (by decide))
  have hs := h .sending (hr _ (by decide))
  have hp := h .restartPending (hr _ (by decide))
  dsimp only [Field.same] at hq hs hp
  unfold State.startNotice
  rw [← hq, ← hs, ← hp]
  split
  · intro f hf
    have hsame := h f hf
    cases f <;> first | exact hsame | rfl
  · exact h

theorem admitNotice_onlyChanges {fs : List Field} {s t : State} (h : s.onlyChanges fs t)
    (hr : ∀ f ∈ offerReads, f ∉ fs) (n : Notice) :
    (s.admitNotice n).onlyChanges fs (t.admitNotice n) := by
  refine startNotice_onlyChanges (fun f hf => ?_) hr
  have hsame := h f hf
  have hq : s.queue = t.queue := h .queue (hr _ (by decide))
  cases f <;> first | exact hsame | simp [Field.same, hq]

theorem markDropped_onlyChanges {fs : List Field} {s t : State} (h : s.onlyChanges fs t) :
    s.markDropped.onlyChanges fs t.markDropped := by
  intro f hf
  have hsame := h f hf
  cases f <;> first | exact hsame | rfl

/-- An offer acts alike on two states that share what it reads: they differ afterwards where they did. -/
theorem offer_onlyChanges {fs : List Field} {s t : State} (h : s.onlyChanges fs t)
    (hr : ∀ f ∈ offerReads, f ∉ fs) (n : Notice) : (s.offer n).onlyChanges fs (t.offer n) := by
  have hq : s.queue = t.queue := h .queue (hr _ (by decide))
  have hrep : s.reporting = t.reporting := h .reporting (hr _ (by decide))
  have hadmit := admitNotice_onlyChanges h hr n
  have hdrop := markDropped_onlyChanges h
  unfold State.offer State.noticeFree
  rw [← hq, ← hrep]
  split
  · split
    · exact hadmit
    · exact hdrop
  · split
    · split
      · exact hadmit
      · exact hdrop
    · exact h
  · split
    · exact hadmit
    · exact h
  · exact hadmit

@[simp] theorem terminal_offer (s : State) (n : Notice) (x : Nat) :
    (s.offer n).terminal x = s.terminal x :=
  congrArg (Table.get Terminal.initial · x) (onlyChanges_offer s n .terminals (by decide)).symm

/-! ### Attentions -/


/-- A terminal's record once an attention has been offered to it (R120). -/
def Terminal.attended (r : Terminal) (b : AttentionBody) : Terminal :=
  if r.liveness ≠ .absent ∧ r.liveness ≠ .dark then
    { r with attentions := joinAttention r.attentions b }
  else r

theorem terminal_attend (s : State) (t : Nat) (b : AttentionBody) (x : Nat) :
    (s.attend t b).terminal x = if x = t then (s.terminal x).attended b else s.terminal x := by
  unfold State.attend Terminal.attended
  by_cases hx : x = t
  · subst hx
    by_cases ha : (s.terminal x).liveness = .absent
    · simp [ha]
    · by_cases hd : (s.terminal x).liveness = .dark <;> simp [ha, hd]
  · dsimp only
    split <;> simp [hx]

/-- An attention to each terminal of a list without repeats reaches each of them once. -/
theorem terminal_attendAll (s : State) (ts : List Nat) (hts : ts.Nodup) (b : AttentionBody)
    (x : Nat) :
    (s.attendAll ts b).terminal x =
      if x ∈ ts then (s.terminal x).attended b else s.terminal x := by
  unfold State.attendAll
  induction ts generalizing s with
  | nil => simp
  | cons t rest ih =>
    obtain ⟨ht, hrest⟩ := List.nodup_cons.1 hts
    rw [List.foldl_cons, ih _ hrest, terminal_attend]
    by_cases hx : x = t
    · subst hx; simp [ht]
    · simp [hx]

/-! ### Listed records of a canonical table -/

section
variable {α : Type} [DecidableEq α] {d : α}

theorem Table.keys_filter_nodup {tab : Table α} (h : Table.wf d tab = true)
    (p : Nat × α → Bool) : (Table.keys (tab.filter p)).Nodup := by
  induction tab with
  | nil => exact List.nodup_nil
  | cons e rest ih =>
    obtain ⟨k, v⟩ := e
    obtain ⟨-, hlt, hrest⟩ := (Table.wf_cons d k v rest).1 h
    rw [List.filter_cons]
    split
    · refine List.nodup_cons.2 ⟨fun hk => ?_, ih hrest⟩
      obtain ⟨e, he, hek⟩ := List.mem_map.1 hk
      exact absurd (hek ▸ hlt e (List.mem_of_mem_filter he)) (Nat.lt_irrefl _)
    · exact ih hrest

/-- A canonical table lists a number with the value it is read with. -/
theorem Table.get_of_mem {tab : Table α} (h : Table.wf d tab = true) {k : Nat} {v : α}
    (hm : (k, v) ∈ tab) : Table.get d tab k = v := by
  induction tab with
  | nil => cases hm
  | cons e rest ih =>
    obtain ⟨j, w⟩ := e
    obtain ⟨-, hlt, hrest⟩ := (Table.wf_cons d j w rest).1 h
    rcases List.mem_cons.1 hm with heq | hm
    · obtain ⟨rfl, rfl⟩ := Prod.mk.inj heq
      simp [Table.get]
    · have hne : k ≠ j := Nat.ne_of_gt (hlt _ hm)
      simp [Table.get, hne, ih hrest hm]

omit [DecidableEq α] in
theorem Table.mem_of_get_ne {tab : Table α} {k : Nat} (h : Table.get d tab k ≠ d) :
    (k, Table.get d tab k) ∈ tab := by
  induction tab with
  | nil => exact absurd rfl h
  | cons e rest ih =>
    obtain ⟨j, w⟩ := e
    by_cases hk : k = j
    · subst hk; simp [Table.get]
    · simp only [Table.get, hk, if_false] at h ⊢
      exact List.mem_cons_of_mem _ (ih h)

/-- The numbers a canonical table lists with a property that the reset value lacks. -/
theorem Table.mem_keys_filter {tab : Table α} (h : Table.wf d tab = true) {p : α → Bool}
    (hd : p d = false) (k : Nat) :
    k ∈ Table.keys (tab.filter (fun e => p e.2)) ↔ p (Table.get d tab k) = true := by
  constructor
  · intro hk
    obtain ⟨⟨j, v⟩, he, rfl⟩ := List.mem_map.1 hk
    obtain ⟨hm, hp⟩ := List.mem_filter.1 he
    rwa [Table.get_of_mem h hm]
  · intro hp
    have hne : Table.get d tab k ≠ d := fun heq => by rw [heq, hd] at hp; cases hp
    exact List.mem_map.2 ⟨_, List.mem_filter.2 ⟨Table.mem_of_get_ne hne, hp⟩, rfl⟩

end

theorem mem_watchers {s : State} (h : Table.wf Terminal.initial s.terminals = true) (n x : Nat) :
    x ∈ s.watchers n ↔ (s.terminal x).configured = true ∧ n ∈ (s.terminal x).watches := by
  have hmem := Table.mem_keys_filter h
    (p := fun r => r.configured && r.watches.contains n) rfl x
  simpa [State.watchers, State.terminalsWith, State.terminal] using hmem

/-! ### Telling a change (R13 to R16) -/

theorem CopyCause.requester_ne (c : CopyCause) (x : Nat) :
    some x ≠ c.requester ↔ c ≠ .terminal x := by
  cases c <;> simp [CopyCause.requester, eq_comm]

theorem Change.toldToWatchers_iff (k : Change) :
    k.toldToWatchers = true ↔ k ≠ .announced ∧ k ≠ .overdue := by
  cases k <;> decide

/-- To whom a change is told: each configured watcher but the requester (R14). -/
abbrev State.isTold (s : State) (k : Change) (n : Nat) (cause : CopyCause) (x : Nat) : Prop :=
  k ≠ .announced ∧ k ≠ .overdue ∧ (s.terminal x).configured = true ∧
    n ∈ (s.terminal x).watches ∧ cause ≠ .terminal x

/-- What telling a change leaves of each terminal's record. -/
theorem terminal_tellWatchers {s : State} (h : Table.wf Terminal.initial s.terminals = true)
    (k : Change) (n : Nat) (cause : CopyCause) (x : Nat) :
    (s.tellWatchers k n cause).terminal x =
      if s.isTold k n cause x then
        (s.terminal x).attended (.watch k n (s.story n).desk (s.story n).revision)
      else s.terminal x := by
  unfold State.tellWatchers
  by_cases hk : k.toldToWatchers = true
  · obtain ⟨hann, hover⟩ := (Change.toldToWatchers_iff k).1 hk
    have hnodup : ((s.watchers n).filter (fun t => some t != cause.requester)).Nodup :=
      (Table.keys_filter_nodup h _).filter _
    have hmem : x ∈ (s.watchers n).filter (fun t => some t != cause.requester) ↔
        s.isTold k n cause x := by
      simp [State.isTold, mem_watchers h, CopyCause.requester_ne, hann, hover, and_assoc]
    rw [if_pos hk, terminal_attendAll _ _ hnodup]
    simp only [hmem]
  · have hnot : ¬ s.isTold k n cause x := fun ⟨hann, hover, _⟩ =>
      hk ((Change.toldToWatchers_iff k).2 ⟨hann, hover⟩)
    rw [if_neg hk, if_neg hnot]

theorem story_tellWatchers (s : State) (k : Change) (n : Nat) (cause : CopyCause) (m : Nat) :
    (s.tellWatchers k n cause).story m = s.story m := by
  have hst : s.stories = (s.tellWatchers k n cause).stories :=
    onlyChanges_tellWatchers s k n cause .stories (by decide)
  simp [State.story, State.story?, hst]

theorem copyEventOf_tellWatchers (s : State) (k : Change) (n : Nat) (cause : CopyCause) :
    (s.tellWatchers k n cause).copyEventOf k n cause = s.copyEventOf k n cause := by
  simp [State.copyEventOf, story_tellWatchers]

/-- Telling a change is the offer of its COPY EVENT, but for the attentions of the watchers. -/
theorem tellChange_onlyChanges (s : State) (k : Change) (n : Nat) (cause : CopyCause) :
    (s.offer (s.copyEventOf k n cause)).onlyChanges [.terminals] (s.tellChange k n cause) := by
  have htell : s.tellChange k n cause = (s.tellWatchers k n cause).offer (s.copyEventOf k n cause) :=
    congrArg (State.offer _) (copyEventOf_tellWatchers s k n cause)
  rw [htell]
  exact offer_onlyChanges (onlyChanges_tellWatchers s k n cause) (by decide) _

theorem terminal_tellChange (s : State) (k : Change) (n : Nat) (cause : CopyCause) (x : Nat) :
    (s.tellChange k n cause).terminal x = (s.tellWatchers k n cause).terminal x :=
  terminal_offer _ _ _

/-- Settles O33: the watchers are a list without repeats, so each is told once. -/
theorem watchersAreTold : Obligations.WatchersAreTold := by
  unfold Obligations.WatchersAreTold
  intro s k n cause hwf
  refine ⟨fun x => ?_, tellChange_onlyChanges s k n cause⟩
  rw [terminal_tellChange, terminal_tellWatchers hwf]
  unfold Terminal.attended joinAttention
  by_cases htold : s.isTold k n cause x
  · obtain ⟨hann, hover, hconf, hwatch, hcause⟩ := htold
    simp only [hann, hover, hconf, hwatch, hcause, State.isTold, ne_eq, not_false_eq_true, true_and,
      if_true]
  · rw [if_neg htold, if_neg]
    exact fun ⟨hann, hover, hconf, hwatch, hcause, _⟩ =>
      htold ⟨hann, hover, hconf, hwatch, hcause⟩

end Sys2Proof.Machine
end


section
/-! SUPPORT. The store processor's orders on stories (R7 to R11): an order is judged by a chain of checks in
the state its frame leaves, and a taken one writes the story's record once. -/

namespace Sys2Proof.Machine

/-! ### Writing a record twice -/

theorem Table.insert_insert {α : Type} (k : Nat) (v w : α) (tab : Table α) :
    Table.insert k w (Table.insert k v tab) = Table.insert k w tab := by
  induction tab with
  | nil => simp [Table.insert]
  | cons e rest ih =>
    obtain ⟨j, u⟩ := e
    by_cases hkj : k = j
    · simp [Table.insert, hkj]
    · by_cases hlt : k < j <;> simp [Table.insert, hkj, hlt, ih]

theorem putStory_putStory (s : State) (n : Nat) (a b : Story) :
    (s.putStory n (some a)).putStory n (some b) = s.putStory n (some b) := by
  simp [State.putStory, Table.put, Table.insert_insert]

theorem storyAt_putStory_self (s : State) (n : Nat) (o : Option Story) :
    (s.putStory n o).story? n = o := by simp

theorem modStory_of_live {s : State} {n : Nat} {st : Story} (h : s.story? n = some st)
    (f : Story → Story) : s.modStory n f = s.putStory n (some (f st)) := by
  simp [State.modStory, h]

theorem story_of_live {s : State} {n : Nat} {st : Story} (h : s.story? n = some st) :
    s.story n = st := by
  simp [State.story, h]

theorem live_of_not_free {s : State} {n : Nat} (h : s.story? n ≠ none) :
    s.story? n = some (s.story n) := by
  obtain ⟨st, hst⟩ := Option.ne_none_iff_exists'.1 h
  rw [story_of_live hst, hst]

/-! ### Filing a story (R25, R47) -/

/-- The reminder of a story that arrives at a desk: at count 0, only while RUNNING (R46, R47, R54). -/
def State.arrivalDue (s : State) (d : Nat) : Option Nat :=
  if s.part = .running then some (s.now + 1000 * min (s.desk d).t 3600) else none

/-- A story's record as it arrives FILED and unheld at a desk (R3, R25, R47). -/
def Story.arrived (st : Story) (d : Nat) (flash : Bool) (due : Option Nat) : Story :=
  { st with
    desk := d, flash := flash, state := .filed, holder := none, nudgeCount := 0, overdue := false,
    nudgeDue := due }

theorem nudgeArrive_of_live {s : State} {n : Nat} {st : Story} (h : s.story? n = some st) :
    s.nudgeArrive n =
      s.putStory n (some
        { st with nudgeCount := 0, overdue := false, nudgeDue := s.arrivalDue st.desk }) := by
  rw [State.nudgeArrive, modStory_of_live h]
  simp only [State.arrivalDue, State.nudgeDueFor, nudgeInterval, State.after, pow_zero, mul_one,
    Nat.mul_comm 1000]

theorem fileAt_of_live {s : State} {n : Nat} {st : Story} (h : s.story? n = some st) (d : Nat)
    (flash : Bool) :
    s.fileAt n d flash =
      (s.joinBasket d n flash).putStory n (some (st.arrived d flash (s.arrivalDue d))) := by
  have hjoin : (s.joinBasket d n flash).story? n = some st := h
  rw [State.fileAt, modStory_of_live hjoin,
    nudgeArrive_of_live (storyAt_putStory_self _ _ _), putStory_putStory]
  rfl

/-! ### Judging an order (R7, R177) -/

section
variable (s : State) (kind : Byte) (ident : Option Nat) (taken : State)

@[simp] theorem judge_nil : s.judge kind ident [] taken = taken := rfl

/-- The first check of a list decides, or the rest of the list does. -/
theorem judge_cons (fails : Bool) (code : Code) (rest : List (Bool × Code)) :
    s.judge kind ident ((fails, code) :: rest) taken =
      if fails = true then s.refuseOrder kind code ident else s.judge kind ident rest taken := by
  cases fails <;> rfl

end

theorem heard_refuseOrder (s : State) (kind : Byte) (code : Code) (ident : Option Nat) :
    s.heard.refuseOrder kind code ident = s.refused kind code ident := rfl

@[simp] theorem storyAt_heard (s : State) (n : Nat) : s.heard.story? n = s.story? n := rfl

@[simp] theorem desk_heard (s : State) (d : Nat) : s.heard.desk d = s.desk d := rfl

@[simp] theorem basket_heard (s : State) (d : Nat) : s.heard.basket d = s.basket d := rfl

@[simp] theorem basketFull_iff (s : State) (d : Nat) :
    s.basketFull d = true ↔ (s.desk d).capacity ≤ (s.basket d).count := by
  simp [State.basketFull]

@[simp] theorem isFree_iff (s : State) (n : Nat) : s.isFree n = true ↔ s.story? n = none := by
  simp [State.isFree]

theorem onSendingPage_iff (s : State) (n : Nat) :
    s.onSendingPage n = true ↔
      ((s.story n).page.map fun r => (s.page r).state) = some .sending := by
  unfold State.onSendingPage
  split <;> simp [*]

/-- A slug is empty when the length byte it is carried with is 0 (R7, R8). -/
theorem slug_isEmpty_iff {slug : List Byte} {n : Byte} (h : slug.length = n.toNat) :
    slug.isEmpty = true ↔ n = 0 := by
  rw [List.isEmpty_iff, ← List.length_eq_zero_iff, h, ← BitVec.toNat_inj]
  rfl

/-! ### The lowest free number (R5) -/

theorem lowestFrom_eq_none (free : Nat → Bool) (count start : Nat) :
    lowestFrom free count start = none ↔ ∀ k, start ≤ k → k < start + count → free k = false := by
  induction count generalizing start with
  | zero => simp only [lowestFrom, true_iff]; omega
  | succ count ih =>
    unfold lowestFrom
    by_cases hfree : free start = true
    · simp only [hfree, if_true, reduceCtorEq, false_iff]
      exact fun hall => absurd (hall start (Nat.le_refl _) (by omega)) (by simp [hfree])
    · rw [if_neg hfree, ih]
      refine ⟨fun hall k hk hlt => ?_, fun hall k hk hlt => hall k (by omega) (by omega)⟩
      rcases Nat.eq_or_lt_of_le hk with rfl | hk
      · simpa using hfree
      · exact hall k hk (by omega)

theorem lowestFrom_eq_some (free : Nat → Bool) (count start k : Nat) (hk : start ≤ k)
    (hlt : k < start + count) (hfree : free k = true)
    (hlow : ∀ j, start ≤ j → j < k → free j = false) : lowestFrom free count start = some k := by
  induction count generalizing start with
  | zero => omega
  | succ count ih =>
    unfold lowestFrom
    rcases Nat.eq_or_lt_of_le hk with rfl | hk
    · simp [hfree]
    · rw [hlow start (Nat.le_refl _) hk]
      exact ih (start + 1) hk (by omega) fun j hj => hlow j (by omega)

theorem lowestFree_eq_none (s : State) :
    s.lowestFree = none ↔ ∀ k, k < 1024 → s.story? k ≠ none := by
  simp [State.lowestFree, lowestFrom_eq_none, Option.isSome_iff_ne_none]

theorem lowestFree_eq_some {s : State} {k : Nat} (hk : k < 1024) (hfree : s.story? k = none)
    (hlow : ∀ j, j < k → s.story? j ≠ none) : s.lowestFree = some k := by
  refine lowestFrom_eq_some _ _ 0 k (Nat.zero_le k) (by simpa using hk) (by simp [hfree])
    fun j _ hj => ?_
  simpa [Option.isSome_iff_ne_none] using hlow j hj

/-! ### ANNOUNCE (R7) -/

theorem tellChange_announced (s : State) (n : Nat) (cause : CopyCause) :
    s.tellChange .announced n cause = s.offer (s.copyEventOf .announced n cause) := rfl

/-- A story that ANNOUNCE creates is written once, joins its tier, and is told to the store processor
alone (R7, R13). -/
theorem createStory_eq (s : State) (n d c : Nat) (flash : Bool) (slug : List Byte) :
    s.createStory n d c flash slug =
      ((s.putStory n (some
        { announcedStory d c flash slug with nudgeDue := s.arrivalDue d })).joinBasket d n
          flash).offer (.copyEvent .announced n .filed d 0 .order [] none) := by
  have hlive : ((s.putStory n (some (announcedStory d c flash slug))).joinBasket d n flash).story? n =
      some (announcedStory d c flash slug) := by simp [State.joinBasket]
  have hwrite : ((s.putStory n (some (announcedStory d c flash slug))).joinBasket d n
      flash).nudgeArrive n =
      (s.putStory n (some
        { announcedStory d c flash slug with nudgeDue := s.arrivalDue d })).joinBasket d n flash := by
    rw [nudgeArrive_of_live hlive]
    exact congrArg (fun u : State => u.joinBasket d n flash) (putStory_putStory s n _ _)
  rw [State.createStory, hwrite, tellChange_announced]
  simp [State.copyEventOf, State.story, State.joinBasket, announcedStory]

theorem Basket.join_readFlag (b : Basket) (k : Nat) (f : Byte) :
    b.join k (readFlag f) =
      if f = 0 then { b with ordinary := b.ordinary ++ [k] }
      else { b with flash := b.flash ++ [k] } := by
  by_cases hf : f = 0 <;> simp [Basket.join, readFlag, hf]

theorem exec_announce_of_listening {s : State} (h : s.listening) {d c f n : Byte}
    {slug : List Byte} (hlen : slug.length = n.toNat) :
    exec (.announce (d :: c :: f :: n :: slug)) s = .next
      (s.heard.judge Kind.announce (some d.toNat) (s.heard.announceChecks d.toNat c.toNat slug)
        (s.heard.takeAnnounce d.toNat c.toNat (readFlag f) slug)) := by
  have hn := n.isLt
  change Host.Outcome.next _ = _
  rw [takeFrame_of_listening s h _ _ (by simp only [List.length_cons]; omega)]
  simp [State.readBody, readAnnounce, hlen]

/-- Settles O30: the checks decide in their order, and a story is created under the lowest free number. -/
theorem announceCreatesAStory : Obligations.AnnounceCreatesAStory := by
  unfold Obligations.AnnounceCreatesAStory
  intro s d c f n slug hlisten hlen refuse b e body
  rw [exec_announce_of_listening hlisten hlen]
  simp only [State.announceChecks, judge_cons, judge_nil, heard_refuseOrder, slug_isEmpty_iff hlen,
    Bool.or_eq_true, decide_eq_true_eq, Bool.not_eq_true', Option.isNone_iff_eq_none,
    basketFull_iff]
  refine ⟨fun hrange => ?range, fun hd hc => ⟨fun hn => ?length, fun hn huse => ?noRoute,
    fun hn huse => ⟨fun hfull => ?full, fun k hk hfree hlow => ?taken⟩⟩⟩
  case range => rw [if_pos hrange]
  all_goals rw [if_neg (by omega : ¬ (15 < d.toNat ∨ 31 < c.toNat))]
  case length => rw [if_pos hn]
  all_goals rw [if_neg hn]
  case noRoute => exact congrArg _ (if_pos huse)
  all_goals rw [if_neg (by rw [desk_heard, huse]; decide)]
  case full => rw [if_pos ((lowestFree_eq_none s.heard).2 hfull)]
  case taken =>
    have hlowest : s.heard.lowestFree = some k := lowestFree_eq_some hk hfree hlow
    rw [if_neg (by rw [hlowest]; exact Option.some_ne_none k), State.takeAnnounce, hlowest]
    dsimp only
    rw [createStory_eq, State.joinBasket, State.basket_putStory_frame, basket_heard, Basket.join_readFlag]
    rfl

/-! ### MOVE and PULL (R9, R10) -/

theorem takeMove_of_live {s : State} {n : Nat} {st : Story} (h : s.story? n = some st) (d : Nat)
    (flash : Bool) :
    s.takeMove n d flash =
      (((s.leaveBasket st.desk n).joinBasket d n flash).putStory n
        (some (st.arrived d flash (s.arrivalDue d)))).tellChange .moved n .order := by
  rw [State.takeMove, story_of_live h, fileAt_of_live (s := s.leaveBasket st.desk n) h]
  rfl

theorem takePull_of_live {s : State} {n : Nat} {st : Story} (h : s.story? n = some st) (d : Nat)
    (flash : Bool) (cause : CopyCause) :
    s.takePull n d flash cause =
      ((((s.joinBasket d n flash).putStory n
        (some (st.arrived d flash (s.arrivalDue d)))).tellChange .moved n cause).storyPulled
          n).startTest := by
  rw [State.takePull, fileAt_of_live h]

/-- Settles O31: both orders file the story through `fileAt_of_live`. -/
theorem moveAndPullFileTheStory : Obligations.MoveAndPullFileTheStory := by
  unfold Obligations.MoveAndPullFileTheStory
  intro s hi lo d f hlisten n k st e filed move pull
  have hmove : exec (.move [hi, lo, d, f]) s = .next
      (s.heard.judge Kind.move (some n) (s.heard.moveChecks n k)
        (s.heard.takeMove n k (readFlag f))) :=
    congrArg Host.Outcome.next (takeFrame_of_listening s hlisten _ _ (by simp) _)
  have hpull : exec (.pull [hi, lo, d, f]) s = .next
      (s.heard.judge Kind.pull (some n) (s.heard.pullChecks n k)
        (s.heard.takePull n k (readFlag f) .order)) :=
    congrArg Host.Outcome.next (takeFrame_of_listening s hlisten _ _ (by simp) _)
  rw [hmove, hpull]
  simp only [State.moveChecks, State.pullChecks, judge_cons, judge_nil, heard_refuseOrder,
    basketFull_iff, isFree_iff, onSendingPage_iff, Bool.or_eq_true, decide_eq_true_eq, beq_iff_eq,
    Bool.not_eq_true', beq_eq_false_iff_ne]
  constructor
  · by_cases hfree : s.story? n = none
    · simp only [storyAt_heard, hfree, if_true]
      rfl
    · rw [takeMove_of_live (s := s.heard) (live_of_not_free hfree)]
      rfl
  · by_cases hfree : s.story? n = none
    · simp only [storyAt_heard, hfree, if_true]
      rfl
    · rw [takePull_of_live (s := s.heard) (live_of_not_free hfree)]
      rfl

/-! ### REVISE (R8) -/

theorem takeRevise_of_live {s : State} {n : Nat} {st : Story} (h : s.story? n = some st)
    (slug : List Byte) :
    s.takeRevise n slug =
      (((s.putStory n (some (st.revised slug))).tellChange .revised n .order).storyRevised
        n).startTest := by
  rw [State.takeRevise, modStory_of_live h]

theorem exec_revise_of_listening {s : State} (h : s.listening) {hi lo n : Byte}
    {slug : List Byte} (hlen : slug.length = n.toNat) :
    exec (.revise (hi :: lo :: n :: slug)) s = .next
      (s.heard.judge Kind.revise (some (nat2 hi lo))
        [(decide (1023 < nat2 hi lo), .range), (s.heard.isFree (nat2 hi lo), .noStory)]
        (s.heard.takeRevise (nat2 hi lo) slug)) := by
  have hn := n.isLt
  change Host.Outcome.next _ = _
  rw [takeFrame_of_listening s h _ _ (by simp only [List.length_cons]; omega)]
  simp [State.readBody, readRevise, hlen]

/-! ### PURGE (R11) -/

section
variable (s : State) (n : Nat)

@[simp] theorem storyAt_tellChange (k : Change) (cause : CopyCause) (m : Nat) :
    (s.tellChange k n cause).story? m = s.story? m :=
  congrArg (Table.get none · m) (onlyChanges_tellChange s k n cause .stories (by decide)).symm

@[simp] theorem basket_tellChange (k : Change) (cause : CopyCause) (d : Nat) :
    (s.tellChange k n cause).basket d = s.basket d :=
  congrArg (Table.get Basket.initial · d)
    (onlyChanges_tellChange s k n cause .baskets (by decide)).symm

@[simp] theorem terminal_forgetStory (x : Nat) :
    (s.forgetStory n).terminal x = (s.terminal x).forget n :=
  Table.get_update_keys Terminal.initial (fun r => r.forget n)
    (fun r => by simp [Terminal.forget, List.filter_filter]) rfl s.terminals x

theorem forget_attended (r : Terminal) (n : Nat) (told : Prop) [Decidable told]
    (b : AttentionBody) :
    Terminal.forget (if told then r.attended b else r) n =
      { r with
        watches := r.watches.filter (fun m => m != n),
        views := r.views.filter (fun m => m != n),
        attentions :=
          if told ∧ r.liveness ≠ .absent ∧ r.liveness ≠ .dark then joinAttention r.attentions b
          else r.attentions } := by
  unfold Terminal.forget Terminal.attended
  by_cases htold : told
  · by_cases hawake : r.liveness ≠ .absent ∧ r.liveness ≠ .dark
    · simp only [htold, hawake, and_self, if_true, ne_eq, not_false_eq_true, bne]
    · simp only [htold, hawake, and_false, if_true, if_false, bne]
  · simp only [htold, false_and, if_false, bne]

/-- The state in which a PURGE is told: a FILED story has left its basket (R11). -/
def State.unbasketed : State :=
  if (s.story n).state = .filed then s.leaveBasket (s.story n).desk n else s

theorem takePurge_eq :
    s.takePurge n =
      (((s.unbasketed n).tellChange .gone n .order).forgetStory n).putStory n none := rfl

theorem unbasketed_onlyChanges : s.onlyChanges [.baskets] (s.unbasketed n) := by
  unfold State.unbasketed
  split
  · exact onlyChanges_leaveBasket _ _ _
  · exact State.onlyChanges.refl _ s

theorem storyAt_unbasketed (m : Nat) : (s.unbasketed n).story? m = s.story? m :=
  congrArg (Table.get none · m) (unbasketed_onlyChanges s n .stories (by decide)).symm

theorem terminal_unbasketed (x : Nat) : (s.unbasketed n).terminal x = s.terminal x :=
  congrArg (Table.get Terminal.initial · x)
    (unbasketed_onlyChanges s n .terminals (by decide)).symm

theorem story_unbasketed (m : Nat) : (s.unbasketed n).story m = s.story m :=
  congrArg (·.getD Story.blank) (storyAt_unbasketed s n m)

theorem storyAt_takePurge (m : Nat) :
    (s.takePurge n).story? m = if m = n then none else s.story? m := by
  have hforget : ∀ u : State, (u.forgetStory n).story? m = u.story? m := fun _ => rfl
  rw [takePurge_eq, State.storyAt_putStory, hforget, storyAt_tellChange, storyAt_unbasketed]

theorem basket_takePurge (d : Nat) :
    (s.takePurge n).basket d =
      if (s.story n).state = .filed ∧ d = (s.story n).desk then (s.basket d).leave n
      else s.basket d := by
  have hforget : ∀ u : State, (u.forgetStory n).basket d = u.basket d := fun _ => rfl
  rw [takePurge_eq, State.basket_putStory_frame, hforget, basket_tellChange, State.unbasketed]
  by_cases hfiled : (s.story n).state = .filed
  · by_cases hd : d = (s.story n).desk <;> simp [hfiled, hd, State.leaveBasket]
  · simp [hfiled]

theorem terminal_takePurge (hwf : Table.wf Terminal.initial s.terminals = true) (x : Nat) :
    (s.takePurge n).terminal x =
      Terminal.forget
        (if (s.terminal x).configured = true ∧ n ∈ (s.terminal x).watches then
          (s.terminal x).attended (.watch .gone n (s.story n).desk (s.story n).revision)
        else s.terminal x) n := by
  have hterm : s.terminals = (s.unbasketed n).terminals :=
    unbasketed_onlyChanges s n .terminals (by decide)
  rw [takePurge_eq, State.terminal_putStory_frame, terminal_forgetStory, terminal_tellChange,
    terminal_tellWatchers (hterm ▸ hwf)]
  simp [State.isTold, terminal_unbasketed, story_unbasketed]

/-- A PURGE is the offer of its COPY EVENT, with the story's last values, but for the story's number, its
basket and the terminals (R11, R16, log 19). -/
theorem takePurge_onlyChanges :
    (s.offer (s.copyEventOf .gone n .order)).onlyChanges [.stories, .baskets, .terminals]
      (s.takePurge n) := by
  have hevent : (s.unbasketed n).copyEventOf .gone n .order = s.copyEventOf .gone n .order := by
    simp only [State.copyEventOf, story_unbasketed]
  have hleft := offer_onlyChanges (unbasketed_onlyChanges s n) (by decide)
    (s.copyEventOf .gone n .order)
  have htold := tellChange_onlyChanges (s.unbasketed n) .gone n .order
  rw [hevent] at htold
  have hforget : ∀ u : State, u.onlyChanges [.terminals] (u.forgetStory n) := by
    intro u f hf
    cases f <;> first | rfl | exact absurd (by decide) hf
  exact (((hleft.mono (by decide)).trans (htold.mono (by decide))).trans
    ((hforget _).mono (by decide))).trans ((onlyChanges_putStory _ _ _).mono (by decide))

end

/-- Settles O32: REVISE writes the record once, and PURGE leaves what the reads after `takePurge` say. -/
theorem reviseAndPurgeChangeTheStory : Obligations.ReviseAndPurgeChangeTheStory := by
  unfold Obligations.ReviseAndPurgeChangeTheStory
  intro s hi lo n slug hlisten hlen k st revise purge
  have hpurge : exec (.purge [hi, lo]) s = .next
      (s.heard.judge Kind.purge (some k) (s.heard.purgeChecks k) (s.heard.takePurge k)) :=
    congrArg Host.Outcome.next (takeFrame_of_listening s hlisten _ _ (by simp) _)
  rw [exec_revise_of_listening hlisten hlen, show nat2 hi lo = k from rfl, hpurge]
  simp only [State.purgeChecks, judge_cons, judge_nil, heard_refuseOrder, isFree_iff,
    decide_eq_true_eq, beq_iff_eq]
  refine ⟨?revise, fun hrange => ?range, fun hrange => ⟨fun hfree => ?free, fun hlive hheld => ?held,
    fun hlive hheld hplaced => ?placed, fun hlive hheld hplaced hwf => ⟨s.heard.takePurge k,
      ?taken, storyAt_takePurge _ k, basket_takePurge _ k, fun x => ?terminals, ?frame⟩⟩⟩
  case revise =>
    by_cases hfree : s.story? k = none
    · simp only [storyAt_heard, hfree, if_true]
      rfl
    · rw [takeRevise_of_live (s := s.heard) (live_of_not_free hfree)]
      simp only [Story.revised, slug_isEmpty_iff hlen]
      rfl
  case range => rw [if_pos hrange]
  case terminals =>
    rw [terminal_takePurge s.heard k hwf]
    simp only [forget_attended, and_assoc]
    rfl
  case frame => exact takePurge_onlyChanges s.heard k
  all_goals rw [if_neg (Nat.not_lt.2 hrange)]
  case free => rw [if_pos (show s.heard.story? k = none from hfree)]
  all_goals rw [if_neg (show ¬ s.heard.story? k = none by rw [storyAt_heard, hlive]; simp)]
  case held => exact congrArg _ (if_pos hheld)
  all_goals rw [if_neg (show ¬ (s.heard.story k).state = .held from hheld)]
  case placed => exact congrArg _ (if_pos hplaced)
  case taken => exact congrArg _ (if_neg (by simp [show (s.heard.story k).page = none from hplaced]))

end Sys2Proof.Machine
end


section
/-! SUPPORT. Where stories stand (R3, R4, R24): the invariant `State.storiesStand` as one condition on each
story, counted on every basket and hold list, and the relation of two states between which only the stories
of a list have moved. What the shared operations do to that relation is said here, once for each. -/

namespace Sys2Proof.Machine

/-! ### Where one story stands -/

/-- What a story's record says of the place of the story (R3, R4). -/
structure Standing where
  desk : Nat
  state : StoryState
  holder : Option Nat

def Story.standing (st : Story) : Standing :=
  { desk := st.desk, state := st.state, holder := st.holder }

/-- The standing of story `n`, or none while the number is free. -/
def State.standing (s : State) (n : Nat) : Option Standing := (s.story? n).map Story.standing

/-- How often a story of this standing is in desk `d`'s basket (R3, R24). -/
def basketCount (p : Option Standing) (d : Nat) : Nat :=
  match p with
  | some q => if q.desk = d ∧ (q.state = .filed ∨ q.state = .held) then 1 else 0
  | none => 0

/-- How often a story of this standing is on terminal `x`'s hold list (R4). -/
def holdCount (p : Option Standing) (x : Nat) : Nat :=
  match p with
  | some q => if q.holder = some x then 1 else 0
  | none => 0

/-- Story `n` is in the baskets and on the hold lists that its record names, once, and HELD exactly when it
has a holder (R3, R4, R24). -/
structure State.storyStands (s : State) (n : Nat) : Prop where
  inBasket : ∀ d, (s.basket d).all.count n = basketCount (s.standing n) d
  onHold : ∀ x, (s.terminal x).holds.count n = holdCount (s.standing n) x
  held : ∀ p, s.standing n = some p → (p.state = .held ↔ p.holder.isSome = true)

/-- A terminal that can hold stories: neither ABSENT nor DARK (R80, R90). -/
abbrev Terminal.awake (r : Terminal) : Prop := r.liveness ≠ .absent ∧ r.liveness ≠ .dark

/-- Configured exactly when not ABSENT (R80). -/
abbrev Terminal.sound (r : Terminal) : Prop := r.configured = true ↔ r.liveness ≠ .absent

/-- Every story stands where its record says, and every terminal but `asleep` that holds a story is neither
ABSENT nor DARK; a terminal that is going DARK is `asleep` until its stories are released (R90). -/
structure State.standsBut (s : State) (asleep : Option Nat) : Prop where
  canonical : Table.wf Terminal.initial s.terminals = true
  story : ∀ n, s.storyStands n
  sound : ∀ x, (s.terminal x).sound
  awake : ∀ x, some x ≠ asleep → (s.terminal x).holds ≠ [] → (s.terminal x).awake

theorem standing_of_live {s : State} {n : Nat} {st : Story} (h : s.story? n = some st) :
    s.standing n = some st.standing := by
  simp [State.standing, h]

theorem basketCount_standing (s : State) (n d : Nat) :
    basketCount (s.standing n) d = 1 ↔
      ∃ st, s.story? n = some st ∧ st.desk = d ∧ (st.state = .filed ∨ st.state = .held) := by
  cases h : s.story? n with
  | none => simp [State.standing, h, basketCount]
  | some st =>
    simp only [State.standing, h, basketCount, Story.standing, Option.map_some, Option.some.injEq,
      exists_eq_left']
    split <;> simp [*]

theorem holdCount_standing (s : State) (n x : Nat) :
    holdCount (s.standing n) x = 1 ↔ ∃ st, s.story? n = some st ∧ st.holder = some x := by
  cases h : s.story? n <;> simp [State.standing, h, holdCount, Story.standing]

theorem basketCount_le_one (p : Option Standing) (d : Nat) : basketCount p d ≤ 1 := by
  unfold basketCount
  split <;> [split <;> decide; decide]

theorem holdCount_le_one (p : Option Standing) (x : Nat) : holdCount p x ≤ 1 := by
  unfold holdCount
  split <;> [split <;> decide; decide]

/-- A list lists each number exactly as often as a count of at most 1 says. -/
theorem count_eq_iff (l : Nat → List Nat) (c : Nat → Nat → Nat) (hc : ∀ n d, c n d ≤ 1) :
    (∀ n d, (l d).count n = c n d) ↔ (∀ d n, n ∈ l d ↔ c n d = 1) ∧ ∀ d, (l d).Nodup := by
  constructor
  · intro hcount
    refine ⟨fun d n => ?_, fun d => List.nodup_iff_count_le_one.2 fun n => hcount n d ▸ hc n d⟩
    have := hc n d
    rw [← List.count_pos_iff, hcount]
    omega
  · rintro ⟨hmem, hnodup⟩ n d
    have hle := List.nodup_iff_count_le_one.1 (hnodup d) n
    have := hc n d
    by_cases hn : n ∈ l d
    · have hpos := List.count_pos_iff.2 hn
      have := (hmem d n).1 hn
      omega
    · have hzero := List.count_eq_zero.2 hn
      have : c n d ≠ 1 := fun h1 => hn ((hmem d n).2 h1)
      omega

/-- The invariant, story by story. -/
theorem storiesStand_iff (s : State) : s.storiesStand ↔ s.standsBut none := by
  have hbaskets := count_eq_iff (fun d => (s.basket d).all) (fun n d => basketCount (s.standing n) d)
    fun _ _ => basketCount_le_one _ _
  have hholds := count_eq_iff (fun x => (s.terminal x).holds)
    (fun n x => holdCount (s.standing n) x) fun _ _ => holdCount_le_one _ _
  simp only [basketCount_standing] at hbaskets
  simp only [holdCount_standing] at hholds
  constructor
  · intro h
    refine ⟨h.canonical, fun n => ⟨hbaskets.2 ⟨h.filed, h.once⟩ n,
      hholds.2 ⟨h.holds, h.holdsOnce⟩ n, fun p hp => ?_⟩, h.configured, fun x _ => h.awake x⟩
    obtain ⟨st, hst, rfl⟩ := Option.map_eq_some_iff.1 hp
    exact h.held n st hst
  · intro h
    obtain ⟨hfiled, honce⟩ := hbaskets.1 fun n => (h.story n).inBasket
    obtain ⟨hhold, hholdOnce⟩ := hholds.1 fun n => (h.story n).onHold
    exact ⟨h.canonical, hfiled, honce, fun n st hst => (h.story n).held _ (standing_of_live hst),
      hhold, hholdOnce, fun x => h.awake x (by simp), h.sound⟩

/-! ### Moves of some stories -/

/-- Between two states no story moves but those of the list; no terminal that can hold stories loses
that, and none that is sound is unsound afterwards. -/
structure State.moves (ns : List Nat) (s t : State) : Prop where
  canonical : Table.wf Terminal.initial s.terminals = true →
    Table.wf Terminal.initial t.terminals = true
  standing : ∀ n, n ∉ ns → t.standing n = s.standing n
  baskets : ∀ n, n ∉ ns → ∀ d, (t.basket d).all.count n = (s.basket d).all.count n
  holds : ∀ n, n ∉ ns → ∀ x, (t.terminal x).holds.count n = (s.terminal x).holds.count n
  sound : ∀ x, (s.terminal x).sound → (t.terminal x).sound
  awake : ∀ x, (s.terminal x).awake → (t.terminal x).awake

theorem State.moves.refl (ns : List Nat) (s : State) : s.moves ns s :=
  ⟨id, fun _ _ => rfl, fun _ _ _ => rfl, fun _ _ _ => rfl, fun _ => id, fun _ => id⟩

theorem State.moves.trans {ns : List Nat} {s t u : State} (h : s.moves ns t) (k : t.moves ns u) :
    s.moves ns u where
  canonical := k.canonical ∘ h.canonical
  standing n hn := (k.standing n hn).trans (h.standing n hn)
  baskets n hn d := (k.baskets n hn d).trans (h.baskets n hn d)
  holds n hn x := (k.holds n hn x).trans (h.holds n hn x)
  sound x := k.sound x ∘ h.sound x
  awake x := k.awake x ∘ h.awake x

/-- The same, from the last operation of a composition back to its first. -/
theorem State.moves.after {ns : List Nat} {s t u : State} (k : t.moves ns u) (h : s.moves ns t) :
    s.moves ns u := h.trans k

/-- Where no story moves, none but those of any list move. -/
theorem State.moves.weaken {s t : State} (h : s.moves [] t) (ns : List Nat) : s.moves ns t :=
  ⟨h.canonical, fun n _ => h.standing n (by simp), fun n _ => h.baskets n (by simp),
    fun n _ => h.holds n (by simp), h.sound, h.awake⟩

theorem State.moves.foldl {β : Type} {ns : List Nat} (g : State → β → State)
    (h : ∀ (s : State) (b : β), s.moves ns (g s b)) (l : List β) (s : State) :
    s.moves ns (l.foldl g s) := by
  induction l generalizing s with
  | nil => exact .refl ns s
  | cons b rest ih => exact (h s b).trans (ih (g s b))

/-- Stories stand where their records say after a move of some, when those do. -/
theorem State.standsBut.moved {a : Option Nat} {ns : List Nat} {s t : State} (h : s.standsBut a)
    (hm : s.moves ns t) (hstory : ∀ n ∈ ns, t.storyStands n)
    (hawake : ∀ n ∈ ns, ∀ x, n ∈ (t.terminal x).holds → (t.terminal x).awake) : t.standsBut a where
  canonical := hm.canonical h.canonical
  story n := by
    by_cases hn : n ∈ ns
    · exact hstory n hn
    · obtain ⟨hbasket, hhold, hheld⟩ := h.story n
      refine ⟨fun d => ?_, fun x => ?_, ?_⟩
      · rw [hm.baskets n hn, hm.standing n hn, hbasket]
      · rw [hm.holds n hn, hm.standing n hn, hhold]
      · rwa [hm.standing n hn]
  sound x := hm.sound x (h.sound x)
  awake x hx hholds := by
    obtain ⟨n, hn⟩ := List.exists_mem_of_ne_nil _ hholds
    by_cases hin : n ∈ ns
    · exact hawake n hin x hn
    · refine hm.awake x (h.awake x hx (List.ne_nil_of_mem (a := n) ?_))
      rwa [← List.count_pos_iff, ← hm.holds n hin, List.count_pos_iff]

theorem State.standsBut.kept {a : Option Nat} {s t : State} (h : s.standsBut a)
    (hm : s.moves [] t) : t.standsBut a :=
  h.moved hm (by simp) (by simp)

/-! ### Writes that move no story -/

theorem moves_of_tables {s t : State} (ns : List Nat) (hs : t.stories = s.stories)
    (hb : t.baskets = s.baskets) (ht : t.terminals = s.terminals) : s.moves ns t := by
  have hstory : ∀ n, t.standing n = s.standing n := fun n => by
    simp only [State.standing, State.story?, hs]
  have hbasket : ∀ d, t.basket d = s.basket d := fun d => by simp only [State.basket, hb]
  have hterm : ∀ x, t.terminal x = s.terminal x := fun x => by simp only [State.terminal, ht]
  refine ⟨fun hwf => ht ▸ hwf, fun n _ => hstory n, fun n _ d => ?_, fun n _ x => ?_,
    fun x => ?_, fun x => ?_⟩
  · rw [hbasket]
  · rw [hterm]
  · rw [hterm]; exact id
  · rw [hterm]; exact id

/-- The tables that say where stories stand. -/
def standingFields : List Field := [.stories, .baskets, .terminals]

theorem moves_of_frame {fs : List Field} {s t : State} (h : s.onlyChanges fs t)
    (hd : ∀ f ∈ standingFields, f ∉ fs) : s.moves [] t :=
  moves_of_tables [] (h .stories (hd _ (by decide))).symm (h .baskets (hd _ (by decide))).symm
    (h .terminals (hd _ (by decide))).symm

theorem moves_offer (s : State) (n : Notice) : s.moves [] (s.offer n) :=
  moves_of_frame (onlyChanges_offer s n) (by decide)

/-- A terminal's record is written, with the holds of all stories but those of the list. -/
theorem moves_putTerminal {ns : List Nat} {s : State} {x : Nat} {r : Terminal}
    (hholds : ∀ n, n ∉ ns → r.holds.count n = (s.terminal x).holds.count n)
    (hsound : (s.terminal x).sound → r.sound) (hawake : (s.terminal x).awake → r.awake) :
    s.moves ns (s.putTerminal x r) := by
  refine ⟨Table.wf_put _ _ _ _, fun _ _ => rfl, fun _ _ _ => rfl, fun n hn y => ?_, fun y => ?_,
    fun y => ?_⟩ <;> rw [State.terminal_putTerminal]
  · split
    · subst_vars; exact hholds n hn
    · rfl
  · split
    · subst_vars; exact hsound
    · exact id
  · split
    · subst_vars; exact hawake
    · exact id

/-- A terminal's record is written with its holds, its liveness and whether it is configured kept. -/
theorem moves_putTerminal_same {s : State} {x : Nat} {r : Terminal}
    (hholds : r.holds = (s.terminal x).holds) (hconf : r.configured = (s.terminal x).configured)
    (hlive : r.liveness = (s.terminal x).liveness) : s.moves [] (s.putTerminal x r) := by
  refine moves_putTerminal (fun n _ => by rw [hholds]) ?_ ?_
  · rw [Terminal.sound, Terminal.sound, hconf, hlive]; exact id
  · rw [Terminal.awake, Terminal.awake, hlive]; exact id

theorem moves_modStory_self (s : State) (n : Nat) (f : Story → Story) :
    s.moves [n] (s.modStory n f) := by
  unfold State.modStory
  split
  · refine ⟨id, fun m hm => ?_, fun _ _ _ => rfl, fun _ _ _ => rfl, fun _ => id, fun _ => id⟩
    have hne : m ≠ n := fun heq => hm (by simp [heq])
    simp only [State.standing, State.storyAt_putStory, hne, if_false]
  · exact .refl _ s

theorem standing_modStory (s : State) (n : Nat) (f : Story → Story) :
    (s.modStory n f).standing n = (s.story? n).map fun st => (f st).standing := by
  unfold State.modStory
  cases h : s.story? n <;> simp [State.standing, h]

/-- A record is rewritten with its standing kept. -/
theorem moves_modStory (s : State) (n : Nat) {f : Story → Story}
    (hf : ∀ st, (f st).standing = st.standing) : s.moves [] (s.modStory n f) := by
  have hframe := onlyChanges_modStory s n f
  have hself := moves_modStory_self s n f
  refine ⟨hself.canonical, fun m _ => ?_, fun _ _ d => ?_, fun _ _ x => ?_, hself.sound,
    hself.awake⟩
  · by_cases hm : m = n
    · subst hm; simp only [standing_modStory, hf]; rfl
    · exact hself.standing m (by simpa using hm)
  · rw [State.basket, State.basket, hframe .baskets (by decide)]
  · rw [State.terminal, State.terminal, hframe .terminals (by decide)]

/-- A rewriting of several records keeps what `g` reads of each when the function does. -/
theorem Table.get_update_of_keeps {α β : Type} [DecidableEq α] (d : α) (f : α → α) (g : α → β)
    (hf : ∀ v, g (f v) = g v) (ks : List Nat) (tab : Table α) (j : Nat) :
    g (Table.get d (Table.update d f ks tab) j) = g (Table.get d tab j) := by
  unfold Table.update
  induction ks generalizing tab with
  | nil => rfl
  | cons k rest ih =>
    rw [List.foldl_cons, ih, Table.get_put]
    split
    · subst_vars; exact hf _
    · rfl

theorem moves_updateStories (s : State) {f : Option Story → Option Story}
    (hf : ∀ o, (f o).map Story.standing = o.map Story.standing) (ks : List Nat) :
    s.moves [] { s with stories := Table.update none f ks s.stories } :=
  ⟨id, fun n _ => Table.get_update_of_keeps none f (Option.map Story.standing) hf ks s.stories n,
    fun _ _ _ => rfl, fun _ _ _ => rfl, fun _ => id, fun _ => id⟩

/-! ### Attentions and what the directory tells -/

theorem moves_attend (s : State) (t : Nat) (b : AttentionBody) : s.moves [] (s.attend t b) := by
  unfold State.attend
  dsimp only
  split
  · exact .refl _ s
  · exact moves_putTerminal_same rfl rfl rfl

theorem moves_attendAll (s : State) (ts : List Nat) (b : AttentionBody) :
    s.moves [] (s.attendAll ts b) :=
  .foldl _ (fun s t => moves_attend s t b) ts s

theorem moves_tellWatchers (s : State) (k : Change) (n : Nat) (c : CopyCause) :
    s.moves [] (s.tellWatchers k n c) := by
  unfold State.tellWatchers
  split
  · exact moves_attendAll _ _ _
  · exact .refl _ s

theorem moves_tellChange (s : State) (k : Change) (n : Nat) (c : CopyCause) :
    s.moves [] (s.tellChange k n c) := by
  unfold State.tellChange
  exact (moves_offer _ _).after (moves_tellWatchers s k n c)

theorem moves_liftStory (s : State) (n : Nat) : s.moves [] (s.liftStory n) :=
  (moves_tellChange _ _ _ _).after (moves_modStory s n fun _ => rfl)

/-! ### The page unit -/

theorem moves_evaluateJoins (s : State) : s.moves [] s.evaluateJoins :=
  moves_of_frame (onlyChanges_evaluateJoins s) (by decide)

theorem moves_movePage (s : State) (r : Nat) (p : Page) (c : PageCause) :
    s.moves [] (s.movePage r p c) :=
  moves_of_frame (onlyChanges_movePage s r p c) (by decide)

theorem moves_withdrawSection (s : State) (r : Nat) : s.moves [] (s.withdrawSection r) :=
  moves_of_frame (onlyChanges_withdrawSection s r) (by decide)

theorem moves_startTest (s : State) : s.moves [] s.startTest :=
  moves_of_frame (onlyChanges_startTest s) (by decide)

theorem moves_putPage (s : State) (r : Nat) (o : Option Page) : s.moves [] (s.putPage r o) :=
  moves_of_frame (onlyChanges_putPage s r o) (by decide)

theorem moves_putEdition (s : State) (e : Nat) (x : Edition) : s.moves [] (s.putEdition e x) :=
  moves_of_frame (onlyChanges_putEdition s e x) (by decide)

theorem moves_putTypesetter (s : State) (x : Typesetter) : s.moves [] (s.putTypesetter x) :=
  moves_of_frame (onlyChanges_putTypesetter s x) (by decide)

theorem moves_dequeue (s : State) (r : Nat) : s.moves [] (s.dequeue r) := moves_putTypesetter _ _

theorem moves_freePage (s : State) (r : Nat) (c : PageCause) : s.moves [] (s.freePage r c) := by
  unfold State.freePage
  exact (moves_offer _ _).after ((moves_putPage _ _ _).after (.foldl _ moves_liftStory _ s))

theorem moves_sealPages (s : State) (e : Nat) : s.moves [] (s.sealPages e) :=
  (State.moves.foldl _ (fun s r => moves_freePage s r .seal) _ _).after
    (.foldl _ moves_dequeue _ s)

theorem moves_seal (s : State) (e : Nat) : s.moves [] (s.seal e) :=
  (moves_putEdition _ _ _).after ((moves_offer _ _).after (moves_sealPages s e))

theorem moves_sealTest (s : State) (e : Nat) : s.moves [] (s.sealTest e) := by
  unfold State.sealTest
  split
  · exact moves_seal s e
  · exact .refl _ s

theorem moves_afterSend (s : State) (e : Nat) : s.moves [] (s.afterSend e) := by
  refine (moves_evaluateJoins _).after
    (State.moves.trans (moves_of_frame (onlyChanges_completeTest s e) (by decide)) ?_)
  split
  · exact moves_seal _ e
  · exact moves_sealTest _ e

theorem moves_storyPulled (s : State) (n : Nat) : s.moves [] (s.storyPulled n) := by
  unfold State.storyPulled
  split
  · exact .refl _ s
  · dsimp only
    split
    · exact (moves_evaluateJoins _).after ((moves_sealTest _ _).after
        ((moves_withdrawSection _ _).after (moves_movePage _ _ _ _)))
    · exact (moves_evaluateJoins _).after ((moves_sealTest _ _).after
        ((moves_withdrawSection _ _).after ((moves_movePage _ _ _ _).after (moves_dequeue _ _))))
    · exact (moves_evaluateJoins _).after (moves_movePage _ _ _ _)
    all_goals exact .refl _ s

/-! ### The typesetter unit -/

theorem moves_tsProceed (s : State) : s.moves [] s.tsProceed :=
  moves_of_frame (onlyChanges_tsProceed s) (by decide)

theorem moves_tsLine (s : State) : s.moves [] s.tsLine :=
  moves_of_frame (onlyChanges_tsLine s) (by decide)

theorem moves_callDue (s : State) : s.moves [] s.callDue :=
  moves_of_frame (onlyChanges_callDue s) (by decide)

theorem moves_completeSend (s : State) : s.moves [] s.completeSend := by
  unfold State.completeSend
  split
  · exact .refl _ s
  · exact (moves_startTest _).after ((moves_putTypesetter _ _).after ((moves_afterSend _ _).after
      ((moves_movePage _ _ _ _).after (moves_putTypesetter _ _))))

theorem moves_abandonSend (s : State) (c : AbandonCause) : s.moves [] (s.abandonSend c) :=
  moves_of_frame (onlyChanges_abandonSend s c) (by decide)

theorem moves_abandon (s : State) (c : AbandonCause) : s.moves [] (s.abandon c) := by
  unfold State.abandon
  split
  · exact .refl _ s
  · exact (moves_startTest _).after ((moves_tsLine _).after ((moves_afterSend _ _).after
      (moves_abandonSend s c)))

/-! ### The terminal lines and the frame store -/

theorem moves_putOutbound (s : State) (t : Nat) (fs : List OutFrame) (free : Nat) :
    s.moves [] { s.putTerminal t { s.terminal t with outbound := fs } with freeBlocks := free } :=
  State.moves.trans (t := s.putTerminal t { s.terminal t with outbound := fs })
    (moves_putTerminal_same (by rfl) (by rfl) (by rfl)) (moves_of_tables [] rfl rfl rfl)

theorem moves_discardFrames (s : State) (t : Nat) (p : OutFrame → Bool) :
    s.moves [] (s.discardFrames t p) :=
  moves_putOutbound s t _ _

theorem moves_appendFrame (s : State) (t : Nat) (f : OutFrame) : s.moves [] (s.appendFrame t f) :=
  moves_putOutbound s t _ _

theorem moves_extendOpen (s : State) (t : Nat) (f g : OutFrame) :
    s.moves [] (s.extendOpen t f g) :=
  moves_putOutbound s t _ _

theorem moves_wantRefresh (s : State) (t : Nat) (r : RefreshReason) :
    s.moves [] (s.wantRefresh t r) := by
  unfold State.wantRefresh
  dsimp only
  split
  · exact .refl _ s
  · split
    · exact moves_offer _ _
    · exact moves_putTerminal_same rfl rfl rfl

theorem moves_reofferRefresh (s : State) (t : Nat) : s.moves [] (s.reofferRefresh t) := by
  unfold State.reofferRefresh
  split
  · exact .refl _ s
  · split
    · refine State.moves.trans (moves_offer _ _) (moves_putTerminal_same ?_ ?_ ?_) <;>
        rw [terminal_offer]
    · exact .refl _ s

theorem moves_reconnect (s : State) (t : Nat) : s.moves [] (s.reconnect t) := by
  unfold State.reconnect
  dsimp only
  split
  · exact (moves_putTerminal_same (by rfl) (by rfl) (by rfl)).after ((moves_attend _ _ _).after (moves_offer _ _))
  · exact .refl _ s

theorem moves_putLine (s : State) (l : LineId) (x : Line) : s.moves [] (s.putLine l x) :=
  moves_of_frame (onlyChanges_putLine s l x) (by decide)

theorem moves_beginCycle (s : State) (l : LineId) (c : Nat) : s.moves [] (s.beginCycle l c) := by
  unfold State.beginCycle
  split
  · exact moves_putLine _ _ _
  · exact moves_putLine _ _ _

theorem moves_pollTurn (s : State) (l : LineId) : s.moves [] (s.pollTurn l) := by
  unfold State.pollTurn
  dsimp only
  split
  · exact moves_putLine _ _ _
  · exact moves_beginCycle _ _ _

/-- What an output turn leaves of a record: its attentions or frames are fewer. -/
theorem nextOutput_keeps {r q : Terminal} {w : LineFrame} (h : r.nextOutput = some (w, q)) :
    q.holds = r.holds ∧ q.configured = r.configured ∧ q.liveness = r.liveness := by
  unfold Terminal.nextOutput at h
  split at h
  · cases h; exact ⟨rfl, rfl, rfl⟩
  · cases h; exact ⟨rfl, rfl, rfl⟩
  · cases h

theorem moves_beginOutput (s : State) (l : LineId) (d : Nat) : s.moves [] (s.beginOutput l d) := by
  unfold State.beginOutput
  dsimp only
  split
  · exact .refl _ s
  · rename_i hnext
    obtain ⟨hholds, hconf, hlive⟩ := nextOutput_keeps hnext
    exact (moves_putLine _ _ _).after (moves_putTerminal_same hholds hconf hlive)

theorem moves_lineTurn (s : State) (l : LineId) : s.moves [] (s.lineTurn l) := by
  unfold State.lineTurn
  split
  · split
    · exact moves_beginOutput _ _ _
    · exact moves_pollTurn _ _
  · exact moves_pollTurn _ _

/-! ### Liveness: answers (R89, R91) -/

/-- A terminal that is not ABSENT is written WAKING or LIVE. -/
theorem moves_putTerminal_awake {s : State} {x : Nat} {r : Terminal}
    (hholds : r.holds = (s.terminal x).holds) (hconf : r.configured = (s.terminal x).configured)
    (hpresent : (s.terminal x).liveness ≠ .absent)
    (l : Liveness) (hlive : r.liveness = l) (hawake : l ≠ .absent ∧ l ≠ .dark) :
    s.moves [] (s.putTerminal x r) := by
  subst hlive
  refine moves_putTerminal (fun n _ => by rw [hholds]) (fun hs => ?_) (fun _ => hawake)
  rw [Terminal.sound, hconf]
  exact ⟨fun _ => hawake.1, fun _ => hs.2 hpresent⟩

theorem moves_goLive (s : State) (t : Nat) (hpresent : (s.terminal t).liveness ≠ .absent) :
    s.moves [] (s.goLive t) :=
  (moves_reconnect _ _).after ((moves_wantRefresh _ _ _).after
    (moves_putTerminal_awake (by rfl) (by rfl) hpresent .live (by rfl) (by decide)))

theorem moves_countAnswer (s : State) (t : Nat) (r : Terminal)
    (hholds : r.holds = (s.terminal t).holds) (hconf : r.configured = (s.terminal t).configured)
    (hlive : r.liveness = (s.terminal t).liveness)
    (hpresent : (s.terminal t).liveness ≠ .absent) : s.moves [] (s.countAnswer t r) := by
  unfold State.countAnswer
  split
  · refine (moves_putTerminal_same hholds hconf hlive).trans (moves_goLive _ t ?_)
    simpa only [State.terminal_putTerminal, if_true, hlive] using hpresent
  · exact moves_putTerminal_awake hholds hconf hpresent .waking rfl (by decide)

/-- The liveness update of an answer moves no story: it only wakes terminals. -/
theorem moves_answerLiveness (s : State) (t : Nat) : s.moves [] (s.answerLiveness t) := by
  unfold State.answerLiveness
  dsimp only
  split
  case h_1 => exact .refl _ s
  case h_2 hw => exact moves_countAnswer _ _ _ rfl rfl rfl (by rw [hw]; decide)
  case h_3 => exact (moves_reofferRefresh _ _).after (moves_putTerminal_same (by rfl) (by rfl) (by rfl))
  case h_4 hf => exact moves_putTerminal_awake rfl rfl (by rw [hf]; decide) .live rfl (by decide)
  case h_5 hd => exact moves_countAnswer _ _ _ rfl rfl rfl (by rw [hd]; decide)

/-! ### The store link -/

theorem moves_endStoreLost (s : State) : s.moves [] s.endStoreLost := by
  unfold State.endStoreLost
  split
  · exact (moves_startTest _).after ((moves_attendAll _ _ _).after (moves_of_tables [] rfl rfl rfl))
  · exact .refl _ s

theorem moves_hearFrame (s : State) : s.moves [] s.hearFrame :=
  (moves_endStoreLost _).after (moves_of_tables [] rfl rfl rfl)

theorem moves_refuseOrder (s : State) (k : Byte) (c : Code) (i : Option Nat) :
    s.moves [] (s.refuseOrder k c i) := moves_offer _ _

end Sys2Proof.Machine
end


section
/-! SUPPORT. The moves of stories (R7 to R11, R32 to R43, R90): a story that is filed, held, released, set,
spiked or purged stands where its new record says. -/

namespace Sys2Proof.Machine

/-! ### Baskets and hold lists, counted -/

theorem count_filter_ne (l : List Nat) (n m : Nat) :
    (l.filter fun k => !(k == n)).count m = if m = n then 0 else l.count m := by
  split
  · subst_vars
    simp [List.count_eq_zero]
  · exact List.count_filter (by simpa)

theorem count_singleton_eq (n m : Nat) : [n].count m = if m = n then 1 else 0 := by
  rw [List.count_singleton]
  simp only [beq_iff_eq, eq_comm (a := n)]

theorem Basket.count_all_leave (b : Basket) (n m : Nat) :
    (b.leave n).all.count m = if m = n then 0 else b.all.count m := by
  simp only [Basket.leave, Basket.all, List.count_append, count_filter_ne]
  split <;> rfl

theorem Basket.count_all_join (b : Basket) (n : Nat) (flash : Bool) (m : Nat) :
    (b.join n flash).all.count m = b.all.count m + if m = n then 1 else 0 := by
  cases flash
  · simp only [Basket.join, Basket.all, List.count_append, count_singleton_eq, Bool.false_eq_true,
      if_false, Nat.add_assoc]
  · simp only [Basket.join, Basket.all, List.count_append, count_singleton_eq, if_true]
    omega

/-! ### What each move leaves of its story -/

section
variable (s : State) (n : Nat)

@[simp] theorem basket_modStory (f : Story → Story) (d : Nat) :
    (s.modStory n f).basket d = s.basket d :=
  congrArg (Table.get Basket.initial · d) (onlyChanges_modStory s n f .baskets (by decide)).symm

@[simp] theorem terminal_modStory (f : Story → Story) (x : Nat) :
    (s.modStory n f).terminal x = s.terminal x :=
  congrArg (Table.get Terminal.initial · x)
    (onlyChanges_modStory s n f .terminals (by decide)).symm

theorem storyAt_modStory_self (f : Story → Story) :
    (s.modStory n f).story? n = (s.story? n).map f := by
  unfold State.modStory
  cases h : s.story? n <;> simp [h]

@[simp] theorem count_leaveBasket (d x : Nat) :
    ((s.leaveBasket d n).basket x).all.count n =
      if x = d then 0 else (s.basket x).all.count n := by
  rw [State.leaveBasket, State.basket_putBasket]
  split
  · rw [Basket.count_all_leave, if_pos rfl]
  · rfl

@[simp] theorem count_joinBasket (d x : Nat) (flash : Bool) :
    ((s.joinBasket d n flash).basket x).all.count n =
      (s.basket x).all.count n + if x = d then 1 else 0 := by
  rw [State.joinBasket, State.basket_putBasket]
  split
  · subst_vars; rw [Basket.count_all_join, if_pos rfl]
  · rfl

@[simp] theorem count_fileAt (d x : Nat) (flash : Bool) :
    ((s.fileAt n d flash).basket x).all.count n =
      (s.basket x).all.count n + if x = d then 1 else 0 := by
  rw [State.fileAt, State.nudgeArrive, basket_modStory, basket_modStory, count_joinBasket]

@[simp] theorem terminal_fileAt (d x : Nat) (flash : Bool) :
    (s.fileAt n d flash).terminal x = s.terminal x := by
  rw [State.fileAt, State.nudgeArrive, terminal_modStory, terminal_modStory]
  rfl

theorem standing_fileAt (d : Nat) (flash : Bool) :
    (s.fileAt n d flash).standing n =
      (s.standing n).map fun _ => { desk := d, state := .filed, holder := none } := by
  rw [State.fileAt, State.nudgeArrive, standing_modStory, storyAt_modStory_self]
  simp only [State.standing, Option.map_map]
  rfl

@[simp] theorem count_dropHold (t x : Nat) :
    ((s.dropHold t n).terminal x).holds.count n =
      if x = t then 0 else (s.terminal x).holds.count n := by
  rw [State.dropHold, State.terminal_putTerminal]
  split
  · rw [count_filter_ne, if_pos rfl]
  · rfl

@[simp] theorem count_addHold (t x : Nat) :
    ((s.addHold t n).terminal x).holds.count n =
      (s.terminal x).holds.count n + if x = t then 1 else 0 := by
  rw [State.addHold, State.terminal_putTerminal]
  split
  · subst_vars; rw [List.count_append, count_singleton_eq, if_pos rfl]
  · rfl

/-! ### A move leaves every other story alone -/

theorem moves_putBasket {ns : List Nat} {d : Nat} {b : Basket}
    (h : ∀ m, m ∉ ns → b.all.count m = (s.basket d).all.count m) :
    s.moves ns (s.putBasket d b) := by
  refine ⟨id, fun _ _ => rfl, fun m hm x => ?_, fun _ _ _ => rfl, fun _ => id, fun _ => id⟩
  rw [State.basket_putBasket]
  split
  · subst_vars; exact h m hm
  · rfl

theorem moves_leaveBasket (d : Nat) : s.moves [n] (s.leaveBasket d n) :=
  moves_putBasket s fun m hm => by
    rw [Basket.count_all_leave, if_neg (by simpa using hm)]

theorem moves_joinBasket (d : Nat) (flash : Bool) : s.moves [n] (s.joinBasket d n flash) :=
  moves_putBasket s fun m hm => by
    rw [Basket.count_all_join, if_neg (by simpa using hm), Nat.add_zero]

theorem moves_fileAt (d : Nat) (flash : Bool) : s.moves [n] (s.fileAt n d flash) :=
  (moves_modStory_self _ n _).after
    ((moves_modStory_self _ n _).after (moves_joinBasket s n d flash))

theorem moves_dropHold (t : Nat) : s.moves [n] (s.dropHold t n) :=
  moves_putTerminal (fun m hm => by rw [count_filter_ne, if_neg (by simpa using hm)]) id id

theorem moves_addHold (t : Nat) : s.moves [n] (s.addHold t n) :=
  moves_putTerminal
    (fun m hm => by
      rw [List.count_append, count_singleton_eq, if_neg (by simpa using hm), Nat.add_zero]) id id

theorem moves_putStory (o : Option Story) : s.moves [n] (s.putStory n o) := by
  refine ⟨id, fun m hm => ?_, fun _ _ _ => rfl, fun _ _ _ => rfl, fun _ => id, fun _ => id⟩
  have hne : m ≠ n := by simpa using hm
  simp only [State.standing, State.storyAt_putStory, hne, if_false]

theorem moves_releaseInPlace : s.moves [n] (s.releaseInPlace n) :=
  (moves_modStory_self _ n _).after (moves_modStory_self s n _)

end

/-! ### Where a story stood -/

section
variable {s : State} {n : Nat} {st : Story}

theorem basket_count_of_live (h : s.storyStands n) (hst : s.story? n = some st) (d : Nat) :
    (s.basket d).all.count n =
      if st.desk = d ∧ (st.state = .filed ∨ st.state = .held) then 1 else 0 := by
  rw [h.inBasket, standing_of_live hst]
  rfl

theorem hold_count_of_live (h : s.storyStands n) (hst : s.story? n = some st) (x : Nat) :
    (s.terminal x).holds.count n = if st.holder = some x then 1 else 0 := by
  rw [h.onHold, standing_of_live hst]
  rfl

theorem holder_of_not_held (h : s.storyStands n) (hst : s.story? n = some st)
    (hheld : st.state ≠ .held) : st.holder = none := by
  have hiff : st.state = .held ↔ st.holder.isSome = true := h.held _ (standing_of_live hst)
  cases hx : st.holder with
  | none => rfl
  | some x => exact absurd (hiff.2 (by rw [hx]; rfl)) hheld

/-- No list but its holder's has a held story. -/
theorem held_elsewhere (t x : Nat) :
    (if x = t then 0 else if some t = some x then 1 else 0) = 0 := by
  by_cases hx : x = t
  · rw [if_pos hx]
  · rw [if_neg hx, if_neg fun heq => hx (Option.some.inj heq).symm]

/-- A story that is in no basket once it has left its desk's. -/
theorem count_leave_own (h : s.storyStands n) (hst : s.story? n = some st) (x : Nat) :
    ((s.leaveBasket st.desk n).basket x).all.count n = 0 := by
  rw [count_leaveBasket]
  by_cases hx : x = st.desk
  · rw [if_pos hx]
  · rw [if_neg hx, basket_count_of_live h hst, if_neg fun hd => hx hd.1.symm]

end

/-! ### A story moves off every hold list -/

/-- A story that no terminal holds any more stands where its record says if its baskets are right. -/
theorem State.standsBut.moved_unheld {a : Option Nat} {s t : State} (h : s.standsBut a) {n : Nat}
    (hm : s.moves [n] t) (hbasket : ∀ d, (t.basket d).all.count n = basketCount (t.standing n) d)
    (hhold : ∀ x, (t.terminal x).holds.count n = 0)
    (hunheld : t.standing n = none ∨
      ∃ d q, q ≠ .held ∧ t.standing n = some { desk := d, state := q, holder := none }) :
    t.standsBut a := by
  have hstands : t.storyStands n := by
    rcases hunheld with hnone | ⟨d, q, hq, hsome⟩
    · exact ⟨hbasket, fun x => by rw [hhold, hnone]; rfl, by simp [hnone]⟩
    · exact ⟨hbasket, fun x => by rw [hhold, hsome]; rfl, by simp [hsome, hq]⟩
  refine h.moved hm (by simpa using hstands) fun m hm x hx => ?_
  obtain rfl : m = n := by simpa using hm
  exact absurd hx (List.count_eq_zero.1 (hhold x))

/-- A story that is in no basket and on no hold list is filed at a desk. -/
theorem State.standsBut.filed {a : Option Nat} {s t u : State} (h : s.standsBut a) {n d : Nat}
    {flash : Bool} (hm : s.moves [n] t) (hbasket : ∀ x, (t.basket x).all.count n = 0)
    (hu : (t.fileAt n d flash).moves [n] u)
    (hb : ∀ x, u.basket x = (t.fileAt n d flash).basket x)
    (hs : u.standing n = (t.fileAt n d flash).standing n)
    (hhold : ∀ x, (u.terminal x).holds.count n = 0) (hlive : t.story? n ≠ none) :
    u.standsBut a := by
  obtain ⟨st, hst⟩ := Option.ne_none_iff_exists'.1 hlive
  have hstanding : u.standing n = some { desk := d, state := .filed, holder := none } := by
    rw [hs, standing_fileAt, standing_of_live hst]
    rfl
  refine h.moved_unheld (hu.after ((moves_fileAt t n d flash).after hm)) (fun x => ?_) hhold
    (.inr ⟨_, _, by decide, hstanding⟩)
  rw [hb, hstanding, count_fileAt, hbasket]
  simp [basketCount, eq_comm]

/-- A story that is in no basket and on no hold list is filed at a desk (R9, R10, R43). -/
theorem State.standsBut.filedAt {a : Option Nat} {s t : State} (h : s.standsBut a) {n d : Nat}
    {flash : Bool} (hm : s.moves [n] t) (hbasket : ∀ x, (t.basket x).all.count n = 0)
    (hhold : ∀ x, (t.terminal x).holds.count n = 0) (hlive : t.story? n ≠ none) :
    (t.fileAt n d flash).standsBut a :=
  h.filed hm hbasket (.refl _ _) (fun _ => rfl) rfl
    (fun x => by rw [terminal_fileAt, hhold]) hlive

/-! ### The orders on stories (R7 to R11) -/

theorem standsBut_takeMove {s : State} (h : s.standsBut none) {n d : Nat} {flash : Bool}
    {st : Story} (hst : s.story? n = some st) (hfiled : st.state = .filed) :
    (s.takeMove n d flash).standsBut none := by
  rw [State.takeMove, story_of_live hst]
  refine State.standsBut.kept ?_ (moves_tellChange _ _ _ _)
  have hholder := holder_of_not_held (h.story n) hst (by rw [hfiled]; decide)
  refine h.filedAt (moves_leaveBasket s n _) (count_leave_own (h.story n) hst) (fun x => ?_) ?_
  · exact (hold_count_of_live (h.story n) hst x).trans (by simp [hholder])
  · exact Option.ne_none_iff_exists'.2 ⟨st, hst⟩

theorem standsBut_takePull {s : State} (h : s.standsBut none) {n d : Nat} {flash : Bool}
    {cause : CopyCause} {st : Story} (hst : s.story? n = some st) (hset : st.state = .set) :
    (s.takePull n d flash cause).standsBut none := by
  refine State.standsBut.kept ?_ ((moves_startTest _).after
    ((moves_storyPulled _ n).after (moves_tellChange _ .moved n cause)))
  have hholder := holder_of_not_held (h.story n) hst (by rw [hset]; decide)
  refine h.filedAt (.refl _ s) (fun x => ?_) (fun x => ?_) ?_
  · rw [basket_count_of_live (h.story n) hst, hset]
    simp
  · rw [hold_count_of_live (h.story n) hst, hholder]
    simp
  · exact Option.ne_none_iff_exists'.2 ⟨st, hst⟩

theorem standsBut_createStory {s : State} (h : s.standsBut none) {n d c : Nat} {flash : Bool}
    {slug : List Byte} (hfree : s.story? n = none) :
    (s.createStory n d c flash slug).standsBut none := by
  rw [createStory_eq]
  refine State.standsBut.kept ?_ (moves_offer _ _)
  have hnone : s.standing n = none := by rw [State.standing, hfree]; rfl
  refine h.moved_unheld ((moves_joinBasket _ n d flash).after (moves_putStory s n _))
    (fun x => ?_) (fun x => ?_) (.inr ⟨d, .filed, by decide, ?_⟩)
  · rw [count_joinBasket, State.basket_putStory_frame, (h.story n).inBasket, hnone]
    simp [State.standing, State.joinBasket, Story.standing, announcedStory, basketCount, eq_comm]
  · exact ((h.story n).onHold x).trans (by rw [hnone]; rfl)
  · simp [State.standing, State.joinBasket, Story.standing, announcedStory]

theorem moves_forgetStory (s : State) (n : Nat) : s.moves [] (s.forgetStory n) where
  canonical := Table.wf_update Terminal.initial (fun r => r.forget n) (Table.keys s.terminals) s.terminals
  standing _ _ := rfl
  baskets _ _ _ := rfl
  holds _ _ x := by rw [terminal_forgetStory]; rfl
  sound x := by rw [terminal_forgetStory]; exact id
  awake x := by rw [terminal_forgetStory]; exact id

theorem standsBut_takePurge {s : State} (h : s.standsBut none) {n : Nat} {st : Story}
    (hst : s.story? n = some st) (hheld : st.state ≠ .held) :
    (s.takePurge n).standsBut none := by
  have hstory : s.story n = st := story_of_live hst
  have hholder := holder_of_not_held (h.story n) hst hheld
  have hleft : s.moves [n] (s.unbasketed n) := by
    unfold State.unbasketed
    split
    · exact moves_leaveBasket _ _ _
    · exact .refl _ s
  have htold : (s.unbasketed n).moves [] (((s.unbasketed n).tellChange .gone n .order).forgetStory n) :=
    (moves_forgetStory _ n).after (moves_tellChange _ _ _ _)
  refine h.moved_unheld ((moves_putStory _ n none).after ((htold.weaken [n]).after hleft))
    (fun d => ?_) (fun x => ?_) (.inl ?_)
  · rw [State.standing, storyAt_takePurge, if_pos rfl, basket_takePurge, hstory]
    by_cases hd : st.state = .filed ∧ d = st.desk
    · rw [if_pos hd, Basket.count_all_leave, if_pos rfl]
      rfl
    · rw [if_neg hd, basket_count_of_live (h.story n) hst, if_neg]
      · rfl
      · rintro ⟨rfl, hfiled | hheld'⟩
        · exact hd ⟨hfiled, rfl⟩
        · exact hheld hheld'
  · rw [takePurge_eq, State.terminal_putStory_frame, htold.holds n (by simp),
      terminal_unbasketed, hold_count_of_live (h.story n) hst, hholder]
    simp
  · rw [State.standing, storyAt_takePurge, if_pos rfl]
    rfl

/-! ### The requests on stories (R32 to R43) -/

/-- A held story is released FILED in place, and leaves its holder's list (R18, R41). -/
theorem State.standsBut.released {a : Option Nat} {s : State} (h : s.standsBut a) {n t : Nat}
    {st : Story} (hst : s.story? n = some st) (hheld : st.state = .held)
    (hholder : st.holder = some t) : ((s.releaseInPlace n).dropHold t n).standsBut a := by
  have hstanding : ((s.releaseInPlace n).dropHold t n).standing n =
      some { desk := st.desk, state := .filed, holder := none } := by
    change (s.releaseInPlace n).standing n = _
    rw [State.releaseInPlace, State.nudgeRelease, standing_modStory, storyAt_modStory_self, hst]
    rfl
  refine h.moved_unheld ((moves_dropHold _ n t).after (moves_releaseInPlace s n)) (fun d => ?_)
    (fun x => ?_) (.inr ⟨_, _, by decide, hstanding⟩)
  · have hbasket : ((s.releaseInPlace n).dropHold t n).basket d = s.basket d := by
      change (s.releaseInPlace n).basket d = _
      rw [State.releaseInPlace, State.nudgeRelease, basket_modStory, basket_modStory]
    rw [hbasket, hstanding, basket_count_of_live (h.story n) hst]
    simp [basketCount, hheld]
  · rw [count_dropHold, State.releaseInPlace, State.nudgeRelease, terminal_modStory,
      terminal_modStory, hold_count_of_live (h.story n) hst, hholder, held_elsewhere]

theorem standsBut_takeReturn {s : State} (h : s.standsBut none) {n t : Nat} {st : Story}
    (hst : s.story? n = some st) (hheld : st.state = .held) (hholder : st.holder = some t) :
    (s.takeReturn t n).standsBut none :=
  (h.released hst hheld hholder).kept ((moves_tellChange _ _ _ _).after (moves_attend _ _ _))

theorem standsBut_sendToDesk {s : State} (h : s.standsBut none) {n t d : Nat} {flash : Bool}
    {st : Story} (hst : s.story? n = some st) (hholder : st.holder = some t) :
    (s.sendToDesk t n d flash).standsBut none := by
  rw [State.sendToDesk, story_of_live hst]
  refine State.standsBut.kept ?_ ((moves_tellChange _ _ _ _).after (moves_attend _ _ _))
  refine h.filed (moves_leaveBasket s n st.desk) (count_leave_own (h.story n) hst)
    (moves_dropHold _ n t) (fun _ => rfl) rfl (fun x => ?_)
    (Option.ne_none_iff_exists'.2 ⟨st, hst⟩)
  have hold : ((s.leaveBasket st.desk n).terminal x).holds.count n = _ :=
    hold_count_of_live (h.story n) hst x
  rw [count_dropHold, terminal_fileAt, hold, hholder, held_elsewhere]

/-- A story that leaves its basket and its holder's list, and is in no basket by its new record. -/
theorem State.standsBut.withdrawn {s u : State} (h : s.standsBut none) {n t : Nat} {st : Story}
    (hst : s.story? n = some st) (hholder : st.holder = some t ∨ st.holder = none)
    (hm : (s.leaveBasket st.desk n).moves [n] u)
    (hbasket : ∀ d, u.basket d = (s.leaveBasket st.desk n).basket d)
    (hterm : ∀ x, u.terminal x = s.terminal x)
    (hs : u.standing n = some { desk := st.desk, state := .set, holder := none } ∨
      u.standing n = some { desk := st.desk, state := .spiked, holder := none }) :
    (u.dropHold t n).standsBut none := by
  refine h.moved_unheld ((moves_dropHold u n t).after (hm.after (moves_leaveBasket s n st.desk)))
    (fun d => ?_) (fun x => ?_) (.inr ?_)
  · change (u.basket d).all.count n = basketCount (u.standing n) d
    rw [hbasket, count_leave_own (h.story n) hst]
    rcases hs with hs | hs <;> simp [hs, basketCount]
  · rw [count_dropHold, hterm, hold_count_of_live (h.story n) hst]
    rcases hholder with hx | hx
    · rw [hx, held_elsewhere]
    · simp [hx]
  · rcases hs with hs | hs
    · exact ⟨_, _, by decide, hs⟩
    · exact ⟨_, _, by decide, hs⟩

theorem standsBut_sendToSet {s : State} (h : s.standsBut none) {n t : Nat} {st : Story}
    (hst : s.story? n = some st) (hholder : st.holder = some t) :
    (s.sendToSet t n).standsBut none := by
  rw [State.sendToSet, story_of_live hst]
  refine State.standsBut.kept ?_ ((moves_startTest _).after
    (State.moves.after (moves_of_frame (onlyChanges_storySet _ n) (by decide))
      ((moves_tellChange _ _ _ _).after (moves_attend _ _ _))))
  refine h.withdrawn hst (.inl hholder) (moves_modStory_self _ n _) (fun _ => basket_modStory _ _ _ _)
    (fun _ => terminal_modStory _ _ _ _) (.inl ?_)
  rw [standing_modStory, show (s.leaveBasket st.desk n).story? n = some st from hst]
  rfl

theorem standsBut_takeSpike {s : State} (h : s.standsBut none) {n t : Nat} {st : Story}
    (hst : s.story? n = some st) (hholder : st.holder = some t ∨ st.holder = none) :
    (s.takeSpike t n).standsBut none := by
  rw [State.takeSpike, story_of_live hst]
  refine State.standsBut.kept ?_ ((moves_tellChange _ _ _ _).after (moves_attend _ _ _))
  refine h.withdrawn hst hholder ((moves_modStory_self _ n _).after (moves_modStory_self _ n _))
    (fun d => ?_) (fun x => ?_) (.inr ?_)
  · rw [State.nudgeLeave, basket_modStory, basket_modStory]
  · rw [State.nudgeLeave, terminal_modStory, terminal_modStory]
    rfl
  · rw [State.nudgeLeave, standing_modStory, storyAt_modStory_self,
      show (s.leaveBasket st.desk n).story? n = some st from hst]
    rfl

theorem standsBut_holdStory {s : State} (h : s.standsBut none) {n t : Nat} {q : RequestKind}
    {st : Story} (hst : s.story? n = some st) (hfiled : st.state = .filed)
    (hawake : (s.terminal t).awake) : (s.holdStory t n q).standsBut none := by
  refine State.standsBut.kept ?_ ((moves_tellChange _ _ _ _).after
    ((moves_offer _ _).after (moves_putTerminal_same (by rfl) (by rfl) (by rfl))))
  have hholder := holder_of_not_held (h.story n) hst (by rw [hfiled]; decide)
  generalize hu : (s.modStory n _).nudgeLeave n = u
  have hm : s.moves [n] u := by
    rw [← hu]
    exact (moves_modStory_self _ n _).after (moves_modStory_self s n _)
  have hbasket : ∀ d, u.basket d = s.basket d := fun d => by
    rw [← hu, State.nudgeLeave, basket_modStory, basket_modStory]
  have hterm : ∀ x, u.terminal x = s.terminal x := fun x => by
    rw [← hu, State.nudgeLeave, terminal_modStory, terminal_modStory]
  have hstanding : u.standing n = some { desk := st.desk, state := .held, holder := some t } := by
    rw [← hu, State.nudgeLeave, standing_modStory, storyAt_modStory_self, hst]
    rfl
  have hcount : ∀ x, ((u.addHold t n).terminal x).holds.count n = if x = t then 1 else 0 := by
    intro x
    rw [count_addHold, hterm, hold_count_of_live (h.story n) hst, hholder]
    simp
  refine h.moved ((moves_addHold u n t).after hm) ?_ ?_ <;>
    simp only [List.mem_singleton, forall_eq]
  · refine ⟨fun d => ?_, fun x => ?_, fun p hp => ?_⟩
    · change (u.basket d).all.count n = basketCount (u.standing n) d
      rw [hbasket, hstanding, basket_count_of_live (h.story n) hst, hfiled]
      simp [basketCount]
    · rw [hcount]
      change _ = holdCount (u.standing n) x
      simp [hstanding, holdCount, eq_comm]
    · obtain rfl := Option.some.inj (hstanding.symm.trans hp)
      simp
  · intro x hx
    have hxt : x = t := by
      by_contra hne
      rw [← List.count_pos_iff, hcount, if_neg hne] at hx
      exact absurd hx (Nat.lt_irrefl 0)
    subst hxt
    simpa [State.addHold, hterm] using hawake

/-! ### Darkness (R90) -/

/-- A terminal's record is written with its holds kept; if it holds stories it is awake, or `asleep`. -/
theorem State.standsBut.putTerminal {s : State} (h : s.standsBut none) {a : Option Nat} {t : Nat}
    {r : Terminal} (hholds : r.holds = (s.terminal t).holds) (hsound : r.sound)
    (hawake : some t ≠ a → r.holds ≠ [] → r.awake) : (s.putTerminal t r).standsBut a where
  canonical := Table.wf_put _ _ _ _ h.canonical
  story n := by
    refine ⟨(h.story n).inBasket, fun x => ?_, (h.story n).held⟩
    rw [State.terminal_putTerminal]
    split
    · subst_vars; rw [hholds]; exact (h.story n).onHold _
    · exact (h.story n).onHold x
  sound x := by
    rw [State.terminal_putTerminal]
    split
    · exact hsound
    · exact h.sound x
  awake x hx hne := by
    rw [State.terminal_putTerminal] at hne ⊢
    split at hne
    · subst_vars; rw [if_pos rfl]; exact hawake hx hne
    · rw [if_neg ‹_›]; exact h.awake x (by simp) hne

/-- A terminal that is going DARK: its stories stand, and it alone still holds some asleep. -/
theorem standsBut_darkened {s : State} (h : s.standsBut none) {t : Nat}
    (hpresent : (s.terminal t).liveness ≠ .absent) :
    (s.putTerminal t (s.terminal t).darkened).standsBut (some t) :=
  h.putTerminal rfl ⟨fun _ => by simp [Terminal.darkened], fun _ => (h.sound t).2 hpresent⟩
    fun hne => absurd rfl hne

/-- Each story of a terminal that goes DARK is released, and the list of those it still holds shortens. -/
theorem standsBut_releaseAll {c : CopyCause} {t : Nat} (l : List Nat) {s : State}
    (h : s.standsBut (some t)) (hl : ∀ n, (s.terminal t).holds.count n = l.count n) :
    (l.foldl (State.releaseHeld c t) s).standsBut (some t) ∧
      ((l.foldl (State.releaseHeld c t) s).terminal t).holds = [] := by
  induction l generalizing s with
  | nil => exact ⟨h, List.eq_nil_iff_forall_not_mem.2 fun n => List.count_eq_zero.1 (hl n)⟩
  | cons n rest ih =>
    have hone : holdCount (s.standing n) t = rest.count n + 1 := by
      rw [← (h.story n).onHold, hl, List.count_cons_self]
    have hle := holdCount_le_one (s.standing n) t
    have hzero : rest.count n = 0 := by omega
    obtain ⟨st, hst, hholder⟩ := (holdCount_standing s n t).1 (by omega)
    have hheld : st.state = .held :=
      ((h.story n).held _ (standing_of_live hst)).2 (by rw [Story.standing, hholder]; rfl)
    have htell := moves_tellChange ((s.releaseInPlace n).dropHold t n) .released n c
    refine ih ((h.released hst hheld hholder).kept htell) fun m => ?_
    rw [State.releaseHeld, htell.holds m (by simp)]
    by_cases hm : m = n
    · subst hm
      rw [count_dropHold, if_pos rfl, hzero]
    · have hmoves := (moves_dropHold (s.releaseInPlace n) n t).after (moves_releaseInPlace s n)
      rw [hmoves.holds m (by simpa using hm), hl, List.count_cons_of_ne (Ne.symm hm)]

theorem standsBut_goDark {s : State} (h : s.standsBut none) {t : Nat}
    (hpresent : (s.terminal t).liveness ≠ .absent) : (s.goDark t).standsBut none := by
  have hholds : ((s.putTerminal t (s.terminal t).darkened).terminal t).holds =
      (s.terminal t).holds := by
    rw [State.terminal_putTerminal, if_pos rfl]
    rfl
  obtain ⟨hstands, hempty⟩ := standsBut_releaseAll (c := .darkness) (s.terminal t).holds
    (standsBut_darkened h hpresent) fun n => by rw [hholds]
  unfold State.goDark
  refine State.standsBut.kept ?_ ((moves_offer _ _).after (moves_discardFrames _ _ _))
  refine ⟨hstands.canonical, hstands.story, hstands.sound, fun x _ hne => ?_⟩
  by_cases hx : x = t
  · subst hx
    exact absurd hempty hne
  · exact hstands.awake x (fun heq => hx (Option.some.inj heq)) hne

theorem standsBut_countMiss {s : State} (h : s.standsBut none) {t : Nat} {r : Terminal}
    {fallback : Liveness} (hpresent : (s.terminal t).liveness ≠ .absent)
    (hholds : r.holds = (s.terminal t).holds) (hconf : r.configured = (s.terminal t).configured)
    (hlive : r.liveness = (s.terminal t).liveness)
    (hawake : fallback ≠ .absent ∧ fallback ≠ .dark) :
    (s.countMiss t r fallback).standsBut none := by
  unfold State.countMiss
  split
  · refine standsBut_goDark (h.kept (moves_putTerminal_same hholds hconf hlive)) ?_
    rwa [State.terminal_putTerminal, if_pos rfl, hlive]
  · exact h.kept (moves_putTerminal_awake hholds hconf hpresent fallback rfl hawake)

/-- A miss moves no story but those of a terminal that goes DARK (R86, R89, R90). -/
theorem standsBut_miss {s : State} (h : s.standsBut none) (t : Nat) :
    (s.miss t).standsBut none := by
  unfold State.miss
  dsimp only
  split
  case h_1 => exact h
  case h_2 hw => exact standsBut_countMiss h (by rw [hw]; decide) rfl rfl rfl (by decide)
  case h_3 hl => exact standsBut_countMiss h (by rw [hl]; decide) rfl rfl rfl (by decide)
  case h_4 hf => exact standsBut_countMiss h (by rw [hf]; decide) rfl rfl rfl (by decide)
  case h_5 => exact h

end Sys2Proof.Machine
end


section
/-! SUPPORT. Restarts, orders and the events of the store link and the typesetter line: each keeps every
story where its record says. -/

namespace Sys2Proof.Machine

/-! ### Restarts (R19, R20, R191) -/

theorem moves_relink (s : State) (cause : RestartCause) : s.moves [] (s.relink cause) :=
  (moves_offer _ _).after (moves_of_tables [] rfl rfl rfl)

theorem moves_restartLines (s : State) : s.moves [] s.restartLines :=
  (moves_tsLine _).after (.foldl _ (fun s l => moves_beginCycle s l 0) _ s)

/-- A state with no story, no basket and no terminal listed. -/
theorem standsBut_of_clear {s : State} (hs : s.stories = []) (hb : s.baskets = [])
    (ht : s.terminals = []) : s.standsBut none := by
  have hstanding : ∀ n, s.standing n = none := fun n => by
    rw [State.standing, State.story?, hs]; rfl
  have hbasket : ∀ d, s.basket d = Basket.initial := fun d => by rw [State.basket, hb]; rfl
  have hterm : ∀ x, s.terminal x = Terminal.initial := fun x => by rw [State.terminal, ht]; rfl
  refine ⟨by rw [ht]; rfl, fun n => ⟨fun d => ?_, fun x => ?_, fun p hp => ?_⟩, fun x => ?_,
    fun x _ hne => ?_⟩
  · rw [hstanding, hbasket]; rfl
  · rw [hstanding, hterm]; rfl
  · rw [hstanding] at hp; cases hp
  · rw [hterm]; decide
  · rw [hterm] at hne; exact absurd rfl hne

theorem standsBut_coldRestart (s : State) (cause : RestartCause) :
    (s.coldRestart cause).standsBut none :=
  State.standsBut.kept (standsBut_of_clear rfl rfl rfl)
    ((moves_restartLines _).after (moves_relink _ cause))

theorem Story.afterWarm_afterWarm (st : Story) : st.afterWarm.afterWarm = st.afterWarm := by
  by_cases h : st.state = .held <;> simp [Story.afterWarm, h]

theorem Terminal.afterWarm_afterWarm (r : Terminal) : r.afterWarm.afterWarm = r.afterWarm := by
  by_cases h : r.configured = true <;> simp [Terminal.afterWarm, h, Terminal.initial]

theorem Terminal.afterWarm_holds (r : Terminal) : r.afterWarm.holds = [] := by
  unfold Terminal.afterWarm
  split <;> rfl

theorem Terminal.afterWarm_sound (r : Terminal) : r.afterWarm.sound := by
  unfold Terminal.afterWarm
  split
  · exact ⟨fun _ => by simp, fun _ => rfl⟩
  · decide

/-- Where a story stands after a warm restart: FILED in place if it was HELD (R20). -/
def Standing.afterWarm (p : Standing) : Standing :=
  { p with state := if p.state = .held then .filed else p.state, holder := none }

theorem basketCount_afterWarm (p : Option Standing) (d : Nat) :
    basketCount (p.map Standing.afterWarm) d = basketCount p d := by
  cases p with
  | none => rfl
  | some q => by_cases h : q.state = .held <;> simp [basketCount, Standing.afterWarm, h]

/-- A warm restart takes every story off the hold lists, in its basket as before (R20, R99). -/
theorem standsBut_warmBlocks {s : State} (h : s.standsBut none) :
    s.warmBlocks.standsBut none := by
  have ha := h.kept (moves_abandonSend s .restart)
  have hstanding : ∀ n, s.warmBlocks.standing n =
      ((s.abandonSend .restart).standing n).map Standing.afterWarm := by
    intro n
    have hget : s.warmBlocks.story? n = ((s.abandonSend .restart).story? n).map Story.afterWarm :=
      Table.get_update_keys none (fun o => o.map Story.afterWarm)
        (fun o => by cases o <;> simp [Story.afterWarm_afterWarm]) rfl _ n
    rw [State.standing, hget, State.standing, Option.map_map, Option.map_map]
    rfl
  have hterm : ∀ x, s.warmBlocks.terminal x = ((s.abandonSend .restart).terminal x).afterWarm :=
    fun x => Table.get_update_keys Terminal.initial Terminal.afterWarm
      Terminal.afterWarm_afterWarm rfl _ x
  refine ⟨Table.wf_update _ _ _ _ ha.canonical, fun n => ⟨fun d => ?_, fun x => ?_, fun p hp => ?_⟩,
    fun x => ?_, fun x _ hne => ?_⟩
  · rw [hstanding, basketCount_afterWarm]
    exact (ha.story n).inBasket d
  · rw [hstanding, hterm, Terminal.afterWarm_holds]
    cases (s.abandonSend .restart).standing n <;> rfl
  · rw [hstanding] at hp
    obtain ⟨q, -, rfl⟩ := Option.map_eq_some_iff.1 hp
    by_cases hq : q.state = .held <;> simp [Standing.afterWarm, hq]
  · rw [hterm]
    exact Terminal.afterWarm_sound _
  · rw [hterm, Terminal.afterWarm_holds] at hne
    exact absurd rfl hne

theorem standsBut_warmRestart {s : State} (h : s.standsBut none) :
    s.warmRestart.standsBut none := by
  have hlinked := (standsBut_warmBlocks h).kept (moves_relink _ .warmOrder)
  unfold State.warmRestart
  refine State.standsBut.kept ?_ (moves_restartLines _)
  split
  · exact hlinked.kept (moves_afterSend _ _)
  · exact hlinked

theorem standsBut_orderedRestart {s : State} (h : s.standsBut none) (k : RestartKind) :
    (s.orderedRestart k).standsBut none := by
  cases k with
  | full => exact standsBut_coldRestart s .fullOrder
  | warm => exact standsBut_warmRestart h

/-! ### Judging (R176, R177) -/

/-- Whatever state a meaning answers, every story stands there where its record says. -/
def Answer.stands (a : Answer) : Prop := ∀ t, a = .next t → t.standsBut none

theorem stands_next {t : State} (h : t.standsBut none) : Answer.stands (.next t) := by
  rintro _ ⟨⟩
  exact h

theorem firstRefusal_cons (fails : Bool) (code : Code) (rest : List (Bool × Code)) :
    firstRefusal ((fails, code) :: rest) = none ↔ fails = false ∧ firstRefusal rest = none := by
  cases fails <;> simp [firstRefusal]

theorem firstRefusal_append (l r : List (Bool × Code)) :
    firstRefusal (l ++ r) = none ↔ firstRefusal l = none ∧ firstRefusal r = none := by
  induction l with
  | nil => simp [firstRefusal]
  | cons e rest ih =>
    obtain ⟨fails, code⟩ := e
    rw [List.cons_append, firstRefusal_cons, firstRefusal_cons, ih, and_assoc]

section
variable {s : State} (h : s.standsBut none)
include h

theorem standsBut_takeFrame (kind : Byte) (body : List Byte) {judge : State → State}
    (hjudge : ∀ u : State, u.standsBut none → (judge u).standsBut none) :
    (s.takeFrame kind body judge).standsBut none := by
  unfold State.takeFrame
  split
  · exact h.kept ((moves_refuseOrder _ _ _ _).after (moves_of_tables [] rfl rfl rfl))
  · split
    · exact h.kept (moves_hearFrame s)
    · exact hjudge _ (h.kept (moves_hearFrame s))

/-- An order is kept to the invariant by what its judging does with a body that has been read. -/
theorem stands_order {α : Type} {kind : Byte} {body : List Byte} {ident : Option Nat}
    {fields : Option α} {judge : State → α → State}
    (hjudge : ∀ (u : State) (x : α), u.standsBut none → (judge u x).standsBut none) :
    Answer.stands (.next (s.takeFrame kind body fun u => u.readBody kind ident fields (judge u))) := by
  refine stands_next (standsBut_takeFrame h kind body fun u hu => ?_)
  unfold State.readBody
  split
  · exact hu.kept (moves_refuseOrder _ _ _ _)
  · exact hjudge u _ hu

theorem standsBut_judge {kind : Byte} {ident : Option Nat} {checks : List (Bool × Code)}
    {taken : State} (htaken : firstRefusal checks = none → taken.standsBut none) :
    (s.judge kind ident checks taken).standsBut none := by
  unfold State.judge
  split
  · exact h.kept (moves_refuseOrder _ _ _ _)
  · exact htaken ‹_›

/-- An order whose taking moves no story. -/
theorem standsBut_judge_kept {kind : Byte} {ident : Option Nat} {checks : List (Bool × Code)}
    {taken : State} (htaken : s.moves [] taken) : (s.judge kind ident checks taken).standsBut none :=
  standsBut_judge h fun _ => h.kept htaken

end

/-! ### What taken orders do, other than to move stories -/

theorem moves_nudgeResume (s : State) : s.moves [] s.nudgeResume :=
  moves_updateStories s (fun o => by
    cases o with
    | none => rfl
    | some st =>
      simp only [Option.map_some]
      split <;> rfl) _

theorem moves_nudgeStop (s : State) : s.moves [] s.nudgeStop :=
  moves_updateStories s (fun o => by cases o <;> rfl) _

theorem moves_takeRun (s : State) : s.moves [] s.takeRun :=
  (moves_startTest _).after ((moves_nudgeResume _).after (moves_of_tables [] rfl rfl rfl))

theorem moves_takeIdle (s : State) : s.moves [] s.takeIdle :=
  (moves_nudgeStop _).after (moves_of_tables [] rfl rfl rfl)

theorem moves_deskTurns (s : State) (d : Nat) (was is : Bool) :
    s.moves [] (s.deskTurns d was is) := by
  have hclear : s.moves [] (s.putPressure d Pressure.initial) := moves_of_tables [] rfl rfl rfl
  unfold State.deskTurns
  split
  · exact .refl _ s
  · dsimp only
    split
    · exact (moves_offer _ _).after hclear
    · exact hclear

theorem moves_takeLoadDesk (s : State) (x : DeskLoad) : s.moves [] (s.takeLoadDesk x) :=
  (moves_deskTurns _ _ _ _).after (moves_of_tables [] rfl rfl rfl)

theorem moves_takeReseed (s : State) (d : Nat) : s.moves [] (s.takeReseed d) := by
  have hseed : s.moves [] (s.reseedDesk d) := moves_of_tables [] rfl rfl rfl
  unfold State.takeReseed
  dsimp only
  split
  · exact (moves_offer _ _).after hseed
  · exact hseed

theorem moves_answerStatus (s : State) : s.moves [] s.answerStatus := by
  unfold State.answerStatus
  split
  · exact State.moves.trans (moves_offer s _) (moves_of_tables [] rfl rfl rfl)
  · exact moves_offer _ _

theorem moves_takeRevise (s : State) (n : Nat) (slug : List Byte) :
    s.moves [] (s.takeRevise n slug) :=
  (moves_startTest _).after (State.moves.after
    (moves_of_frame (onlyChanges_storyRevised _ n) (by decide))
    ((moves_tellChange _ _ _ _).after (moves_modStory s n fun _ => rfl)))

theorem moves_continueScreen (s : State) (x : ScreenOrder) : s.moves [] (s.continueScreen x) := by
  unfold State.continueScreen
  split
  · exact moves_refuseOrder _ _ _ _
  · split
    · exact (moves_refuseOrder _ _ _ _).after (moves_discardFrames _ _ _)
    · split
      · exact (moves_refuseOrder _ _ _ _).after (moves_discardFrames _ _ _)
      · exact moves_extendOpen _ _ _ _

theorem moves_newScreen (s : State) (x : ScreenOrder) (form : Form) :
    s.moves [] (s.newScreen x form) := by
  unfold State.newScreen State.roomForScreen
  dsimp only
  split
  · exact (moves_wantRefresh _ _ _).after ((moves_discardFrames _ _ _).after
      (moves_discardFrames _ _ _))
  · split
    · exact (moves_refuseOrder _ _ _ _).after (moves_discardFrames _ _ _)
    · exact (moves_appendFrame _ _ _).after (moves_discardFrames _ _ _)

theorem moves_takeScreen (s : State) (x : ScreenOrder) : s.moves [] (s.takeScreen x) := by
  unfold State.takeScreen
  split
  · exact moves_continueScreen s x
  · split
    · exact .refl _ s
    · exact moves_newScreen s x _

theorem moves_takeStart (s : State) (e : Nat) : s.moves [] (s.takeStart e) :=
  (moves_startTest _).after ((moves_evaluateJoins _).after (moves_putEdition _ _ _))

theorem moves_takeSeal (s : State) (e : Nat) : s.moves [] (s.takeSeal e) :=
  (moves_startTest _).after ((moves_evaluateJoins _).after (moves_seal _ _))

theorem moves_closeOther (s : State) (c : Nat) : s.moves [] (s.closeOther c) := by
  unfold State.closeOther
  split
  · split
    · exact (moves_sealPages _ _).after (moves_putEdition _ _ _)
    · exact moves_seal _ _
  · exact .refl _ s

theorem moves_closeOthers (s : State) (e : Nat) : s.moves [] (s.closeOthers e) := by
  unfold State.closeOthers
  dsimp only
  split
  · exact .refl _ s
  · exact (moves_evaluateJoins _).after (.foldl _ moves_closeOther _ s)

theorem moves_closeItself (s : State) (e : Nat) : s.moves [] (s.closeItself e) := by
  unfold State.closeItself
  dsimp only
  split
  · exact (moves_evaluateJoins _).after ((moves_seal _ _).after (moves_putEdition _ _ _))
  · exact moves_putEdition _ _ _

theorem moves_takeClose (s : State) (e : Nat) : s.moves [] (s.takeClose e) :=
  (moves_startTest _).after ((moves_closeItself _ _).after (moves_closeOthers s e))

theorem moves_takeMakePage (s : State) (e k : Nat) : s.moves [] (s.takeMakePage e k) := by
  unfold State.takeMakePage
  split
  · exact .refl _ s
  · exact moves_movePage _ _ _ _

theorem moves_pageAfterPlace (s : State) (r : Nat) (b : Bool) :
    s.moves [] (s.pageAfterPlace r b) := by
  unfold State.pageAfterPlace
  dsimp only
  split
  case h_3 =>
    split
    · exact .refl _ s
    · exact (moves_evaluateJoins _).after ((moves_sealTest _ _).after
        ((moves_withdrawSection _ _).after (moves_movePage _ _ _ _)))
  case h_6 => exact (moves_evaluateJoins _).after (moves_movePage _ _ _ _)
  all_goals exact .refl _ s

theorem moves_takePlace (s : State) (n r : Nat) : s.moves [] (s.takePlace n r) :=
  (moves_startTest _).after ((moves_pageAfterPlace _ _ _).after ((moves_tellChange _ _ _ _).after
    ((moves_modStory _ n fun _ => by rfl).after (moves_putPage s r _))))

theorem moves_pageAfterLift (s : State) (r : Nat) : s.moves [] (s.pageAfterLift r) := by
  unfold State.pageAfterLift
  dsimp only
  split
  case h_2 =>
    split
    · exact (moves_evaluateJoins _).after (moves_movePage _ _ _ _)
    · exact .refl _ s
  case h_6 => exact (moves_evaluateJoins _).after (moves_movePage _ _ _ _)
  all_goals exact .refl _ s

theorem moves_takeLift (s : State) (n : Nat) : s.moves [] (s.takeLift n) := by
  unfold State.takeLift
  split
  · exact .refl _ s
  · exact (moves_startTest _).after ((moves_pageAfterLift _ _).after
      ((moves_liftStory _ _).after (moves_putPage _ _ _)))

theorem moves_takeRelease (s : State) (r : Nat) : s.moves [] (s.takeRelease r) := by
  unfold State.takeRelease
  dsimp only
  split
  · exact (moves_startTest _).after ((moves_evaluateJoins _).after (moves_movePage _ _ _ _))
  · exact (moves_startTest _).after ((moves_evaluateJoins _).after
      ((moves_withdrawSection _ _).after (moves_movePage _ _ _ _)))

theorem moves_takeReplate (s : State) (r : Nat) : s.moves [] (s.takeReplate r) := by
  have hspent : s.moves [] (s.spendJoin (s.page r).edition) :=
    moves_of_frame (onlyChanges_spendJoin s _) (by decide)
  unfold State.takeReplate
  dsimp only
  refine (moves_startTest _).after ((moves_evaluateJoins _).after ((moves_sealTest _ _).after ?_))
  split
  · exact (moves_withdrawSection _ _).after ((moves_movePage _ _ _ _).after hspent)
  · exact (moves_movePage _ _ _ _).after hspent

theorem moves_takeDropPage (s : State) (r : Nat) : s.moves [] (s.takeDropPage r) := by
  unfold State.takeDropPage
  exact (moves_startTest _).after ((moves_evaluateJoins _).after ((moves_sealTest _ _).after
    ((moves_offer _ _).after ((moves_putEdition _ _ _).after ((moves_putPage _ _ _).after
      (.foldl _ moves_liftStory _ s))))))

theorem moves_takePageData (s : State) (y : PageDataOrder) : s.moves [] (s.takePageData y) := by
  unfold State.takePageData
  split
  · exact .refl _ s
  · exact (moves_tsLine _).after ((moves_callDue _).after (moves_putTypesetter _ _))

theorem moves_enterStoreLost (s : State) : s.moves [] s.enterStoreLost := by
  have hopen : ∀ u : State, u.moves [] u.discardOpenFrames := fun u =>
    .foldl _ (fun u t => moves_discardFrames u t OutFrame.isOpen) _ u
  unfold State.enterStoreLost
  exact (moves_abandon _ _).after ((hopen _).after ((moves_attendAll _ _ _).after
    (moves_of_tables [] rfl rfl rfl)))

theorem moves_endBlock (s : State) (level : Bool) : s.moves [] (s.endBlock level) := by
  unfold State.endBlock
  split
  · exact .refl _ s
  · rename_i b _
    have hfreed : s.moves []
        ((s.setReady level).putTypesetter { s.typesetter with block := none }) :=
      moves_of_tables [] rfl rfl rfl
    dsimp only
    refine (moves_tsProceed _).after ?_
    split
    · exact (moves_completeSend _).after hfreed
    · exact hfreed
    · exact hfreed

theorem moves_stall (s : State) : s.moves [] s.stall := by
  unfold State.stall
  dsimp only
  split
  · exact moves_putTypesetter _ _
  · exact (moves_offer _ _).after ((moves_putTypesetter _ _).after (moves_putTypesetter _ _))

theorem moves_periodAtDesk (s : State) (d : Nat) : s.moves [] (s.periodAtDesk d) := by
  have hput : ∀ p, s.moves [] (s.putPressure d p) := fun _ => moves_of_tables [] rfl rfl rfl
  unfold State.periodAtDesk
  split
  · split
    · exact hput _
    · unfold State.sampleDesk
      dsimp only
      split
      · exact hput _
      · exact (moves_offer _ _).after (hput _)
  · exact .refl _ s

theorem moves_stream (s : State) : s.moves [] s.stream := by
  unfold State.stream
  split
  · exact .refl _ s
  · split
    · exact (moves_offer _ _).after (moves_of_tables [] rfl rfl rfl)
    · exact moves_of_tables [] rfl rfl rfl

theorem standsBut_takeLoadTerminal {s : State} (h : s.standsBut none) {x : TerminalLoad}
    (hempty : (s.terminal x.terminal).holds = []) : (s.takeLoadTerminal x).standsBut none := by
  unfold State.takeLoadTerminal
  dsimp only
  split
  · split
    · exact h.putTerminal hempty.symm ⟨fun _ => by simp, fun _ => rfl⟩
        fun _ hne => absurd rfl hne
    · exact h.kept (moves_putTerminal_same rfl rfl rfl)
  · refine (h.kept (moves_discardFrames s x.terminal fun _ => true)).putTerminal ?_ (by decide)
      fun _ hne => absurd rfl hne
    have hkept : ((s.discardFrames x.terminal fun _ => true).terminal x.terminal).holds =
        (s.terminal x.terminal).holds := by
      change ((s.putTerminal x.terminal _).terminal x.terminal).holds = _
      rw [State.terminal_putTerminal, if_pos rfl]
    rw [hkept, hempty]
    rfl

end Sys2Proof.Machine
end


section
/-! SUPPORT. Every command keeps every story where its record says, and so does every step (R3, R4, R24,
R80). -/

namespace Sys2Proof.Machine

/-! ### What the checks say -/

theorem lowestFrom_free {free : Nat → Bool} {count start k : Nat}
    (h : lowestFrom free count start = some k) : free k = true := by
  induction count generalizing start with
  | zero => cases h
  | succ count ih =>
    unfold lowestFrom at h
    split at h
    · cases h; assumption
    · exact ih h

theorem lowestFree_free {s : State} {k : Nat} (h : s.lowestFree = some k) : s.story? k = none := by
  simpa using lowestFrom_free h

theorem isFree_eq_false (s : State) (n : Nat) :
    s.isFree n = false ↔ s.story? n = some (s.story n) := by
  rw [← Bool.not_eq_true, isFree_iff]
  exact ⟨live_of_not_free, fun hlive hfree => by rw [hfree] at hlive; cases hlive⟩

theorem filed_of_ne {q : StoryState} (hheld : q ≠ .held) (hset : q ≠ .set)
    (hspiked : q ≠ .spiked) : q = .filed := by
  cases q <;> first | rfl | contradiction

/-! ### Orders (R7 to R11, R22 to R28, R58, R72, R81, R106 to R110, R127 to R147, R157 to R168, R181 to R191) -/

section
variable {s : State} (h : s.standsBut none) (b : List Byte)
include h

theorem stands_idle : Answer.stands (execIdle b s) :=
  stands_order h fun u _ hu => standsBut_judge_kept hu (moves_takeIdle u)

theorem stands_run : Answer.stands (execRun b s) :=
  stands_order h fun u _ hu => standsBut_judge_kept hu (moves_takeRun u)

theorem stands_restart : Answer.stands (execRestart b s) := by
  refine stands_order h fun u _ hu => ?_
  split
  · exact hu.kept (moves_refuseOrder _ _ _ _)
  · unfold State.takeRestart
    split
    · exact standsBut_orderedRestart hu _
    · exact hu.kept (moves_of_tables [] rfl rfl rfl)

theorem stands_ackRestart : Answer.stands (execAckRestart b s) :=
  stands_order h fun _ _ hu => hu.kept (moves_of_tables [] rfl rfl rfl)

theorem stands_loadDesk : Answer.stands (execLoadDesk b s) :=
  stands_order h fun u x hu => standsBut_judge_kept hu (moves_takeLoadDesk u x)

theorem stands_loadRoute : Answer.stands (execLoadRoute b s) :=
  stands_order h fun _ _ hu => standsBut_judge_kept hu (moves_of_tables [] rfl rfl rfl)

theorem stands_loadDiversion : Answer.stands (execLoadDiversion b s) :=
  stands_order h fun _ _ hu => standsBut_judge_kept hu (moves_of_tables [] rfl rfl rfl)

theorem stands_loadTerminal : Answer.stands (execLoadTerminal b s) :=
  stands_order h fun u x hu => standsBut_judge hu fun hchecks => by
    simp only [State.loadTerminalChecks, firstRefusal_cons, Bool.not_eq_false',
      List.isEmpty_iff] at hchecks
    obtain ⟨-, -, hempty, -⟩ := hchecks
    exact standsBut_takeLoadTerminal hu hempty

theorem stands_setPressure : Answer.stands (execSetPressure b s) :=
  stands_order h fun _ _ hu => standsBut_judge_kept hu (moves_of_tables [] rfl rfl rfl)

theorem stands_reseed : Answer.stands (execReseed b s) :=
  stands_order h fun u x hu => standsBut_judge_kept hu (moves_takeReseed u x.toNat)

theorem stands_setTiming : Answer.stands (execSetTiming b s) :=
  stands_order h fun _ _ hu => hu.kept (moves_of_tables [] rfl rfl rfl)

theorem stands_setReporting : Answer.stands (execSetReporting b s) :=
  stands_order h fun _ _ hu => hu.kept (moves_of_tables [] rfl rfl rfl)

theorem stands_read : Answer.stands (execRead b s) := by
  refine stands_order h fun u _ hu => ?_
  unfold State.judgeRead
  split
  · exact hu.kept (moves_refuseOrder _ _ _ _)
  · exact hu.kept (moves_answerStatus u)
  · exact standsBut_judge_kept hu (moves_offer _ _)

theorem stands_readStatus : Answer.stands (execReadStatus b s) :=
  stands_order h fun u _ hu => hu.kept (moves_answerStatus u)

theorem stands_announce : Answer.stands (execAnnounce b s) := by
  refine stands_order h fun u x hu => standsBut_judge hu fun _ => ?_
  unfold State.takeAnnounce
  split
  · exact hu
  · rename_i k hk
    exact standsBut_createStory hu (lowestFree_free hk)

theorem stands_revise : Answer.stands (execRevise b s) :=
  stands_order h fun u x hu => standsBut_judge_kept hu (moves_takeRevise u x.1 x.2)

theorem stands_purge : Answer.stands (execPurge b s) := by
  refine stands_order h fun u n hu => standsBut_judge hu fun hchecks => ?_
  simp only [State.purgeChecks, firstRefusal_cons, isFree_eq_false, beq_eq_false_iff_ne] at hchecks
  obtain ⟨-, hlive, hheld, -⟩ := hchecks
  exact standsBut_takePurge hu hlive hheld

theorem stands_move : Answer.stands (execMove b s) := by
  refine stands_order h fun u x hu => standsBut_judge hu fun hchecks => ?_
  simp only [State.moveChecks, firstRefusal_cons, isFree_eq_false, beq_eq_false_iff_ne,
    Bool.or_eq_false_iff] at hchecks
  obtain ⟨-, hlive, hheld, ⟨hset, hspiked⟩, -⟩ := hchecks
  exact standsBut_takeMove hu hlive (filed_of_ne hheld hset hspiked)

theorem stands_pull : Answer.stands (execPull b s) := by
  refine stands_order h fun u x hu => standsBut_judge hu fun hchecks => ?_
  simp only [State.pullChecks, firstRefusal_cons, isFree_eq_false, Bool.not_eq_false',
    beq_iff_eq] at hchecks
  obtain ⟨-, hlive, hset, -⟩ := hchecks
  exact standsBut_takePull hu hlive hset

theorem stands_screen : Answer.stands (execScreen b s) :=
  stands_order h fun u x hu => standsBut_judge_kept hu (moves_takeScreen u x)

theorem stands_screenContinuation : Answer.stands (execScreenContinuation b s) :=
  stands_order h fun u x hu => standsBut_judge_kept hu (moves_takeScreen u x)

theorem stands_planEdition : Answer.stands (execPlanEdition b s) :=
  stands_order h fun _ _ hu => standsBut_judge_kept hu (moves_putEdition _ _ _)

theorem stands_startEdition : Answer.stands (execStartEdition b s) :=
  stands_order h fun u x hu => standsBut_judge_kept hu (moves_takeStart u x.toNat)

theorem stands_closeEdition : Answer.stands (execCloseEdition b s) :=
  stands_order h fun u x hu => standsBut_judge_kept hu (moves_takeClose u x.toNat)

theorem stands_sealEdition : Answer.stands (execSealEdition b s) :=
  stands_order h fun u x hu => standsBut_judge_kept hu (moves_takeSeal u x.toNat)

theorem stands_makePage : Answer.stands (execMakePage b s) :=
  stands_order h fun u x hu => standsBut_judge_kept hu (moves_takeMakePage u x.1 x.2)

theorem stands_place : Answer.stands (execPlace b s) :=
  stands_order h fun u x hu => standsBut_judge_kept hu (moves_takePlace u x.1 x.2)

theorem stands_lift : Answer.stands (execLift b s) :=
  stands_order h fun u n hu => standsBut_judge_kept hu (moves_takeLift u n)

theorem stands_release : Answer.stands (execRelease b s) :=
  stands_order h fun u x hu => standsBut_judge_kept hu (moves_takeRelease u x.toNat)

theorem stands_replate : Answer.stands (execReplate b s) :=
  stands_order h fun u x hu => standsBut_judge_kept hu (moves_takeReplate u x.toNat)

theorem stands_dropPage : Answer.stands (execDropPage b s) :=
  stands_order h fun u x hu => standsBut_judge_kept hu (moves_takeDropPage u x.toNat)

theorem stands_typesetMode : Answer.stands (execTypesetMode b s) := by
  refine stands_order h fun u _ hu => ?_
  split
  · exact hu.kept (moves_refuseOrder _ _ _ _)
  · exact hu.kept ((moves_startTest _).after (moves_putTypesetter _ _))

theorem stands_abortSend : Answer.stands (execAbortSend b s) :=
  stands_order h fun _ _ hu => hu.kept ((moves_abandon _ _).after (moves_putTypesetter _ _))

theorem stands_pageData : Answer.stands (execPageData b s) :=
  stands_order h fun u x hu => standsBut_judge_kept hu (moves_takePageData u x)

theorem stands_unknownOrder (kind : Byte) : Answer.stands (execUnknownOrder kind b s) :=
  stands_next (standsBut_takeFrame h kind b fun _ hu => hu.kept (moves_refuseOrder _ _ _ _))

end

/-! ### Events of the store link and of the typesetter line -/

theorem moves_reach (u : State) (due : Nat) : u.moves [] (u.reach due) :=
  moves_of_tables [] rfl rfl rfl

section
variable {s : State} (h : s.standsBut none)
include h

theorem stands_failFrame (kind : Byte) (code : Code) :
    Answer.stands (.next (s.failFrame kind code)) :=
  stands_next (h.kept ((moves_refuseOrder _ _ _ _).after (moves_of_tables [] rfl rfl rfl)))

theorem stands_fullRestart : Answer.stands (execFullRestart s) := by
  refine stands_next ?_
  split
  · exact standsBut_orderedRestart h _
  · exact h

theorem stands_warmRestart : Answer.stands (execWarmRestart s) := by
  refine stands_next ?_
  split
  · exact standsBut_orderedRestart h _
  · exact h

theorem stands_noticeFrameEnd : Answer.stands (execNoticeFrameEnd s) := by
  refine stands_next ?_
  split
  · exact h
  · split
    · exact standsBut_orderedRestart h _
    · exact h.kept (State.moves.after (moves_of_frame (onlyChanges_startNotice _) (by decide))
        (moves_of_tables [] rfl rfl rfl))

theorem stands_pageCallOwedOffered : Answer.stands (execPageCallOwedOffered s) := by
  refine stands_next ?_
  split
  · exact h
  · split
    · exact h.kept (moves_of_frame (onlyChanges_offerCall s) (by decide))
    · exact h

theorem stands_storeSilenceExpiry : Answer.stands (execStoreSilenceExpiry s) := by
  refine stands_next ?_
  split
  · exact h
  · exact h.kept ((moves_enterStoreLost _).after (moves_reach _ _))

end

section
variable {s : State} (h : s.standsBut none)
include h

theorem stands_samplePeriod : Answer.stands (execSamplePeriod s) := by
  refine stands_next ?_
  split
  · exact h
  · exact h.kept ((moves_stream _).after ((State.moves.foldl _ moves_periodAtDesk _ _).after
      (moves_of_tables [] rfl rfl rfl)))

theorem stands_tsrdyAsserted : Answer.stands (execTsrdyAsserted s) :=
  stands_next (h.kept ((moves_tsProceed _).after (moves_of_tables [] rfl rfl rfl)))

theorem stands_galleyBlockEnd (level : Bool) : Answer.stands (execGalleyBlockEnd level s) :=
  stands_next (h.kept (moves_endBlock s level))

theorem stands_dataTimerExpiry : Answer.stands (execDataTimerExpiry s) := by
  refine stands_next ?_
  split
  · exact h
  · exact h.kept ((moves_abandon _ _).after (moves_reach _ _))

theorem stands_waitTimerExpiry : Answer.stands (execWaitTimerExpiry s) := by
  refine stands_next ?_
  split
  · exact h
  · exact h.kept ((moves_stall _).after (moves_reach _ _))

end

/-! ### Events of the terminal lines, and reminders (R50 to R52, R84 to R86, R96) -/

theorem moves_nudge (s : State) (n : Nat) : s.moves [] (s.nudge n) := by
  have hafter : ∀ u : State, u.moves [] (u.afterNudge n) := by
    intro u
    unfold State.afterNudge
    dsimp only
    split
    · exact (moves_tellChange _ _ _ _).after (moves_modStory u n fun _ => by rfl)
    · exact moves_modStory u n fun _ => by rfl
  unfold State.nudge
  exact (hafter _).after ((moves_attendAll _ _ _).after (moves_modStory s n fun _ => by rfl))

section
variable {s : State} (h : s.standsBut none) (l : LineId)
include h

theorem stands_nudgeExpiry (n : Nat) : Answer.stands (execNudgeExpiry n s) := by
  refine stands_next ?_
  split
  · exact h
  · exact h.kept ((moves_nudge _ n).after (moves_reach _ _))

theorem stands_pollFrameSent : Answer.stands (execPollFrameSent l s) := by
  refine stands_next ?_
  split
  · exact h.kept (moves_putLine _ _ _)
  all_goals exact h

theorem stands_badAnswerFrame : Answer.stands (execBadAnswerFrame l s) := by
  refine stands_next ?_
  split
  · exact (standsBut_miss h _).kept (moves_lineTurn _ l)
  all_goals exact h

theorem stands_pollWindowExpiry : Answer.stands (execPollWindowExpiry l s) := by
  refine stands_next ?_
  split
  · exact (standsBut_miss (h.kept (moves_reach s _)) _).kept (moves_lineTurn _ l)
  all_goals exact h

theorem stands_idleWaitExpiry : Answer.stands (execIdleWaitExpiry l s) := by
  refine stands_next ?_
  split
  · exact h.kept ((moves_lineTurn _ l).after (moves_reach _ _))
  all_goals exact h

theorem stands_outputFrameEnd : Answer.stands (execOutputFrameEnd l s) := by
  refine stands_next ?_
  split
  · exact h.kept ((moves_lineTurn _ l).after (moves_of_tables [] rfl rfl rfl))
  all_goals exact h

/-- The content of an answer is acted on in a state in which its terminal is LIVE (R87). -/
theorem stands_answer (drop size : Nat) {content : State → State}
    (hcontent : ∀ u : State, u.standsBut none → (u.terminal (terminalOf l drop)).liveness = .live →
      (content u).standsBut none) :
    Answer.stands (.next (s.takeAnswer l drop size content)) := by
  have hupdated := h.kept (moves_answerLiveness s (terminalOf l drop))
  refine stands_next ?_
  unfold State.takeAnswer
  split
  case h_1 =>
    split
    · exact (standsBut_miss h _).kept (moves_lineTurn _ l)
    · split
      · refine State.standsBut.kept ?_ (moves_lineTurn _ l)
        unfold State.applyAnswer
        dsimp only
        split
        · rename_i hlive
          exact hcontent _ hupdated hlive.2.2
        · exact hupdated
      · exact h
  all_goals exact h

theorem stands_nil (drop : Nat) (kind : Byte) (body : List Byte) :
    Answer.stands (execNil l drop kind body s) :=
  stands_answer h l drop _ fun _ hu _ => hu

theorem stands_keys (drop : Nat) (bytes : List Byte) : Answer.stands (execKeys l drop bytes s) := by
  refine stands_answer h l drop _ fun u hu _ => ?_
  unfold State.takeKeys
  split
  · exact hu.kept (moves_attend _ _ _)
  · split
    · exact hu.kept (moves_offer _ _)
    · exact hu.kept (moves_attend _ _ _)

theorem stands_unknownRequest (drop : Nat) (body : List Byte) :
    Answer.stands (execUnknownRequest l drop body s) := by
  refine stands_answer h l drop _ fun u hu _ => ?_
  unfold State.refuseUnknown
  split
  · exact hu.kept (moves_attend _ _ _)
  · split <;> exact hu.kept (moves_attend _ _ _)

/-! ### Requests (R29 to R43, R114 to R118) -/

/-- A request is judged in a state in which its terminal is LIVE (R87, R88). -/
theorem stands_request {α : Type} {drop : Nat} {q : RequestKind} {args : List Byte}
    {read : List Byte → Option α} {judge : State → Nat → α → State}
    (hjudge : ∀ (u : State) (x : α), u.standsBut none →
      (u.terminal (terminalOf l drop)).liveness = .live →
        (judge u (terminalOf l drop) x).standsBut none) :
    Answer.stands (.next (s.takeRequest l drop q args read judge)) := by
  refine stands_answer h l drop _ fun u hu hlive => ?_
  split
  · exact hu.kept (moves_attend _ _ _)
  · exact hjudge u _ hu hlive

omit l
theorem standsBut_judgeRequest {t : Nat} {q : RequestKind} {known full : Option Nat}
    {checks : List (Bool × Code)} {taken : State}
    (htaken : firstRefusal checks = none → taken.standsBut none) :
    (s.judgeRequest t q known full checks taken).standsBut none := by
  unfold State.judgeRequest
  split
  · exact h.kept (moves_attend _ _ _)
  · exact htaken ‹_›

end

/-- Past the checks that every copy request begins with, the story it acts on is live (R29). -/
theorem live_of_requestChecks {s : State} {t : Nat} {named : Option Nat} {needs : Bool}
    (h : firstRefusal (s.requestChecks t named needs) = none) :
    s.story? (s.subjectOf t named) = some (s.story (s.subjectOf t named)) := by
  simp only [State.requestChecks, firstRefusal_cons] at h
  obtain ⟨-, -, -, hfree, -⟩ := h
  rw [← isFree_eq_false]
  unfold State.subjectOf
  cases hsubject : s.subject t named with
  | none => rw [hsubject] at hfree; cases hfree
  | some n => rw [hsubject] at hfree; exact hfree

theorem heldBy_iff (s : State) (n t : Nat) :
    s.heldBy n t = true ↔ (s.story n).state = .held ∧ (s.story n).holder = some t := by
  simp [State.heldBy]

theorem awake_of_live {r : Terminal} (h : r.liveness = .live) : r.awake := by
  rw [Terminal.awake, h]
  decide

/-- The story GET NEXT chooses is FILED, since it is in a basket and not held (R33). -/
theorem nextUnheld_filed {s : State} (h : s.standsBut none) {t n : Nat}
    (hnext : s.nextUnheld t = some n) :
    s.story? n = some (s.story n) ∧ (s.story n).state = .filed := by
  have hmem : n ∈ (s.basket (s.terminal t).desk).all := List.mem_of_find?_eq_some hnext
  have hheld : (s.story n).state ≠ .held := by simpa using List.find?_some hnext
  have hone : basketCount (s.standing n) (s.terminal t).desk = 1 := by
    have hle := basketCount_le_one (s.standing n) (s.terminal t).desk
    have hpos := List.count_pos_iff.2 hmem
    rw [(h.story n).inBasket] at hpos
    omega
  obtain ⟨st, hst, -, hstate⟩ := (basketCount_standing s n _).1 hone
  rw [story_of_live hst] at hheld ⊢
  exact ⟨hst, hstate.resolve_right hheld⟩

theorem moves_takeBack (s : State) (t : Nat) : s.moves [] (s.takeBack t) := by
  unfold State.takeBack
  exact (moves_offer _ _).after (moves_putTerminal_same (by rfl) (by rfl) (by rfl))

section
variable {s : State} (h : s.standsBut none) (l : LineId) (drop : Nat) (args : List Byte)
include h

theorem stands_get : Answer.stands (execGet l drop args s) := by
  refine stands_request h l fun u named hu hlive => standsBut_judgeRequest hu fun hchecks => ?_
  simp only [State.getChecks, firstRefusal_append, firstRefusal_cons, Bool.or_eq_false_iff,
    beq_eq_false_iff_ne] at hchecks
  obtain ⟨hrequest, ⟨hset, hspiked⟩, hheld, -⟩ := hchecks
  exact standsBut_holdStory hu (live_of_requestChecks hrequest) (filed_of_ne hheld hset hspiked)
    (awake_of_live hlive)

theorem stands_getNext : Answer.stands (execGetNext l drop args s) := by
  refine stands_request h l fun u _ hu hlive => standsBut_judgeRequest hu fun hchecks => ?_
  simp only [State.getNextChecks, firstRefusal_cons] at hchecks
  obtain ⟨-, -, -, hsome, -⟩ := hchecks
  cases hnext : u.nextUnheld (terminalOf l drop) with
  | none => rw [hnext] at hsome; cases hsome
  | some n =>
    obtain ⟨hst, hfiled⟩ := nextUnheld_filed hu hnext
    exact standsBut_holdStory hu hst hfiled (awake_of_live hlive)

theorem stands_send : Answer.stands (execSend l drop args s) := by
  refine stands_request h l fun u x hu _ => standsBut_judgeRequest hu fun hchecks => ?_
  simp only [State.sendChecks, firstRefusal_append, firstRefusal_cons, Bool.not_eq_false',
    heldBy_iff] at hchecks
  obtain ⟨hrequest, -, ⟨-, hholder⟩, -⟩ := hchecks
  have hst := live_of_requestChecks hrequest
  unfold State.takeSend
  split
  · exact hu.kept (moves_attend _ _ _)
  · exact standsBut_sendToSet hu hst hholder
  · exact standsBut_sendToDesk hu hst hholder

theorem stands_returnStory : Answer.stands (execReturn l drop args s) := by
  refine stands_request h l fun u named hu _ => standsBut_judgeRequest hu fun hchecks => ?_
  simp only [State.returnChecks, firstRefusal_append, firstRefusal_cons, Bool.not_eq_false',
    heldBy_iff] at hchecks
  obtain ⟨hrequest, ⟨hheld, hholder⟩, -⟩ := hchecks
  exact standsBut_takeReturn hu (live_of_requestChecks hrequest) hheld hholder

theorem stands_spike : Answer.stands (execSpike l drop args s) := by
  refine stands_request h l fun u named hu _ => standsBut_judgeRequest hu fun hchecks => ?_
  simp only [State.spikeChecks, firstRefusal_append, firstRefusal_cons] at hchecks
  obtain ⟨hrequest, -, -, -, hmine, -⟩ := hchecks
  have hst := live_of_requestChecks hrequest
  refine standsBut_takeSpike hu hst ?_
  cases hheld : u.heldBy (u.subjectOf (terminalOf l drop) named) (terminalOf l drop) with
  | true => exact .inl ((heldBy_iff u _ _).1 hheld).2
  | false =>
    refine .inr (holder_of_not_held (hu.story _) hst ?_)
    have hfiled : (u.story (u.subjectOf (terminalOf l drop) named)).state = .filed := by
      simp only [hheld, State.filedAtOwnDesk, Bool.not_false, Bool.true_and, Bool.not_eq_false',
        Bool.and_eq_true, beq_iff_eq] at hmine
      exact hmine.1
    rw [hfiled]
    decide

theorem stands_pullRequest : Answer.stands (execPullRequest l drop args s) := by
  refine stands_request h l fun u x hu _ => standsBut_judgeRequest hu fun hchecks => ?_
  simp only [State.pullRequestChecks, firstRefusal_append, firstRefusal_cons, Bool.not_eq_false',
    beq_iff_eq] at hchecks
  obtain ⟨hrequest, -, hset, -⟩ := hchecks
  exact (standsBut_takePull hu (live_of_requestChecks hrequest) hset).kept (moves_attend _ _ _)

theorem stands_view : Answer.stands (execView l drop args s) :=
  stands_request h l fun _ _ hu _ => standsBut_judgeRequest hu fun _ =>
    hu.kept ((moves_offer _ _).after (moves_putTerminal_same (by rfl) (by rfl) (by rfl)))

theorem stands_back : Answer.stands (execBack l drop args s) :=
  stands_request h l fun u _ hu _ => standsBut_judgeRequest hu fun _ =>
    hu.kept (moves_takeBack u (terminalOf l drop))

theorem stands_list : Answer.stands (execList l drop args s) :=
  stands_request h l fun _ _ hu _ => standsBut_judgeRequest hu fun _ =>
    hu.kept (moves_appendFrame _ _ _)

theorem stands_watch : Answer.stands (execWatch l drop args s) :=
  stands_request h l fun _ _ hu _ => standsBut_judgeRequest hu fun _ =>
    hu.kept ((moves_attend _ _ _).after (moves_putTerminal_same (by rfl) (by rfl) (by rfl)))

theorem stands_unwatch : Answer.stands (execUnwatch l drop args s) :=
  stands_request h l fun _ _ hu _ => standsBut_judgeRequest hu fun _ =>
    hu.kept ((moves_attend _ _ _).after (moves_putTerminal_same (by rfl) (by rfl) (by rfl)))

end

/-! ### Every command, and every step -/

/-- Every command keeps every story where its record says. -/
theorem stands_exec {s : State} (h : s.standsBut none) (c : Instr) : Answer.stands (exec c s) := by
  cases c with
  | idle b => exact stands_idle h b
  | run b => exact stands_run h b
  | restart b => exact stands_restart h b
  | ackRestart b => exact stands_ackRestart h b
  | loadDesk b => exact stands_loadDesk h b
  | loadRoute b => exact stands_loadRoute h b
  | loadDiversion b => exact stands_loadDiversion h b
  | loadTerminal b => exact stands_loadTerminal h b
  | setPressure b => exact stands_setPressure h b
  | reseed b => exact stands_reseed h b
  | setTiming b => exact stands_setTiming h b
  | setReporting b => exact stands_setReporting h b
  | read b => exact stands_read h b
  | readStatus b => exact stands_readStatus h b
  | announce b => exact stands_announce h b
  | revise b => exact stands_revise h b
  | purge b => exact stands_purge h b
  | move b => exact stands_move h b
  | pull b => exact stands_pull h b
  | screen b => exact stands_screen h b
  | screenContinuation b => exact stands_screenContinuation h b
  | planEdition b => exact stands_planEdition h b
  | startEdition b => exact stands_startEdition h b
  | closeEdition b => exact stands_closeEdition h b
  | sealEdition b => exact stands_sealEdition h b
  | makePage b => exact stands_makePage h b
  | place b => exact stands_place h b
  | lift b => exact stands_lift h b
  | release b => exact stands_release h b
  | replate b => exact stands_replate h b
  | dropPage b => exact stands_dropPage h b
  | typesetMode b => exact stands_typesetMode h b
  | abortSend b => exact stands_abortSend h b
  | pageData b => exact stands_pageData h b
  | unknownOrder k b => exact stands_unknownOrder h b k
  | frameLengthOver k => exact stands_failFrame h k .framing
  | frameBadCheck k => exact stands_failFrame h k .check
  | powerOn => exact stands_next (standsBut_coldRestart s .power)
  | rstinRelease => exact stands_next (standsBut_coldRestart s .pin)
  | fullRestart => exact stands_fullRestart h
  | warmRestart => exact stands_warmRestart h
  | noticeFrameEnd => exact stands_noticeFrameEnd h
  | pageCallOwedOffered => exact stands_pageCallOwedOffered h
  | storeSilenceExpiry => exact stands_storeSilenceExpiry h
  | pollFrameSent l => exact stands_pollFrameSent h l
  | nil l d k b => exact stands_nil h l d k b
  | keys l d b => exact stands_keys h l d b
  | get l d a => exact stands_get h l d a
  | getNext l d a => exact stands_getNext h l d a
  | send l d a => exact stands_send h l d a
  | returnStory l d a => exact stands_returnStory h l d a
  | spike l d a => exact stands_spike h l d a
  | pullRequest l d a => exact stands_pullRequest h l d a
  | view l d a => exact stands_view h l d a
  | back l d a => exact stands_back h l d a
  | list l d a => exact stands_list h l d a
  | watch l d a => exact stands_watch h l d a
  | unwatch l d a => exact stands_unwatch h l d a
  | badAnswerFrame l => exact stands_badAnswerFrame h l
  | pollWindowExpiry l => exact stands_pollWindowExpiry h l
  | idleWaitExpiry l => exact stands_idleWaitExpiry h l
  | outputFrameEnd l => exact stands_outputFrameEnd h l
  | nudgeExpiry n => exact stands_nudgeExpiry h n
  | samplePeriod => exact stands_samplePeriod h
  | tsrdyAsserted => exact stands_tsrdyAsserted h
  | galleyBlockEnd r => exact stands_galleyBlockEnd h r
  | dataTimerExpiry => exact stands_dataTimerExpiry h
  | waitTimerExpiry => exact stands_waitTimerExpiry h
  | unknownRequest l d b => exact stands_unknownRequest h l d b

theorem moves_idleStep (s : State) : s.moves [] s.idleStep := by
  unfold State.idleStep
  split
  · exact moves_of_tables [] rfl rfl rfl
  · exact State.moves.after (moves_of_frame (onlyChanges_takeLineByte _ _ _) (by decide))
      (moves_of_tables [] rfl rfl rfl)
  · exact moves_of_tables [] rfl rfl rfl

/-- Settles O37: an idle step moves no story, and every command keeps the invariant. -/
theorem storiesStandWhereTheirRecordsSay : Obligations.StoriesStandWhereTheirRecordsSay := by
  unfold Obligations.StoriesStandWhereTheirRecordsSay
  intro s t h hstep
  rw [storiesStand_iff] at h ⊢
  unfold step at hstep
  split at hstep
  · cases hstep
    exact h.kept (moves_idleStep s)
  · rename_i c rest _
    have hrest : ({ s with pending := rest } : State).standsBut none :=
      h.kept (moves_of_tables [] rfl rfl rfl)
    exact stands_exec hrest c t hstep

end Sys2Proof.Machine
end


section
/-! SUPPORT. What the page unit and the typesetter unit write (R125 to R173): each of their operations is a
run of elementary writes, so a relation that every elementary write keeps, every operation keeps. -/

namespace Sys2Proof.Machine

/-! ### Elementary writes -/

/-- An elementary write: of a page, an edition, the typesetter unit or TSRDY, of the page field of a story that
is lifted, or the telling of what has been done, in a notice that is not RESTARTED or in an attention. -/
inductive PageWrite : State → State → Prop where
  | page (s : State) (r : Nat) (o : Option Page) : PageWrite s (s.putPage r o)
  | edition (s : State) (e : Nat) (x : Edition) : PageWrite s (s.putEdition e x)
  | typesetter (s : State) (x : Typesetter) : PageWrite s (s.putTypesetter x)
  | ready (s : State) (r : Ready) : PageWrite s { s with tsrdy := r }
  | lift (s : State) (n : Nat) : PageWrite s (s.modStory n fun st => { st with page := none })
  | offer (s : State) (n : Notice) (h : n.noticeClass ≠ .restart) : PageWrite s (s.offer n)
  | attend (s : State) (t : Nat) (b : AttentionBody) : PageWrite s (s.attend t b)

/-- One state is reached from another by elementary writes. -/
def State.pageWork (s t : State) : Prop := Relation.ReflTransGen PageWrite s t

theorem State.pageWork.refl (s : State) : s.pageWork s := Relation.ReflTransGen.refl

theorem PageWrite.work {s t : State} (h : PageWrite s t) : s.pageWork t :=
  Relation.ReflTransGen.single h

/-- A composition of two operations, from the last one back to the first. -/
theorem State.pageWork.after {s t u : State} (k : t.pageWork u) (h : s.pageWork t) :
    s.pageWork u := Relation.ReflTransGen.trans h k

theorem State.pageWork.foldl {β : Type} (g : State → β → State)
    (h : ∀ (s : State) (b : β), s.pageWork (g s b)) (l : List β) (s : State) :
    s.pageWork (l.foldl g s) := by
  induction l generalizing s with
  | nil => exact .refl s
  | cons b rest ih => exact (ih (g s b)).after (h s b)

section
variable (s : State)

theorem pageWork_putPage (r : Nat) (o : Option Page) : s.pageWork (s.putPage r o) :=
  (PageWrite.page s r o).work

theorem pageWork_putEdition (e : Nat) (x : Edition) : s.pageWork (s.putEdition e x) :=
  (PageWrite.edition s e x).work

theorem pageWork_putTypesetter (x : Typesetter) : s.pageWork (s.putTypesetter x) :=
  (PageWrite.typesetter s x).work

theorem pageWork_offer {n : Notice} (h : n.noticeClass ≠ .restart) : s.pageWork (s.offer n) :=
  (PageWrite.offer s n h).work

/-! ### What the directory tells (R13 to R16) -/

theorem pageWork_attendAll (ts : List Nat) (b : AttentionBody) : s.pageWork (s.attendAll ts b) :=
  .foldl _ (fun s t => (PageWrite.attend s t b).work) ts s

theorem pageWork_tellChange (k : Change) (n : Nat) (c : CopyCause) :
    s.pageWork (s.tellChange k n c) := by
  unfold State.tellChange
  refine (pageWork_offer _ (by nofun)).after ?_
  unfold State.tellWatchers
  split
  · exact pageWork_attendAll _ _ _
  · exact .refl s

theorem pageWork_liftStory (n : Nat) : s.pageWork (s.liftStory n) :=
  (pageWork_tellChange _ _ _ _).after (PageWrite.lift s n).work

/-! ### Pages, sections and the joins (R128, R145, R146) -/

theorem pageWork_writeSlot (e k : Nat) (x : Slot) : s.pageWork (s.writeSlot e k x) :=
  pageWork_putEdition _ _ _

theorem pageWork_movePage (r : Nat) (p : Page) (c : PageCause) : s.pageWork (s.movePage r p c) :=
  (pageWork_offer _ (by nofun)).after
    ((pageWork_writeSlot _ _ _ _).after (pageWork_putPage s r (some p)))

theorem pageWork_dequeue (r : Nat) : s.pageWork (s.dequeue r) := pageWork_putTypesetter _ _

theorem pageWork_withdraw (r : Nat) : s.pageWork (s.withdraw r) :=
  (pageWork_movePage _ _ _ _).after (pageWork_dequeue s r)

theorem pageWork_withdrawSection (r : Nat) : s.pageWork (s.withdrawSection r) :=
  .foldl _ pageWork_withdraw _ s

theorem pageWork_joinPage (r : Nat) : s.pageWork (s.joinPage r) :=
  (pageWork_movePage _ _ _ _).after (pageWork_putTypesetter _ _)

theorem pageWork_spendJoin (e : Nat) : s.pageWork (s.spendJoin e) := by
  unfold State.spendJoin
  dsimp only
  split
  · exact pageWork_putEdition _ _ _
  · exact .refl s

theorem pageWork_joinReplates (l : List Nat) : s.pageWork (joinReplates l s).1 := by
  induction l generalizing s with
  | nil => exact .refl s
  | cons r rest ih =>
    unfold joinReplates
    split
    · exact (ih _).after (pageWork_joinPage s r)
    · exact .refl s

theorem pageWork_joinSections (l : List (Nat × Nat)) : s.pageWork (joinSections l s) := by
  induction l generalizing s with
  | nil => exact .refl s
  | cons x rest ih =>
    unfold joinSections
    split
    · split
      · exact (ih _).after ((State.pageWork.foldl _ pageWork_joinPage _ _).after
          (pageWork_spendJoin s x.1))
      · exact .refl s
    · exact ih s

theorem pageWork_evaluateJoins : s.pageWork s.evaluateJoins := by
  have hreplates := pageWork_joinReplates s s.waitingReplates
  unfold State.evaluateJoins
  split <;> rename_i heq <;> rw [heq] at hreplates
  · exact (pageWork_joinSections _ _).after hreplates
  · exact hreplates

/-! ### Seals and the end of a send (R130, R134, R148, R149) -/

theorem pageWork_freePage (r : Nat) (c : PageCause) : s.pageWork (s.freePage r c) := by
  unfold State.freePage
  exact (pageWork_offer _ (by nofun)).after ((pageWork_putPage _ _ _).after
    (.foldl _ pageWork_liftStory _ s))

theorem pageWork_sealPages (e : Nat) : s.pageWork (s.sealPages e) :=
  (State.pageWork.foldl _ (fun s r => pageWork_freePage s r .seal) _ _).after
    (.foldl _ pageWork_dequeue _ s)

theorem pageWork_seal (e : Nat) : s.pageWork (s.seal e) :=
  (pageWork_putEdition _ _ _).after ((pageWork_offer _ (by nofun)).after (pageWork_sealPages s e))

theorem pageWork_sealTest (e : Nat) : s.pageWork (s.sealTest e) := by
  unfold State.sealTest
  split
  · exact pageWork_seal s e
  · exact .refl s

theorem pageWork_completeTest (e : Nat) : s.pageWork (s.completeTest e) := by
  unfold State.completeTest
  dsimp only
  split
  · exact (pageWork_offer _ (by nofun)).after (pageWork_putEdition _ _ _)
  · exact .refl s

theorem pageWork_afterSend (e : Nat) : s.pageWork (s.afterSend e) := by
  refine (pageWork_evaluateJoins _).after (State.pageWork.after ?_ (pageWork_completeTest s e))
  split
  · exact pageWork_seal _ e
  · exact pageWork_sealTest _ e

/-! ### What the directory tells the page unit (R142 to R144) -/

theorem pageWork_storySet (n : Nat) : s.pageWork (s.storySet n) := by
  unfold State.storySet
  split
  · exact .refl s
  · dsimp only
    split
    · exact (pageWork_evaluateJoins _).after (pageWork_movePage _ _ _ _)
    · exact .refl s

theorem pageWork_storyPulled (n : Nat) : s.pageWork (s.storyPulled n) := by
  have harmed : ∀ (u : State) (r e : Nat) (p : Page), u.pageWork
      ((((u.movePage r p .story).withdrawSection r).sealTest e).evaluateJoins) := fun u r e p =>
    (pageWork_evaluateJoins _).after ((pageWork_sealTest _ _).after
      ((pageWork_withdrawSection _ _).after (pageWork_movePage u r p _)))
  unfold State.storyPulled
  split
  · exact .refl s
  · dsimp only
    split
    · exact harmed _ _ _ _
    · exact (harmed _ _ _ _).after (pageWork_dequeue _ _)
    · exact (pageWork_evaluateJoins _).after (pageWork_movePage _ _ _ _)
    all_goals exact .refl s

theorem pageWork_storyRevised (n : Nat) : s.pageWork (s.storyRevised n) := by
  unfold State.storyRevised
  split
  · exact .refl s
  · dsimp only
    split
    · exact pageWork_movePage _ _ _ _
    · exact (pageWork_evaluateJoins _).after (pageWork_movePage _ _ _ _)
    all_goals exact .refl s

/-! ### Calls, starts and blocks (R156, R159, R163, R166) -/

theorem typesetterEvent_ne_restart (k : TypesetterEventKind) (c : Option AbandonCause) :
    (s.typesetterEventOf k c).noticeClass ≠ .restart := by
  unfold State.typesetterEventOf
  split <;> nofun

theorem pageWork_offerCall : s.pageWork s.offerCall := by
  unfold State.offerCall
  split
  · exact .refl s
  · split
    · exact (pageWork_putTypesetter _ _).after (pageWork_offer _ (by nofun))
    · exact pageWork_putTypesetter _ _

theorem pageWork_callDue : s.pageWork s.callDue := by
  unfold State.callDue
  split
  · exact .refl s
  · split
    · exact pageWork_offerCall s
    · exact .refl s

theorem pageWork_startTest : s.pageWork s.startTest := by
  unfold State.startTest
  split
  · exact .refl s
  · split
    · exact (pageWork_callDue _).after ((pageWork_movePage _ _ _ _).after
        ((pageWork_putTypesetter _ _).after (pageWork_dequeue s _)))
    · exact .refl s

theorem pageWork_clearStall : s.pageWork s.clearStall := by
  unfold State.clearStall
  dsimp only
  split
  · exact (pageWork_offer _ (typesetterEvent_ne_restart _ _ _)).after (pageWork_putTypesetter _ _)
  · exact .refl s

theorem pageWork_beginBlock : s.pageWork s.beginBlock := by
  unfold State.beginBlock
  dsimp only
  split
  · exact (pageWork_startTest _).after ((pageWork_clearStall _).after (pageWork_putTypesetter _ _))
  · split
    · exact (pageWork_callDue _).after ((pageWork_clearStall _).after (pageWork_putTypesetter _ _))
    · exact .refl s

theorem pageWork_tsProceed : s.pageWork s.tsProceed := by
  unfold State.tsProceed
  dsimp only
  split
  · exact pageWork_putTypesetter _ _
  · split
    · exact pageWork_beginBlock s
    · split
      · exact .refl s
      · exact pageWork_putTypesetter _ _

theorem pageWork_tsLine : s.pageWork s.tsLine := by
  refine (pageWork_tsProceed _).after ?_
  unfold State.judgeReady
  split
  · exact .refl s
  · split
    · exact .refl s
    · exact (PageWrite.ready s _).work

/-! ### The end of a send (R165, R167) -/

theorem pageWork_completeSend : s.pageWork s.completeSend := by
  unfold State.completeSend
  split
  · exact .refl s
  · exact (pageWork_startTest _).after ((pageWork_putTypesetter _ _).after
      ((pageWork_afterSend _ _).after ((pageWork_movePage _ _ _ _).after
        (pageWork_putTypesetter _ _))))

theorem pageWork_returnPage (r : Nat) : s.pageWork (s.returnPage r) := by
  unfold State.returnPage
  dsimp only
  split
  · exact (pageWork_withdraw _ _).after (pageWork_movePage _ _ _ _)
  · exact pageWork_movePage _ _ _ _

theorem pageWork_abandonSend (c : AbandonCause) : s.pageWork (s.abandonSend c) := by
  unfold State.abandonSend
  split
  · exact .refl s
  · rename_i x _
    have hkept : s.pageWork ((s.cutSend x).returnPage x.page) :=
      (pageWork_returnPage _ _).after (pageWork_putTypesetter _ _)
    dsimp only
    split
    · exact hkept
    · exact (pageWork_offer _ (typesetterEvent_ne_restart _ _ _)).after hkept

theorem pageWork_abandon (c : AbandonCause) : s.pageWork (s.abandon c) := by
  unfold State.abandon
  split
  · exact .refl s
  · exact (pageWork_startTest _).after ((pageWork_tsLine _).after
      ((pageWork_afterSend _ _).after (pageWork_abandonSend s c)))

/-! ### Orders and events of the two units (R127 to R132, R137 to R141, R147, R157 to R168) -/

theorem pageWork_takeStart (e : Nat) : s.pageWork (s.takeStart e) :=
  (pageWork_startTest _).after ((pageWork_evaluateJoins _).after (pageWork_putEdition _ _ _))

theorem pageWork_takeSeal (e : Nat) : s.pageWork (s.takeSeal e) :=
  (pageWork_startTest _).after ((pageWork_evaluateJoins _).after (pageWork_seal _ _))

theorem pageWork_closeOther (c : Nat) : s.pageWork (s.closeOther c) := by
  unfold State.closeOther
  split
  · split
    · exact (pageWork_sealPages _ _).after (pageWork_putEdition _ _ _)
    · exact pageWork_seal _ _
  · exact .refl s

theorem pageWork_closeOthers (e : Nat) : s.pageWork (s.closeOthers e) := by
  unfold State.closeOthers
  dsimp only
  split
  · exact .refl s
  · exact (pageWork_evaluateJoins _).after (.foldl _ pageWork_closeOther _ s)

theorem pageWork_closeItself (e : Nat) : s.pageWork (s.closeItself e) := by
  unfold State.closeItself
  dsimp only
  split
  · exact (pageWork_evaluateJoins _).after ((pageWork_seal _ _).after (pageWork_putEdition _ _ _))
  · exact pageWork_putEdition _ _ _

theorem pageWork_takeClose (e : Nat) : s.pageWork (s.takeClose e) :=
  (pageWork_startTest _).after ((pageWork_closeItself _ _).after (pageWork_closeOthers s e))

theorem pageWork_takeMakePage (e k : Nat) : s.pageWork (s.takeMakePage e k) := by
  unfold State.takeMakePage
  split
  · exact .refl s
  · exact pageWork_movePage _ _ _ _

theorem pageWork_pageAfterPlace (r : Nat) (b : Bool) : s.pageWork (s.pageAfterPlace r b) := by
  unfold State.pageAfterPlace
  dsimp only
  split
  case h_3 =>
    split
    · exact .refl s
    · exact (pageWork_evaluateJoins _).after ((pageWork_sealTest _ _).after
        ((pageWork_withdrawSection _ _).after (pageWork_movePage _ _ _ _)))
  case h_6 => exact (pageWork_evaluateJoins _).after (pageWork_movePage _ _ _ _)
  all_goals exact .refl s

theorem pageWork_pageAfterLift (r : Nat) : s.pageWork (s.pageAfterLift r) := by
  unfold State.pageAfterLift
  dsimp only
  split
  case h_2 =>
    split
    · exact (pageWork_evaluateJoins _).after (pageWork_movePage _ _ _ _)
    · exact .refl s
  case h_6 => exact (pageWork_evaluateJoins _).after (pageWork_movePage _ _ _ _)
  all_goals exact .refl s

theorem pageWork_takeLift (n : Nat) : s.pageWork (s.takeLift n) := by
  unfold State.takeLift
  split
  · exact .refl s
  · exact (pageWork_startTest _).after ((pageWork_pageAfterLift _ _).after
      ((pageWork_liftStory _ _).after (pageWork_putPage _ _ _)))

theorem pageWork_takeRelease (r : Nat) : s.pageWork (s.takeRelease r) := by
  unfold State.takeRelease
  dsimp only
  split
  · exact (pageWork_startTest _).after ((pageWork_evaluateJoins _).after
      (pageWork_movePage _ _ _ _))
  · exact (pageWork_startTest _).after ((pageWork_evaluateJoins _).after
      ((pageWork_withdrawSection _ _).after (pageWork_movePage _ _ _ _)))

theorem pageWork_takeReplate (r : Nat) : s.pageWork (s.takeReplate r) := by
  unfold State.takeReplate
  dsimp only
  refine (pageWork_startTest _).after ((pageWork_evaluateJoins _).after
    ((pageWork_sealTest _ _).after ?_))
  split
  · exact (pageWork_withdrawSection _ _).after ((pageWork_movePage _ _ _ _).after
      (pageWork_spendJoin _ _))
  · exact (pageWork_movePage _ _ _ _).after (pageWork_spendJoin _ _)

theorem pageWork_takeDropPage (r : Nat) : s.pageWork (s.takeDropPage r) :=
  (pageWork_startTest _).after ((pageWork_evaluateJoins _).after ((pageWork_sealTest _ _).after
    ((pageWork_offer _ (by nofun)).after ((pageWork_writeSlot _ _ _ _).after
      ((pageWork_putPage _ _ _).after (.foldl _ pageWork_liftStory _ s))))))

theorem pageWork_takePageData (y : PageDataOrder) : s.pageWork (s.takePageData y) := by
  unfold State.takePageData
  split
  · exact .refl s
  · exact (pageWork_tsLine _).after ((pageWork_callDue _).after (pageWork_putTypesetter _ _))

theorem pageWork_endBlock (level : Bool) : s.pageWork (s.endBlock level) := by
  unfold State.endBlock
  split
  · exact .refl s
  · have hfreed : s.pageWork
        ((s.setReady level).putTypesetter { s.typesetter with block := none }) :=
      (pageWork_putTypesetter _ _).after (PageWrite.ready s _).work
    dsimp only
    refine (pageWork_tsProceed _).after ?_
    split
    · exact (pageWork_completeSend _).after hfreed
    · exact hfreed
    · exact hfreed

theorem pageWork_stall : s.pageWork s.stall := by
  unfold State.stall
  dsimp only
  split
  · exact pageWork_putTypesetter _ _
  · exact (pageWork_offer _ (typesetterEvent_ne_restart _ _ _)).after
      ((pageWork_putTypesetter _ _).after (pageWork_putTypesetter _ _))

end

end Sys2Proof.Machine
end


section
/-! SUPPORT. The bounds of the collections, the baskets, the open frames and the pressure values (R24, R34, R56,
R105, R113, R117, R120, R179), as one relation of two states: whatever is within its bounds in the first is
within them in the second. What the shared operations do to it is said here, once for each. -/

namespace Sys2Proof.Machine

/-! ### The bounds of one record -/

/-- A terminal's lists of bounded size are within their bounds (R34, R113, R117, R120). -/
def Terminal.bounded (r : Terminal) : Prop :=
  r.holds.length ≤ 4 ∧ r.views.length ≤ 8 ∧ r.watches.length ≤ 4 ∧ r.attentions.length ≤ 4

/-- A terminal has at most one open frame (R105). -/
def Terminal.oneOpen (r : Terminal) : Prop := (r.outbound.filter OutFrame.isOpen).length ≤ 1

/-- A terminal's record is rewritten with no bound broken. -/
structure Terminal.keeps (r q : Terminal) : Prop where
  bounded : r.bounded → q.bounded
  oneOpen : r.oneOpen → q.oneOpen

/-- A desk's load and baseline are within their ranges (R56). -/
def Pressure.inRange (p : Pressure) : Prop := p.load ≤ 255 ∧ p.baseline ≤ 65280

/-- A basket fits the entry of its desk (R24). -/
abbrev Desk.fits (e : Desk) (b : Basket) : Prop :=
  b.count ≤ e.capacity ∧ e.capacity ≤ 128 ∧ (e.inUse = false → b.count = 0)

/-- What is within its bounds in one state is within them in the other. -/
structure State.keeps (s t : State) : Prop where
  queue : s.queue.length ≤ 64 → t.queue.length ≤ 64
  terminal : ∀ x, (s.terminal x).keeps (t.terminal x)
  pressure : ∀ d, (s.pressure d).inRange → (t.pressure d).inRange
  basket : ∀ d, (s.desk d).fits (s.basket d) → (t.desk d).fits (t.basket d)

/-- The four invariants, from the relation. -/
theorem State.keeps.invariants {s t : State} (h : s.keeps t) (hb : s.bounded)
    (hp : s.pressureInRange) :
    t.bounded ∧ t.pressureInRange ∧ (s.basketsFit → t.basketsFit) ∧
      (s.oneOpenFrame → t.oneOpenFrame) :=
  ⟨⟨h.queue hb.1, fun x => (h.terminal x).bounded (hb.2 x)⟩, fun d => h.pressure d (hp d),
    fun hf d => h.basket d (hf d), fun ho x => (h.terminal x).oneOpen (ho x)⟩

/-! ### Composition -/

theorem Terminal.keeps.refl (r : Terminal) : r.keeps r := ⟨id, id⟩

theorem State.keeps.refl (s : State) : s.keeps s := ⟨id, fun _ => .refl _, fun _ => id, fun _ => id⟩

/-- A composition of two operations, from the last one back to the first. -/
theorem State.keeps.after {s t u : State} (k : t.keeps u) (h : s.keeps t) : s.keeps u where
  queue := k.queue ∘ h.queue
  terminal x := ⟨(k.terminal x).bounded ∘ (h.terminal x).bounded,
    (k.terminal x).oneOpen ∘ (h.terminal x).oneOpen⟩
  pressure d := k.pressure d ∘ h.pressure d
  basket d := k.basket d ∘ h.basket d

theorem State.keeps.foldl {β : Type} (g : State → β → State)
    (h : ∀ (s : State) (b : β), s.keeps (g s b)) (l : List β) (s : State) : s.keeps (l.foldl g s) := by
  induction l generalizing s with
  | nil => exact .refl s
  | cons b rest ih => exact (ih (g s b)).after (h s b)

/-! ### Writes -/

/-- The tables that hold what is bounded, less the notice queue. -/
def boundedFields : List Field := [.terminals, .pressures, .desks, .baskets]

/-- A change outside the bounded tables that leaves the notice queue within its bound. -/
theorem keeps_of_queue {fs : List Field} {s t : State} (h : s.onlyChanges fs t)
    (hd : ∀ f ∈ boundedFields, f ∉ fs) (hq : s.queue.length ≤ 64 → t.queue.length ≤ 64) :
    s.keeps t := by
  have ht : s.terminals = t.terminals := h .terminals (hd _ (by decide))
  have hp : s.pressures = t.pressures := h .pressures (hd _ (by decide))
  have hdesk : s.desks = t.desks := h .desks (hd _ (by decide))
  have hb : s.baskets = t.baskets := h .baskets (hd _ (by decide))
  refine ⟨hq, fun x => ?_, fun d => ?_, fun d => ?_⟩
  · rw [State.terminal, State.terminal, ht]; exact .refl _
  · rw [State.pressure, State.pressure, hp]; exact id
  · rw [State.desk, State.desk, hdesk, State.basket, State.basket, hb]; exact id

theorem keeps_of_frame {fs : List Field} {s t : State} (h : s.onlyChanges fs t)
    (hd : ∀ f ∈ .queue :: boundedFields, f ∉ fs) : s.keeps t := by
  have hq : s.queue = t.queue := h .queue (hd _ (by decide))
  exact keeps_of_queue h (fun f hf => hd f (List.mem_cons_of_mem _ hf)) (by rw [hq]; exact id)

/-- Two states that share the bounded collections. -/
theorem keeps_of_tables {s t : State} (hq : t.queue = s.queue) (ht : t.terminals = s.terminals)
    (hp : t.pressures = s.pressures) (hd : t.desks = s.desks) (hb : t.baskets = s.baskets) :
    s.keeps t := by
  refine ⟨by rw [hq]; exact id, fun x => ?_, fun d => ?_, fun d => ?_⟩
  · rw [State.terminal, State.terminal, ht]; exact .refl _
  · rw [State.pressure, State.pressure, hp]; exact id
  · rw [State.desk, State.desk, hd, State.basket, State.basket, hb]; exact id

section
variable {s : State}

theorem keeps_putTerminal {x : Nat} {r : Terminal} (h : (s.terminal x).keeps r) :
    s.keeps (s.putTerminal x r) := by
  refine ⟨id, fun y => ?_, fun _ => id, fun _ => id⟩
  rw [State.terminal_putTerminal]
  split
  · subst_vars; exact h
  · exact .refl _

theorem keeps_putPressure {d : Nat} {p : Pressure} (h : (s.pressure d).inRange → p.inRange) :
    s.keeps (s.putPressure d p) := by
  refine ⟨id, fun _ => .refl _, fun e => ?_, fun _ => id⟩
  rw [State.pressure_putPressure]
  split
  · subst_vars; exact h
  · exact id

theorem keeps_putDesk {d : Nat} {e : Desk}
    (h : (s.desk d).fits (s.basket d) → e.fits (s.basket d)) : s.keeps (s.putDesk d e) := by
  refine ⟨id, fun _ => .refl _, fun _ => id, fun k => ?_⟩
  rw [State.desk_putDesk, State.basket_putDesk_frame]
  split
  · subst_vars; exact h
  · exact id

theorem keeps_putBasket {d : Nat} {b : Basket}
    (h : (s.desk d).fits (s.basket d) → (s.desk d).fits b) : s.keeps (s.putBasket d b) := by
  refine ⟨id, fun _ => .refl _, fun _ => id, fun k => ?_⟩
  rw [State.basket_putBasket, State.desk_putBasket_frame]
  split
  · subst_vars; exact h
  · exact id

variable (s)

theorem keeps_modStory (n : Nat) (f : Story → Story) : s.keeps (s.modStory n f) :=
  keeps_of_frame (onlyChanges_modStory s n f) (by decide)

theorem keeps_putLine (l : LineId) (x : Line) : s.keeps (s.putLine l x) :=
  keeps_of_frame (onlyChanges_putLine s l x) (by decide)

theorem keeps_reach (due : Nat) : s.keeps (s.reach due) :=
  keeps_of_frame (onlyChanges_reach s due) (by decide)

/-! ### The notice queue (R179, R180) -/

theorem startNotice_queue_le : s.startNotice.queue.length ≤ s.queue.length := by
  unfold State.startNotice
  split
  · rename_i hq
    simp [hq]
  · exact Nat.le_refl _

theorem admitNotice_queue_le (n : Notice) : (s.admitNotice n).queue.length ≤ s.queue.length + 1 := by
  refine Nat.le_trans (startNotice_queue_le _) ?_
  simp

theorem keeps_startNotice : s.keeps s.startNotice :=
  keeps_of_queue (onlyChanges_startNotice s) (by decide) (Nat.le_trans (startNotice_queue_le s))

/-- A notice that is admitted where there is a free entry. -/
theorem keeps_admit {s : State} (n : Notice) (h : 0 < s.noticeFree) : s.keeps (s.admitNotice n) := by
  refine keeps_of_queue (onlyChanges_admit s n) (by decide) fun _ => ?_
  have := admitNotice_queue_le s n
  simp only [State.noticeFree, Config.noticeEntries] at h
  omega

/-- An offer of any notice but RESTARTED takes an entry only where one is free. -/
theorem keeps_offer {n : Notice} (h : n.noticeClass ≠ .restart) : s.keeps (s.offer n) := by
  have hdropped : s.keeps s.markDropped := keeps_of_tables rfl rfl rfl rfl rfl
  unfold State.offer
  split
  · split
    · exact keeps_admit n ‹_›
    · exact hdropped
  · split
    · split
      · rename_i hreserve
        exact keeps_admit n (Nat.lt_of_lt_of_le (by decide) hreserve)
      · exact hdropped
    · exact .refl s
  · split
    · exact keeps_admit n ‹_›
    · exact .refl s
  · contradiction

/-! ### Attentions, and the work of the page unit and the typesetter unit -/

theorem keeps_attend (t : Nat) (b : AttentionBody) : s.keeps (s.attend t b) := by
  unfold State.attend
  dsimp only
  split
  · exact .refl s
  · refine keeps_putTerminal ⟨fun ⟨hholds, hviews, hwatches, hattentions⟩ => ?_, id⟩
    refine ⟨hholds, hviews, hwatches, ?_⟩
    rw [joinAttention_length _ _ hattentions]
    exact Nat.min_le_right _ _

/-- An elementary write of the two units breaks no bound. -/
theorem keeps_of_pageWrite {s t : State} (h : PageWrite s t) : s.keeps t := by
  cases h with
  | page | edition | typesetter | ready => exact keeps_of_tables rfl rfl rfl rfl rfl
  | lift n => exact keeps_modStory s n _
  | offer n hn => exact keeps_offer s hn
  | attend t b => exact keeps_attend s t b

/-- Whatever the page unit and the typesetter unit do breaks no bound. -/
theorem State.pageWork.keeps {s t : State} (h : s.pageWork t) : s.keeps t := by
  induction h with
  | refl => exact .refl s
  | tail _ hlast ih => exact (keeps_of_pageWrite hlast).after ih

theorem keeps_attendAll (ts : List Nat) (b : AttentionBody) : s.keeps (s.attendAll ts b) :=
  (pageWork_attendAll s ts b).keeps

theorem keeps_tellChange (k : Change) (n : Nat) (c : CopyCause) : s.keeps (s.tellChange k n c) :=
  (pageWork_tellChange s k n c).keeps

theorem keeps_startTest : s.keeps s.startTest := (pageWork_startTest s).keeps

/-! ### Baskets (R25) -/

theorem keeps_leaveBasket (d n : Nat) : s.keeps (s.leaveBasket d n) :=
  keeps_putBasket fun ⟨hcount, hcap, hout⟩ =>
    have hle := Basket.count_leave_le (s.basket d) n
    ⟨Nat.le_trans hle hcount, hcap, fun h => Nat.le_zero.1 (hout h ▸ hle)⟩

theorem basketFull_leaveBasket (d e n : Nat) (h : s.basketFull d = false) :
    (s.leaveBasket e n).basketFull d = false := by
  have hle := Basket.count_leave_le (s.basket e) n
  simp only [State.basketFull, State.leaveBasket, State.basket_putBasket, State.desk_putBasket_frame,
    decide_eq_false_iff_not, Nat.not_le] at h ⊢
  split
  · subst_vars; omega
  · exact h

theorem keeps_joinBasket {s : State} {d : Nat} (n : Nat) (flash : Bool)
    (huse : (s.desk d).inUse = true) (hroom : s.basketFull d = false) :
    s.keeps (s.joinBasket d n flash) :=
  keeps_putBasket fun ⟨_, hcap, _⟩ =>
    ⟨count_join_le s d n flash hroom, hcap, fun hout => by rw [huse] at hout; cases hout⟩

theorem keeps_fileAt {s : State} {d : Nat} (n : Nat) (flash : Bool)
    (huse : (s.desk d).inUse = true) (hroom : s.basketFull d = false) :
    s.keeps (s.fileAt n d flash) :=
  (keeps_modStory _ n _).after ((keeps_modStory _ n _).after (keeps_joinBasket n flash huse hroom))

theorem keeps_releaseInPlace (n : Nat) : s.keeps (s.releaseInPlace n) :=
  (keeps_modStory _ n _).after (keeps_modStory s n _)

/-! ### Hold lists, view stacks and outbound lists (R34, R104 to R110, R113) -/

theorem keeps_dropHold (t n : Nat) : s.keeps (s.dropHold t n) :=
  keeps_putTerminal ⟨fun ⟨hholds, hrest⟩ =>
    ⟨Nat.le_trans (List.length_filter_le ..) hholds, hrest⟩, id⟩

theorem keeps_addHold {s : State} {t : Nat} (n : Nat) (h : (s.terminal t).holds.length < 4) :
    s.keeps (s.addHold t n) :=
  keeps_putTerminal ⟨fun ⟨_, hrest⟩ => ⟨by rw [List.length_append]; exact h, hrest⟩, id⟩

theorem pushView_length_le {views : List Nat} (n : Nat) (h : views.length ≤ 8) :
    (pushView views n).length ≤ 8 := by
  unfold pushView
  split
  · exact h
  · rw [List.length_cons, List.length_take]
    omega

theorem keeps_pushView (t n : Nat) : s.keeps (s.pushView t n) :=
  keeps_putTerminal ⟨fun ⟨hholds, hviews, hrest⟩ => ⟨hholds, pushView_length_le n hviews, hrest⟩, id⟩

/-- A terminal's outbound list and the free blocks are written, with at most one open frame kept. -/
theorem keeps_putOutbound {t free : Nat} {fs : List OutFrame}
    (h : ((s.terminal t).outbound.filter OutFrame.isOpen).length ≤ 1 →
      (fs.filter OutFrame.isOpen).length ≤ 1) :
    s.keeps { s.putTerminal t { s.terminal t with outbound := fs } with freeBlocks := free } :=
  State.keeps.after (t := s.putTerminal t { s.terminal t with outbound := fs })
    (keeps_of_tables rfl rfl rfl rfl rfl) (keeps_putTerminal ⟨id, h⟩)

theorem keeps_discardFrames (t : Nat) (p : OutFrame → Bool) : s.keeps (s.discardFrames t p) :=
  keeps_putOutbound s (Nat.le_trans (filter_open_le _ _))

theorem keeps_extendOpen (t : Nat) (f g : OutFrame) : s.keeps (s.extendOpen t f g) :=
  keeps_putOutbound s (Nat.le_trans (replaceOpen_open_le g _))

/-- A frame is appended that is closed, or where no frame is open. -/
theorem keeps_appendFrame {s : State} {t : Nat} {f : OutFrame}
    (h : f.isOpen = false ∨ (s.terminal t).outbound.filter OutFrame.isOpen = []) :
    s.keeps (s.appendFrame t f) := by
  refine keeps_putOutbound s fun hone => ?_
  rw [List.filter_append, List.length_append]
  rcases h with hclosed | hnone
  · simpa [hclosed] using hone
  · rw [hnone, List.length_nil, Nat.zero_add]
    exact List.length_filter_le ..

end

/-! ### Liveness (R89 to R91) -/

section
variable (s : State)

theorem keeps_wantRefresh (t : Nat) (r : RefreshReason) : s.keeps (s.wantRefresh t r) := by
  unfold State.wantRefresh
  dsimp only
  split
  · exact .refl s
  · split
    · exact keeps_offer s (by nofun)
    · exact keeps_putTerminal ⟨id, id⟩

theorem keeps_reofferRefresh (t : Nat) : s.keeps (s.reofferRefresh t) := by
  unfold State.reofferRefresh
  split
  · exact .refl s
  · split
    · refine State.keeps.after (keeps_putTerminal ?_) (keeps_offer s (by nofun))
      rw [terminal_offer]
      exact ⟨id, id⟩
    · exact .refl s

theorem keeps_reconnect (t : Nat) : s.keeps (s.reconnect t) := by
  unfold State.reconnect
  dsimp only
  split
  · exact (keeps_putTerminal (by exact ⟨id, id⟩)).after
      ((keeps_attend _ _ _).after (keeps_offer s (by nofun)))
  · exact .refl s

theorem keeps_goLive (t : Nat) : s.keeps (s.goLive t) :=
  (keeps_reconnect _ _).after ((keeps_wantRefresh _ _ _).after (keeps_putTerminal ⟨id, id⟩))

theorem keeps_countAnswer {s : State} {t : Nat} {r : Terminal} (h : (s.terminal t).keeps r) :
    s.keeps (s.countAnswer t r) := by
  unfold State.countAnswer
  split
  · exact (keeps_goLive _ _).after (keeps_putTerminal h)
  · exact keeps_putTerminal ⟨h.bounded, h.oneOpen⟩

theorem keeps_answerLiveness (t : Nat) : s.keeps (s.answerLiveness t) := by
  unfold State.answerLiveness
  dsimp only
  split
  case h_1 => exact .refl s
  case h_2 => exact keeps_countAnswer ⟨id, id⟩
  case h_3 => exact (keeps_reofferRefresh _ _).after (keeps_putTerminal ⟨id, id⟩)
  case h_4 => exact keeps_putTerminal ⟨id, id⟩
  case h_5 => exact keeps_countAnswer ⟨id, id⟩

theorem keeps_releaseHeld (c : CopyCause) (t n : Nat) : s.keeps (State.releaseHeld c t s n) :=
  (keeps_tellChange _ _ _ _).after ((keeps_dropHold _ _ _).after (keeps_releaseInPlace s n))

theorem Terminal.keeps_darkened (r : Terminal) : r.keeps r.darkened :=
  ⟨fun ⟨hholds, _⟩ => ⟨hholds, Nat.zero_le _, Nat.zero_le _, Nat.zero_le _⟩, id⟩

theorem keeps_goDark (t : Nat) : s.keeps (s.goDark t) := by
  unfold State.goDark
  exact (keeps_offer _ (by nofun)).after ((keeps_discardFrames _ _ _).after
    ((State.keeps.foldl _ (fun u n => keeps_releaseHeld u .darkness t n) _ _).after
      (keeps_putTerminal (Terminal.keeps_darkened _))))

theorem keeps_countMiss {s : State} {t : Nat} {r : Terminal} (f : Liveness)
    (h : (s.terminal t).keeps r) : s.keeps (s.countMiss t r f) := by
  unfold State.countMiss
  split
  · exact (keeps_goDark _ _).after (keeps_putTerminal h)
  · exact keeps_putTerminal ⟨h.bounded, h.oneOpen⟩

theorem keeps_miss (t : Nat) : s.keeps (s.miss t) := by
  unfold State.miss
  dsimp only
  split
  case h_1 => exact .refl s
  case h_2 => exact keeps_countMiss _ ⟨id, id⟩
  case h_3 => exact keeps_countMiss _ ⟨id, id⟩
  case h_4 => exact keeps_countMiss _ ⟨id, id⟩
  case h_5 => exact .refl s

/-! ### The line turn (R94 to R96) -/

/-- An output turn takes the first attention or the first frame. -/
theorem Terminal.keeps_nextOutput {r q : Terminal} {w : LineFrame}
    (h : r.nextOutput = some (w, q)) : r.keeps q := by
  unfold Terminal.nextOutput at h
  split at h
  · rename_i a rest hatt
    cases h
    refine ⟨fun ⟨hholds, hviews, hwatches, hattentions⟩ => ⟨hholds, hviews, hwatches, ?_⟩, id⟩
    rw [hatt] at hattentions
    exact Nat.le_of_succ_le hattentions
  · rename_i hout
    cases h
    refine ⟨id, Nat.le_trans ?_⟩
    rw [hout]
    exact (List.sublist_cons_self _ _).filter _ |>.length_le
  · cases h

theorem keeps_beginCycle (l : LineId) (c : Nat) : s.keeps (s.beginCycle l c) := by
  unfold State.beginCycle
  split
  · exact keeps_putLine _ _ _
  · exact keeps_putLine _ _ _

theorem keeps_pollTurn (l : LineId) : s.keeps (s.pollTurn l) := by
  unfold State.pollTurn
  dsimp only
  split
  · exact keeps_putLine _ _ _
  · exact keeps_beginCycle _ _ _

theorem keeps_beginOutput (l : LineId) (d : Nat) : s.keeps (s.beginOutput l d) := by
  unfold State.beginOutput
  dsimp only
  split
  · exact .refl s
  · rename_i hnext
    exact (keeps_putLine _ _ _).after (keeps_putTerminal (Terminal.keeps_nextOutput hnext))

theorem keeps_lineTurn (l : LineId) : s.keeps (s.lineTurn l) := by
  unfold State.lineTurn
  split
  · split
    · exact keeps_beginOutput _ _ _
    · exact keeps_pollTurn _ _
  · exact keeps_pollTurn _ _

/-! ### Frames of the store link (R177, R189) -/

theorem keeps_hearFrame : s.keeps s.hearFrame := by
  unfold State.hearFrame State.endStoreLost
  split
  · exact (keeps_startTest _).after ((keeps_attendAll _ _ _).after
      (keeps_of_tables rfl rfl rfl rfl rfl))
  · exact keeps_of_tables rfl rfl rfl rfl rfl

theorem keeps_refuseOrder (k : Byte) (c : Code) (i : Option Nat) :
    s.keeps (s.refuseOrder k c i) := keeps_offer s (by nofun)

/-! ### Restarts (R19, R20, R74, R75, R191) -/

theorem keeps_relink (cause : RestartCause) : s.keeps (s.relink cause) :=
  (⟨fun _ => Nat.zero_le 64, fun _ => .refl _, fun _ => id, fun _ => id⟩ : s.keeps (s.relink cause))

theorem keeps_restartLines : s.keeps s.restartLines :=
  (pageWork_tsLine _).keeps.after (.foldl _ (fun s l => keeps_beginCycle s l 0) _ s)

/-- A state with nothing listed in the bounded tables. -/
theorem keeps_of_clear {s t : State} (hq : t.queue = []) (ht : t.terminals = [])
    (hp : t.pressures = []) (hd : t.desks = []) (hb : t.baskets = []) : s.keeps t := by
  refine ⟨fun _ => ?_, fun x => ?_, fun d _ => ?_, fun d _ => ?_⟩
  · rw [hq]; exact Nat.zero_le 64
  · have hclear : t.terminal x = Terminal.initial := by rw [State.terminal, ht]; rfl
    rw [hclear]
    exact ⟨fun _ => ⟨Nat.zero_le 4, Nat.zero_le 8, Nat.zero_le 4, Nat.zero_le 4⟩, fun _ => Nat.zero_le 1⟩
  · rw [State.pressure, hp]; exact ⟨Nat.zero_le _, Nat.zero_le _⟩
  · rw [State.desk, hd, State.basket, hb]
    exact (by decide : Desk.initial.fits Basket.initial)

theorem keeps_coldRestart (cause : RestartCause) : s.keeps (s.coldRestart cause) :=
  (keeps_restartLines _).after (keeps_of_clear rfl rfl rfl rfl rfl)

theorem Terminal.keeps_afterWarm (r : Terminal) : r.keeps r.afterWarm := by
  unfold Terminal.afterWarm
  split <;> exact ⟨fun _ => ⟨Nat.zero_le 4, Nat.zero_le 8, Nat.zero_le 4, Nat.zero_le 4⟩,
    fun _ => Nat.zero_le 1⟩

/-- Rewriting pressure states one by one, by a function that keeps them in range. -/
theorem inRange_foldl_put {f : Nat → Pressure → Pressure}
    (hf : ∀ d p, p.inRange → (f d p).inRange) (ds : List Nat) (tab : Table Pressure) (j : Nat)
    (h : (Table.get Pressure.initial tab j).inRange) :
    (Table.get Pressure.initial (ds.foldl (fun acc d => Table.put Pressure.initial acc d
      (f d (Table.get Pressure.initial acc d))) tab) j).inRange := by
  induction ds generalizing tab with
  | nil => exact h
  | cons d rest ih =>
    refine ih _ ?_
    rw [Table.get_put]
    split
    · subst_vars; exact hf _ _ h
    · exact h

theorem keeps_warmBlocks : s.keeps s.warmBlocks := by
  refine State.keeps.after (t := s.abandonSend .restart) ⟨id, fun x => ?_, fun d => ?_, fun _ => id⟩
    (pageWork_abandonSend s _).keeps
  · have hterm : s.warmBlocks.terminal x = ((s.abandonSend .restart).terminal x).afterWarm :=
      Table.get_update_keys Terminal.initial Terminal.afterWarm Terminal.afterWarm_afterWarm rfl _ x
    rw [hterm]
    exact Terminal.keeps_afterWarm _
  · unfold State.warmBlocks State.pressure
    dsimp only
    exact inRange_foldl_put (f := fun e p => p.afterWarm ((s.abandonSend .restart).desk e).inUse)
      (fun _ _ => id) _ _ d

theorem keeps_warmRestart : s.keeps s.warmRestart := by
  unfold State.warmRestart
  dsimp only
  refine (keeps_restartLines _).after ?_
  have hlinked := (keeps_relink s.warmBlocks .warmOrder).after (keeps_warmBlocks s)
  split
  · exact (pageWork_afterSend _ _).keeps.after hlinked
  · exact hlinked

theorem keeps_orderedRestart (k : RestartKind) : s.keeps (s.orderedRestart k) := by
  cases k with
  | full => exact keeps_coldRestart s .fullOrder
  | warm => exact keeps_warmRestart s

end

end Sys2Proof.Machine
end


section
/-! SUPPORT. Every command, and so every step, keeps the bounds of the collections, the baskets, the open frames
and the pressure values (R24, R34, R56, R105, R113, R117, R120, R179). -/

namespace Sys2Proof.Machine

/-! ### Judging -/

/-- Whatever state a meaning answers, no bound is broken on the way there from `s`. -/
def Answer.keeps (s : State) (a : Answer) : Prop := ∀ t, a = .next t → s.keeps t

theorem keeps_next {s t : State} (h : s.keeps t) : Answer.keeps s (.next t) := by
  rintro _ ⟨⟩
  exact h

section
variable {s : State}

theorem keeps_takeFrame (kind : Byte) (body : List Byte) {judge : State → State}
    (hjudge : ∀ u : State, u.keeps (judge u)) : s.keeps (s.takeFrame kind body judge) := by
  unfold State.takeFrame
  split
  · exact (keeps_refuseOrder _ _ _ _).after (keeps_of_tables rfl rfl rfl rfl rfl)
  · split
    · exact keeps_hearFrame s
    · exact (hjudge _).after (keeps_hearFrame s)

/-- An order keeps the bounds when its judging of a body that has been read does. -/
theorem keeps_order {α : Type} {kind : Byte} {body : List Byte} {ident : Option Nat}
    {fields : Option α} {judge : State → α → State} (hjudge : ∀ (u : State) (x : α), u.keeps (judge u x)) :
    Answer.keeps s
      (.next (s.takeFrame kind body fun u => u.readBody kind ident fields (judge u))) := by
  refine keeps_next (keeps_takeFrame kind body fun u => ?_)
  unfold State.readBody
  split
  · exact keeps_refuseOrder _ _ _ _
  · exact hjudge u _

theorem keeps_judge {kind : Byte} {ident : Option Nat} {checks : List (Bool × Code)}
    {taken : State} (htaken : firstRefusal checks = none → s.keeps taken) :
    s.keeps (s.judge kind ident checks taken) := by
  unfold State.judge
  split
  · exact keeps_refuseOrder _ _ _ _
  · exact htaken ‹_›

/-- The content of an answer is acted on after the liveness update, and the line turn follows (R85, R87). -/
theorem keeps_answer (l : LineId) (drop size : Nat) {content : State → State}
    (hcontent : ∀ u : State, u.keeps (content u)) :
    Answer.keeps s (.next (s.takeAnswer l drop size content)) := by
  refine keeps_next ?_
  unfold State.takeAnswer
  split
  case h_1 =>
    split
    · exact (keeps_lineTurn _ l).after (keeps_miss s _)
    · split
      · refine (keeps_lineTurn _ l).after ?_
        unfold State.applyAnswer
        dsimp only
        split
        · exact (hcontent _).after (keeps_answerLiveness s _)
        · exact keeps_answerLiveness s _
      · exact .refl s
  all_goals exact .refl s

theorem keeps_request {α : Type} {l : LineId} {drop : Nat} {q : RequestKind} {args : List Byte}
    {read : List Byte → Option α} {judge : State → Nat → α → State}
    (hjudge : ∀ (u : State) (x : α), u.keeps (judge u (terminalOf l drop) x)) :
    Answer.keeps s (.next (s.takeRequest l drop q args read judge)) := by
  refine keeps_answer l drop _ fun u => ?_
  split
  · exact keeps_attend _ _ _
  · exact hjudge u _

theorem keeps_judgeRequest {t : Nat} {q : RequestKind} {known full : Option Nat}
    {checks : List (Bool × Code)} {taken : State}
    (htaken : firstRefusal checks = none → s.keeps taken) :
    s.keeps (s.judgeRequest t q known full checks taken) := by
  unfold State.judgeRequest
  split
  · exact keeps_attend _ _ _
  · exact htaken ‹_›

end

/-! ### The tables (R22, R23, R58, R73, R82) -/

theorem keeps_deskTurns (s : State) (d : Nat) (was is : Bool) : s.keeps (s.deskTurns d was is) := by
  have hcleared : s.keeps (s.putPressure d Pressure.initial) :=
    keeps_putPressure fun _ => ⟨Nat.zero_le _, Nat.zero_le _⟩
  unfold State.deskTurns
  split
  · exact .refl s
  · dsimp only
    split
    · exact (keeps_offer _ (by nofun)).after hcleared
    · exact hcleared

/-- A taken LOAD DESK leaves an entry that the basket fits: its checks have compared the two (R22). -/
theorem keeps_takeLoadDesk {s : State} {x : DeskLoad}
    (hchecks : firstRefusal (s.loadDeskChecks x) = none) : s.keeps (s.takeLoadDesk x) := by
  refine (keeps_deskTurns _ _ _ _).after (keeps_putDesk fun _ => ?_)
  simp only [State.loadDeskChecks, firstRefusal_cons] at hchecks
  obtain ⟨-, -, hused, hunused, -⟩ := hchecks
  have hcap : clamp 1 128 x.capacity ≤ 128 := Nat.max_le.2 ⟨by decide, Nat.min_le_left _ _⟩
  cases huse : x.inUse with
  | true =>
    have hcount : (s.basket x.desk).count ≤ clamp 1 128 x.capacity := by simpa [huse] using hused
    exact ⟨hcount, hcap, by nofun⟩
  | false =>
    have hcount : (s.basket x.desk).count = 0 := by
      rw [huse] at hunused
      simp only [Bool.not_false, Bool.true_and, Bool.or_eq_false_iff, decide_eq_false_iff_not] at hunused
      omega
    exact ⟨by rw [hcount]; exact Nat.zero_le _, hcap, fun _ => hcount⟩

theorem keeps_takeLoadTerminal (s : State) (x : TerminalLoad) : s.keeps (s.takeLoadTerminal x) := by
  have hinitial : ∀ {r q : Terminal}, q.holds = [] → q.views = [] → q.watches = [] →
      q.attentions = [] → q.outbound = [] → r.keeps q := by
    intro r q hh hv hw ha ho
    exact ⟨fun _ => by simp [Terminal.bounded, hh, hv, hw, ha], fun _ => by simp [Terminal.oneOpen, ho]⟩
  unfold State.takeLoadTerminal
  dsimp only
  split
  · split
    · exact keeps_putTerminal (hinitial rfl rfl rfl rfl rfl)
    · exact keeps_putTerminal ⟨id, id⟩
  · exact (keeps_putTerminal (hinitial rfl rfl rfl rfl rfl)).after (keeps_discardFrames _ _ _)

/-! ### Screens (R107 to R110) -/

theorem keeps_continueScreen (s : State) (x : ScreenOrder) : s.keeps (s.continueScreen x) := by
  unfold State.continueScreen
  split
  · exact keeps_refuseOrder _ _ _ _
  · split
    · exact (keeps_refuseOrder _ _ _ _).after (keeps_discardFrames _ _ _)
    · split
      · exact (keeps_refuseOrder _ _ _ _).after (keeps_discardFrames _ _ _)
      · exact keeps_extendOpen _ _ _ _

/-- A new screen is appended where the frames it supersedes, an open one among them, have gone (R108). -/
theorem keeps_newScreen (s : State) (x : ScreenOrder) (form : Form) :
    s.keeps (s.newScreen x form) := by
  have hcleared := keeps_discardFrames s x.terminal (supersededBy form)
  have hnone : ((s.discardFrames x.terminal (supersededBy form)).terminal
      x.terminal).outbound.filter OutFrame.isOpen = [] := by
    change ((s.putTerminal x.terminal _).terminal x.terminal).outbound.filter OutFrame.isOpen = []
    rw [State.terminal_putTerminal, if_pos rfl]
    exact no_open_after_supersede form _
  unfold State.newScreen State.roomForScreen
  dsimp only
  split
  · exact (keeps_wantRefresh _ _ _).after ((keeps_discardFrames _ _ _).after hcleared)
  · split
    · exact (keeps_refuseOrder _ _ _ _).after hcleared
    · exact (keeps_appendFrame (.inr hnone)).after hcleared

theorem keeps_takeScreen (s : State) (x : ScreenOrder) : s.keeps (s.takeScreen x) := by
  unfold State.takeScreen
  split
  · exact keeps_continueScreen s x
  · split
    · exact .refl s
    · exact keeps_newScreen s x _

/-! ### Pressure (R61, R68, R72) -/

theorem loadSample_le (s : State) (d : Nat) : s.loadSample d ≤ 255 := Nat.min_le_left _ _

theorem inRange_reseeded {load : Nat} (h : load ≤ 255) : (Pressure.reseeded load).inRange :=
  ⟨h, show 256 * load ≤ 65280 by omega⟩

theorem baselineStep_le (beta : Nat) {d : Int} (h : d ≠ 0) : baselineStep beta d ≤ d.natAbs := by
  unfold baselineStep
  split
  · exact Nat.le_refl _
  · exact Nat.max_le.2 ⟨Int.natAbs_pos.2 h, Nat.div_le_self _ _⟩

/-- A baseline never moves past the load it moves toward (R68). -/
theorem moveBaseline_le (beta : Nat) {load baseline bound : Nat} (hload : 256 * load ≤ bound)
    (hbase : baseline ≤ bound) :
    moveBaseline beta baseline (deviation load baseline) ≤ bound := by
  unfold moveBaseline
  split
  · exact hbase
  · rename_i hne
    have hstep := baselineStep_le beta hne
    split
    · unfold deviation at *
      omega
    · omega

theorem inRange_sampled {p : PressureParams} {running : Bool} {load : Nat} {x : Pressure}
    (hload : load ≤ 255) (h : x.inRange) : (x.sampled p running load).inRange := by
  refine ⟨hload, ?_⟩
  unfold Pressure.sampled
  dsimp only
  split
  · exact h.2
  · exact moveBaseline_le _ (by omega) h.2

theorem keeps_reseedDesk (s : State) (d : Nat) : s.keeps (s.reseedDesk d) :=
  keeps_putPressure fun _ => inRange_reseeded (loadSample_le s d)

theorem keeps_takeReseed (s : State) (d : Nat) : s.keeps (s.takeReseed d) := by
  unfold State.takeReseed
  dsimp only
  split
  · exact (keeps_offer _ (by nofun)).after (keeps_reseedDesk s d)
  · exact keeps_reseedDesk s d

theorem keeps_periodAtDesk (s : State) (d : Nat) : s.keeps (s.periodAtDesk d) := by
  have hsampled : s.keeps (s.putPressure d ((s.pressure d).sampled (s.desk d).params
      s.editionRunning (s.loadSample d))) :=
    keeps_putPressure (inRange_sampled (loadSample_le s d))
  unfold State.periodAtDesk
  split
  · split
    · exact keeps_reseedDesk s d
    · unfold State.sampleDesk
      dsimp only
      split
      · exact hsampled
      · exact (keeps_offer _ (by nofun)).after hsampled
  · exact .refl s

theorem keeps_stream (s : State) : s.keeps s.stream := by
  unfold State.stream
  split
  · exact .refl s
  · split
    · exact (keeps_offer _ (by nofun)).after (keeps_of_tables rfl rfl rfl rfl rfl)
    · exact keeps_of_tables rfl rfl rfl rfl rfl

/-! ### The orders on stories (R7 to R11) -/

theorem keeps_takeAnnounce {s : State} {d c : Nat} {flash : Bool} {slug : List Byte}
    (hchecks : firstRefusal (s.announceChecks d c slug) = none) :
    s.keeps (s.takeAnnounce d c flash slug) := by
  simp only [State.announceChecks, firstRefusal_cons, Bool.not_eq_false'] at hchecks
  obtain ⟨-, -, huse, -, hroom, -⟩ := hchecks
  unfold State.takeAnnounce
  split
  · exact .refl s
  · rename_i n _
    exact (keeps_tellChange _ _ _ _).after ((keeps_modStory _ _ _).after (State.keeps.after
      (keeps_joinBasket (s := s.putStory n _) n flash huse hroom)
      (keeps_of_frame (onlyChanges_putStory s n _) (by decide))))

theorem keeps_takeRevise (s : State) (n : Nat) (slug : List Byte) :
    s.keeps (s.takeRevise n slug) :=
  (keeps_startTest _).after ((pageWork_storyRevised _ n).keeps.after
    ((keeps_tellChange _ _ _ _).after (keeps_modStory s n _)))

theorem keeps_forgetStory (s : State) (n : Nat) : s.keeps (s.forgetStory n) := by
  refine ⟨id, fun x => ?_, fun _ => id, fun _ => id⟩
  rw [terminal_forgetStory]
  exact ⟨fun ⟨hholds, hviews, hwatches, hattentions⟩ =>
    ⟨hholds, Nat.le_trans (List.length_filter_le ..) hviews,
      Nat.le_trans (List.length_filter_le ..) hwatches, hattentions⟩, id⟩

theorem keeps_takePurge (s : State) (n : Nat) : s.keeps (s.takePurge n) := by
  have hleft : s.keeps (s.unbasketed n) := by
    unfold State.unbasketed
    split
    · exact keeps_leaveBasket _ _ _
    · exact .refl s
  rw [takePurge_eq]
  exact (keeps_of_frame (onlyChanges_putStory _ n _) (by decide)).after
    ((keeps_forgetStory _ n).after ((keeps_tellChange _ _ _ _).after hleft))

theorem keeps_takeMove {s : State} {n d : Nat} {flash : Bool}
    (hchecks : firstRefusal (s.moveChecks n d) = none) : s.keeps (s.takeMove n d flash) := by
  simp only [State.moveChecks, firstRefusal_cons, Bool.not_eq_false'] at hchecks
  obtain ⟨-, -, -, -, -, huse, hroom, -⟩ := hchecks
  exact (keeps_tellChange _ _ _ _).after ((keeps_fileAt (s := s.leaveBasket _ n) n flash huse
    (basketFull_leaveBasket s d _ n hroom)).after (keeps_leaveBasket s _ n))

theorem keeps_takePull {s : State} {n d : Nat} (flash : Bool) (cause : CopyCause)
    (huse : (s.desk d).inUse = true) (hroom : s.basketFull d = false) :
    s.keeps (s.takePull n d flash cause) :=
  (keeps_startTest _).after ((pageWork_storyPulled _ n).keeps.after
    ((keeps_tellChange _ _ _ _).after (keeps_fileAt n flash huse hroom)))

theorem keeps_takePlace (s : State) (n r : Nat) : s.keeps (s.takePlace n r) :=
  (keeps_startTest _).after ((pageWork_pageAfterPlace _ r _).keeps.after
    ((keeps_tellChange _ _ _ _).after ((keeps_modStory _ n _).after
      (pageWork_putPage s r _).keeps)))

/-! ### The requests on stories (R32 to R43) -/

theorem keeps_holdStory {s : State} {t n : Nat} (q : RequestKind)
    (h : (s.terminal t).holds.length < 4) : s.keeps (s.holdStory t n q) := by
  refine (keeps_tellChange _ _ _ _).after ((keeps_offer _ (by nofun)).after
    ((keeps_pushView _ t n).after (State.keeps.after (keeps_addHold n ?_)
      ((keeps_modStory _ n _).after (keeps_modStory s n _)))))
  rw [State.nudgeLeave, terminal_modStory, terminal_modStory]
  exact h

/-- The room check picks the diverted target or the base target, and one that is not full (R38). -/
theorem roomFor_toDesk {s : State} {base d : Nat} {diverted : Option Nat}
    (h : s.roomFor base diverted = .toDesk d) :
    (diverted = some d ∨ base = d) ∧ s.basketFull d = false := by
  simp only [State.roomFor, Bool.not_eq_true'] at h
  split at h
  · split at h
    · cases h; exact ⟨.inl rfl, ‹_›⟩
    · split at h
      · cases h; exact ⟨.inr rfl, ‹_›⟩
      · cases h
  · split at h
    · cases h; exact ⟨.inr rfl, ‹_›⟩
    · cases h

/-- The diversion scan answers a desk in use (R37). -/
theorem divertedTarget_inUse {s : State} {st : Story} {base d : Nat}
    (h : s.divertedTarget st base = some d) : (s.desk d).inUse = true := by
  obtain ⟨e, he, rfl⟩ := Option.map_eq_some_iff.1 h
  have hmatch := List.find?_some he
  simp only [State.diverts, Bool.and_eq_true] at hmatch
  exact hmatch.2

/-- A SEND that resolves to a desk resolves to one in use, with room (R36 to R38). -/
theorem resolveSend_toDesk {s : State} {st : Story} {role : Role} {named : Option Nat} {d : Nat}
    (h : s.resolveSend st role named = .toDesk d) :
    (s.desk d).inUse = true ∧ s.basketFull d = false := by
  unfold State.resolveSend at h
  split at h
  · cases h
  · split at h <;> cases h
  · split at h
    · cases h
    · rename_i huse
      split at h
      · cases h
      · obtain ⟨hdiverted | rfl, hroom⟩ := roomFor_toDesk h
        · exact ⟨divertedTarget_inUse hdiverted, hroom⟩
        · exact ⟨by simpa using huse, hroom⟩

theorem keeps_sendToDesk {s : State} {t n d : Nat} (flash : Bool)
    (huse : (s.desk d).inUse = true) (hroom : s.basketFull d = false) :
    s.keeps (s.sendToDesk t n d flash) :=
  (keeps_tellChange _ _ _ _).after ((keeps_attend _ _ _).after ((keeps_dropHold _ _ _).after
    ((keeps_fileAt (s := s.leaveBasket _ n) n flash huse
      (basketFull_leaveBasket s d _ n hroom)).after (keeps_leaveBasket s _ n))))

theorem keeps_sendToSet (s : State) (t n : Nat) : s.keeps (s.sendToSet t n) :=
  (keeps_startTest _).after ((pageWork_storySet _ n).keeps.after
    ((keeps_tellChange _ _ _ _).after ((keeps_attend _ _ _).after ((keeps_dropHold _ _ _).after
      ((keeps_modStory _ n _).after (keeps_leaveBasket s _ n))))))

theorem keeps_takeSend (s : State) (t n : Nat) (known desk : Option Nat) (flash : Bool) :
    s.keeps (s.takeSend t n known desk flash) := by
  unfold State.takeSend
  split
  · exact keeps_attend _ _ _
  · exact keeps_sendToSet s t n
  · rename_i hresolved
    obtain ⟨huse, hroom⟩ := resolveSend_toDesk hresolved
    exact keeps_sendToDesk flash huse hroom

theorem keeps_takeReturn (s : State) (t n : Nat) : s.keeps (s.takeReturn t n) :=
  (keeps_tellChange _ _ _ _).after ((keeps_attend _ _ _).after ((keeps_dropHold _ _ _).after
    (keeps_releaseInPlace s n)))

theorem keeps_takeSpike (s : State) (t n : Nat) : s.keeps (s.takeSpike t n) :=
  (keeps_tellChange _ _ _ _).after ((keeps_attend _ _ _).after ((keeps_dropHold _ _ _).after
    ((keeps_modStory _ n _).after ((keeps_modStory _ n _).after (keeps_leaveBasket s _ n)))))

/-! ### Views, listings and watches (R114 to R118) -/

theorem keeps_takeBack (s : State) (t : Nat) : s.keeps (s.takeBack t) := by
  unfold State.takeBack
  refine (keeps_offer _ (by nofun)).after (keeps_putTerminal ⟨fun ⟨hholds, hviews, hrest⟩ => ?_, id⟩)
  exact ⟨hholds, Nat.le_trans (by simp) hviews, hrest⟩

theorem keeps_takeWatch {s : State} {t n : Nat} (h : (s.terminal t).watches.length < 4) :
    s.keeps (s.takeWatch t n) :=
  (keeps_attend _ _ _).after (keeps_putTerminal ⟨fun ⟨hholds, hviews, _, hattentions⟩ =>
    ⟨hholds, hviews, by rw [List.length_append]; exact h, hattentions⟩, id⟩)

theorem keeps_takeUnwatch (s : State) (t n : Nat) : s.keeps (s.takeUnwatch t n) :=
  (keeps_attend _ _ _).after (keeps_putTerminal ⟨fun ⟨hholds, hviews, hwatches, hattentions⟩ =>
    ⟨hholds, hviews, Nat.le_trans (List.length_filter_le ..) hwatches, hattentions⟩, id⟩)

/-! ### Events (R50, R88, R96, R159, R179, R188) -/

theorem keeps_takeKeys (s : State) (t : Nat) (bytes : List Byte) : s.keeps (s.takeKeys t bytes) := by
  unfold State.takeKeys
  split
  · exact keeps_attend _ _ _
  · split
    · exact keeps_offer s (by nofun)
    · exact keeps_attend _ _ _

theorem keeps_refuseUnknown (s : State) (t : Nat) (body : List Byte) :
    s.keeps (s.refuseUnknown t body) := by
  unfold State.refuseUnknown
  split
  · exact keeps_attend _ _ _
  · split <;> exact keeps_attend _ _ _

theorem keeps_nudge (s : State) (n : Nat) : s.keeps (s.nudge n) := by
  have hafter : ∀ u : State, u.keeps (u.afterNudge n) := by
    intro u
    unfold State.afterNudge
    dsimp only
    split
    · exact (keeps_tellChange _ _ _ _).after (keeps_modStory u n _)
    · exact keeps_modStory u n _
  unfold State.nudge
  exact (hafter _).after ((keeps_attendAll _ _ _).after (keeps_modStory s n _))

theorem keeps_takeRestart (s : State) (k : RestartKind) : s.keeps (s.takeRestart k) := by
  unfold State.takeRestart
  split
  · exact keeps_orderedRestart s k
  · exact keeps_of_tables rfl rfl rfl rfl rfl

theorem keeps_answerStatus (s : State) : s.keeps s.answerStatus := by
  unfold State.answerStatus
  split
  · exact State.keeps.after (t := s.offer (.status s.status)) (keeps_of_tables rfl rfl rfl rfl rfl)
      (keeps_offer s (by nofun))
  · exact keeps_offer s (by nofun)

theorem keeps_judgeRead (s : State) (table hi lo : Byte) (count : Nat) :
    s.keeps (s.judgeRead table hi lo count) := by
  unfold State.judgeRead
  split
  · exact keeps_refuseOrder _ _ _ _
  · exact keeps_answerStatus s
  · exact keeps_judge fun _ => keeps_offer s (by nofun)

theorem keeps_enterStoreLost (s : State) : s.keeps s.enterStoreLost := by
  unfold State.enterStoreLost
  exact (pageWork_abandon _ _).keeps.after
    ((State.keeps.foldl _ (fun u t => keeps_discardFrames u t OutFrame.isOpen) _ _).after
      ((keeps_attendAll _ _ _).after (keeps_of_tables rfl rfl rfl rfl rfl)))

section
variable (s : State) (l : LineId)

theorem keeps_noticeFrameEnd : Answer.keeps s (execNoticeFrameEnd s) := by
  refine keeps_next ?_
  split
  · exact .refl s
  · split
    · exact keeps_orderedRestart s _
    · exact (keeps_startNotice _).after (keeps_of_tables rfl rfl rfl rfl rfl)

theorem keeps_pageCallOwedOffered : Answer.keeps s (execPageCallOwedOffered s) := by
  refine keeps_next ?_
  split
  · exact .refl s
  · split
    · exact (pageWork_offerCall s).keeps
    · exact .refl s

theorem keeps_storeSilenceExpiry : Answer.keeps s (execStoreSilenceExpiry s) := by
  refine keeps_next ?_
  split
  · exact .refl s
  · exact (keeps_enterStoreLost _).after (keeps_reach s _)

theorem keeps_samplePeriod : Answer.keeps s (execSamplePeriod s) := by
  refine keeps_next ?_
  split
  · exact .refl s
  · exact (keeps_stream _).after ((State.keeps.foldl _ keeps_periodAtDesk _ _).after
      (keeps_of_tables rfl rfl rfl rfl rfl))

theorem keeps_dataTimerExpiry : Answer.keeps s (execDataTimerExpiry s) := by
  refine keeps_next ?_
  split
  · exact .refl s
  · exact (pageWork_abandon _ _).keeps.after (keeps_reach s _)

theorem keeps_waitTimerExpiry : Answer.keeps s (execWaitTimerExpiry s) := by
  refine keeps_next ?_
  split
  · exact .refl s
  · exact (pageWork_stall _).keeps.after (keeps_reach s _)

theorem keeps_nudgeExpiry (n : Nat) : Answer.keeps s (execNudgeExpiry n s) := by
  refine keeps_next ?_
  split
  · exact .refl s
  · exact (keeps_nudge _ n).after (keeps_reach s _)

theorem keeps_pollFrameSent : Answer.keeps s (execPollFrameSent l s) := by
  refine keeps_next ?_
  split
  · exact keeps_putLine _ _ _
  all_goals exact .refl s

theorem keeps_badAnswerFrame : Answer.keeps s (execBadAnswerFrame l s) := by
  refine keeps_next ?_
  split
  · exact (keeps_lineTurn _ l).after (keeps_miss s _)
  all_goals exact .refl s

theorem keeps_pollWindowExpiry : Answer.keeps s (execPollWindowExpiry l s) := by
  refine keeps_next ?_
  split
  · exact (keeps_lineTurn _ l).after ((keeps_miss _ _).after (keeps_reach s _))
  all_goals exact .refl s

theorem keeps_idleWaitExpiry : Answer.keeps s (execIdleWaitExpiry l s) := by
  refine keeps_next ?_
  split
  · exact (keeps_lineTurn _ l).after (keeps_reach s _)
  all_goals exact .refl s

theorem keeps_outputFrameEnd : Answer.keeps s (execOutputFrameEnd l s) := by
  refine keeps_next ?_
  split
  · exact (keeps_lineTurn _ l).after (keeps_of_tables rfl rfl rfl rfl rfl)
  all_goals exact .refl s

end

/-! ### Orders and requests that need their checks -/

section
variable (s : State) (b : List Byte) (l : LineId) (d : Nat)

theorem keeps_restart : Answer.keeps s (execRestart b s) := by
  refine keeps_order fun u _ => ?_
  split
  · exact keeps_refuseOrder _ _ _ _
  · exact keeps_takeRestart u _

theorem keeps_typesetMode : Answer.keeps s (execTypesetMode b s) := by
  refine keeps_order fun u _ => ?_
  split
  · exact keeps_refuseOrder _ _ _ _
  · exact (keeps_startTest _).after (pageWork_putTypesetter u _).keeps

theorem keeps_pull : Answer.keeps s (execPull b s) := by
  refine keeps_order fun u x => keeps_judge fun hchecks => ?_
  simp only [State.pullChecks, firstRefusal_cons, Bool.not_eq_false'] at hchecks
  obtain ⟨-, -, -, huse, -, hroom, -⟩ := hchecks
  exact keeps_takePull x.2.2 .order huse hroom

theorem keeps_get : Answer.keeps s (execGet l d b s) := by
  refine keeps_request fun u named => keeps_judgeRequest fun hchecks => ?_
  simp only [State.getChecks, firstRefusal_append, firstRefusal_cons, decide_eq_false_iff_not,
    Nat.not_le] at hchecks
  obtain ⟨-, -, -, -, hlimit, -⟩ := hchecks
  exact keeps_holdStory .get hlimit

theorem keeps_getNext : Answer.keeps s (execGetNext l d b s) := by
  refine keeps_request fun u _ => keeps_judgeRequest fun hchecks => ?_
  simp only [State.getNextChecks, firstRefusal_cons, decide_eq_false_iff_not, Nat.not_le] at hchecks
  obtain ⟨-, -, hlimit, -⟩ := hchecks
  exact keeps_holdStory .getNext hlimit

theorem keeps_pullRequest : Answer.keeps s (execPullRequest l d b s) := by
  refine keeps_request fun u x => keeps_judgeRequest fun hchecks => ?_
  simp only [State.pullRequestChecks, firstRefusal_append, firstRefusal_cons,
    Bool.not_eq_false'] at hchecks
  obtain ⟨-, -, -, huse, -, hroom, -⟩ := hchecks
  exact (keeps_attend _ _ _).after (keeps_takePull x.2 (.terminal (terminalOf l d)) huse hroom)

theorem keeps_watch : Answer.keeps s (execWatch l d b s) := by
  refine keeps_request fun u named => keeps_judgeRequest fun hchecks => ?_
  simp only [State.watchChecks, firstRefusal_cons, decide_eq_false_iff_not, Nat.not_le] at hchecks
  obtain ⟨-, -, -, -, -, hlimit, -⟩ := hchecks
  exact keeps_takeWatch hlimit

end

/-! ### Every command, and every step -/

/-- Every command keeps the bounds. -/
theorem keeps_exec (c : Instr) (s : State) : Answer.keeps s (exec c s) := by
  cases c with
  | idle b => exact keeps_order fun _ _ => keeps_judge fun _ => keeps_of_tables rfl rfl rfl rfl rfl
  | run b =>
    exact keeps_order fun _ _ => keeps_judge fun _ =>
      (keeps_startTest _).after (keeps_of_tables rfl rfl rfl rfl rfl)
  | restart b => exact keeps_restart s b
  | ackRestart b => exact keeps_order fun _ _ => keeps_of_tables rfl rfl rfl rfl rfl
  | loadDesk b => exact keeps_order fun _ _ => keeps_judge keeps_takeLoadDesk
  | loadRoute b =>
    exact keeps_order fun _ _ => keeps_judge fun _ => keeps_of_tables rfl rfl rfl rfl rfl
  | loadDiversion b =>
    exact keeps_order fun _ _ => keeps_judge fun _ => keeps_of_tables rfl rfl rfl rfl rfl
  | loadTerminal b =>
    exact keeps_order fun u x => keeps_judge fun _ => keeps_takeLoadTerminal u x
  | setPressure b => exact keeps_order fun _ _ => keeps_judge fun _ => keeps_putDesk id
  | reseed b => exact keeps_order fun u x => keeps_judge fun _ => keeps_takeReseed u x.toNat
  | setTiming b => exact keeps_order fun _ _ => keeps_of_tables rfl rfl rfl rfl rfl
  | setReporting b => exact keeps_order fun _ _ => keeps_of_tables rfl rfl rfl rfl rfl
  | read b => exact keeps_order fun u _ => keeps_judgeRead u _ _ _ _
  | readStatus b => exact keeps_order fun u _ => keeps_answerStatus u
  | announce b => exact keeps_order fun _ _ => keeps_judge keeps_takeAnnounce
  | revise b => exact keeps_order fun u x => keeps_judge fun _ => keeps_takeRevise u x.1 x.2
  | purge b => exact keeps_order fun u n => keeps_judge fun _ => keeps_takePurge u n
  | move b => exact keeps_order fun _ _ => keeps_judge keeps_takeMove
  | pull b => exact keeps_pull s b
  | screen b => exact keeps_order fun u x => keeps_judge fun _ => keeps_takeScreen u x
  | screenContinuation b => exact keeps_order fun u x => keeps_judge fun _ => keeps_takeScreen u x
  | planEdition b =>
    exact keeps_order fun u _ => keeps_judge fun _ => (pageWork_putEdition u _ _).keeps
  | startEdition b =>
    exact keeps_order fun u x => keeps_judge fun _ => (pageWork_takeStart u x.toNat).keeps
  | closeEdition b =>
    exact keeps_order fun u x => keeps_judge fun _ => (pageWork_takeClose u x.toNat).keeps
  | sealEdition b =>
    exact keeps_order fun u x => keeps_judge fun _ => (pageWork_takeSeal u x.toNat).keeps
  | makePage b =>
    exact keeps_order fun u x => keeps_judge fun _ => (pageWork_takeMakePage u x.1 x.2).keeps
  | place b => exact keeps_order fun u x => keeps_judge fun _ => keeps_takePlace u x.1 x.2
  | lift b => exact keeps_order fun u n => keeps_judge fun _ => (pageWork_takeLift u n).keeps
  | release b =>
    exact keeps_order fun u x => keeps_judge fun _ => (pageWork_takeRelease u x.toNat).keeps
  | replate b =>
    exact keeps_order fun u x => keeps_judge fun _ => (pageWork_takeReplate u x.toNat).keeps
  | dropPage b =>
    exact keeps_order fun u x => keeps_judge fun _ => (pageWork_takeDropPage u x.toNat).keeps
  | typesetMode b => exact keeps_typesetMode s b
  | abortSend b =>
    exact keeps_order fun u _ =>
      ((pageWork_abandon _ _).after (pageWork_putTypesetter u _)).keeps
  | pageData b =>
    exact keeps_order fun u x => keeps_judge fun _ => (pageWork_takePageData u x).keeps
  | unknownOrder k b => exact keeps_next (keeps_takeFrame k b fun u => keeps_refuseOrder u _ _ _)
  | frameLengthOver k | frameBadCheck k =>
    exact keeps_next ((keeps_refuseOrder _ _ _ _).after (keeps_of_tables rfl rfl rfl rfl rfl))
  | powerOn | rstinRelease => exact keeps_next (keeps_coldRestart s _)
  | fullRestart | warmRestart =>
    refine keeps_next ?_
    split
    · exact keeps_orderedRestart s _
    · exact .refl s
  | noticeFrameEnd => exact keeps_noticeFrameEnd s
  | pageCallOwedOffered => exact keeps_pageCallOwedOffered s
  | storeSilenceExpiry => exact keeps_storeSilenceExpiry s
  | pollFrameSent l => exact keeps_pollFrameSent s l
  | nil l d k b => exact keeps_answer l d _ .refl
  | keys l d b => exact keeps_answer l d _ fun u => keeps_takeKeys u _ b
  | get l d a => exact keeps_get s a l d
  | getNext l d a => exact keeps_getNext s a l d
  | send l d a =>
    exact keeps_request fun u x => keeps_judgeRequest fun _ => keeps_takeSend u _ _ _ _ _
  | returnStory l d a =>
    exact keeps_request fun u _ => keeps_judgeRequest fun _ => keeps_takeReturn u _ _
  | spike l d a => exact keeps_request fun u _ => keeps_judgeRequest fun _ => keeps_takeSpike u _ _
  | pullRequest l d a => exact keeps_pullRequest s a l d
  | view l d a =>
    exact keeps_request fun u _ => keeps_judgeRequest fun _ =>
      (keeps_offer _ (by nofun)).after (keeps_pushView u _ _)
  | back l d a => exact keeps_request fun u _ => keeps_judgeRequest fun _ => keeps_takeBack u _
  | list l d a =>
    exact keeps_request fun _ _ => keeps_judgeRequest fun _ => keeps_appendFrame (.inl rfl)
  | watch l d a => exact keeps_watch s a l d
  | unwatch l d a =>
    exact keeps_request fun u _ => keeps_judgeRequest fun _ => keeps_takeUnwatch u _ _
  | badAnswerFrame l => exact keeps_badAnswerFrame s l
  | pollWindowExpiry l => exact keeps_pollWindowExpiry s l
  | idleWaitExpiry l => exact keeps_idleWaitExpiry s l
  | outputFrameEnd l => exact keeps_outputFrameEnd s l
  | nudgeExpiry n => exact keeps_nudgeExpiry s n
  | samplePeriod => exact keeps_samplePeriod s
  | tsrdyAsserted =>
    exact keeps_next ((pageWork_tsProceed _).after (PageWrite.ready s _).work).keeps
  | galleyBlockEnd r => exact keeps_next (pageWork_endBlock s r).keeps
  | dataTimerExpiry => exact keeps_dataTimerExpiry s
  | waitTimerExpiry => exact keeps_waitTimerExpiry s
  | unknownRequest l d b => exact keeps_answer l d _ fun u => keeps_refuseUnknown u _ b

theorem keeps_idleStep (s : State) : s.keeps s.idleStep := by
  unfold State.idleStep
  split
  · exact keeps_of_tables rfl rfl rfl rfl rfl
  · exact State.keeps.after (keeps_of_frame (onlyChanges_takeLineByte _ _ _) (by decide))
      (keeps_of_tables rfl rfl rfl rfl rfl)
  · exact keeps_of_tables rfl rfl rfl rfl rfl

theorem keeps_step {s t : State} (h : step s = .next t) : s.keeps t := by
  unfold step at h
  split at h
  · cases h
    exact keeps_idleStep s
  · exact (keeps_exec _ _ t h).after (keeps_of_tables rfl rfl rfl rfl rfl)

/-- Settles O10: each command keeps each record within its bounds, whatever the state of the others. -/
theorem collectionsStayBounded : Obligations.CollectionsStayBounded := by
  unfold Obligations.CollectionsStayBounded
  exact fun _ _ hbounded hrange hstep => (keeps_step hstep).invariants hbounded hrange

end Sys2Proof.Machine
end


section
/-! SUPPORT. The reset state meets every invariant: its tables list nothing, so a record of any number reads as
the reset value of its kind. -/

namespace Sys2Proof.Machine

theorem terminal_reset (x : Nat) : State.reset.terminal x = Terminal.initial := rfl

theorem frameStoreWhole_reset : State.reset.frameStoreWhole where
  canonical := rfl
  whole := by decide
  configured x := by rw [terminal_reset]; decide
  absent _ _ := rfl

theorem timersKept_reset : State.reset.timersKept where
  sample := by decide
  silence := by decide
  due _ _ h := by cases h
  counts _ _ h := by cases h
  limits _ := (by decide : Desk.initial.r ≤ 7)

theorem pagesStand_reset : State.reset.pagesStand where
  canonical := rfl
  inRange _ _ h := by cases h
  distinct _ _ _ _ h := by cases h
  alive _ _ h := by cases h
  slots _ := rfl
  sized _ := .inl rfl
  listed _ _ h := by cases h
  placed _ _ _ h := by cases h
  first _ := ⟨fun h => absurd h List.not_mem_nil, fun ⟨_, h, _⟩ => by cases h⟩
  replate _ := ⟨fun h => absurd h List.not_mem_nil, fun ⟨_, h, _⟩ => by cases h⟩
  once := by decide
  sending _ := ⟨fun ⟨_, h, _⟩ => (by cases h), fun ⟨_, h, _⟩ => (by cases h)⟩
  room := by decide

theorem editionsStand_reset : State.reset.editionsStand where
  numbered _ h := absurd rfl h
  running _ _ h := by cases h
  closed _ _ h := by cases h
  pending _ _ h := by cases h
  sole _ h := by cases h

/-- Settles O6: each invariant, read off the reset values. -/
theorem resetMeetsTheInvariants : Obligations.ResetMeetsTheInvariants := by
  unfold Obligations.ResetMeetsTheInvariants
  refine ⟨⟨by decide, fun x => ?bounded⟩, fun d => ?pressure, ?canonical, frameStoreWhole_reset,
    timersKept_reset, fun _ h => ?galley, (storiesStand_iff _).2 (standsBut_of_clear rfl rfl rfl),
    pagesStand_reset, fun d => ?baskets, fun x => ?frames, editionsStand_reset,
    fun _ _ _ _ h => ?sections⟩
  case bounded => rw [terminal_reset]; decide
  case pressure => exact (by decide : Pressure.initial.load ≤ 255 ∧ Pressure.initial.baseline ≤ 65280)
  case canonical => unfold State.canonical; decide
  case galley => cases h
  case baskets => exact (by decide : Desk.initial.fits Basket.initial)
  case frames => rw [terminal_reset]; decide
  case sections => cases h

end Sys2Proof.Machine
end


section
/-! SUPPORT. The table orders LOAD DESK, LOAD ROUTE and LOAD DIVERSION (R22, R27, R28, R73). -/

namespace Sys2Proof.Machine

/-! ### LOAD DESK (R22, R73) -/

theorem inSurge_iff (s : State) (d : Nat) :
    s.inSurge d = true ↔ (s.pressure d).surge = .surge ∨ (s.pressure d).surge = .easing := by
  unfold State.inSurge
  cases (s.pressure d).surge <;> simp [SurgeState.inSurge]

/-- What a desk that comes into or goes out of use leaves of its pressure state, and the SURGE_OFF of one in
surge, told as the clearing has left it (R73, log 14). -/
theorem deskTurns_eq (s : State) (d : Nat) (was is : Bool) :
    s.deskTurns d was is =
      if was = is then s
      else if was = true ∧ ((s.pressure d).surge = .surge ∨ (s.pressure d).surge = .easing) then
        (s.putPressure d Pressure.initial).offer (.pressureEvent d false .closed 0 0)
      else s.putPressure d Pressure.initial := by
  have hevent : (s.putPressure d Pressure.initial).pressureEventOf d false .closed =
      .pressureEvent d false .closed 0 0 := by
    simp [State.pressureEventOf, Pressure.initial, roundBaseline]
  simp only [State.deskTurns, hevent, Bool.and_eq_true, inSurge_iff]

/-- The desk entry that a LOAD DESK writes, its values clamped (R21, R22). -/
def Desk.loaded (e : Desk) (x : DeskLoad) : Desk :=
  { e with
    inUse := x.inUse, name := x.name.take 8, capacity := clamp 1 128 x.capacity, duty := x.duty,
    t := clamp 1 255 x.t, m := clamp 1 4 x.m, r := clamp 0 7 x.r }

theorem takeLoadDesk_eq (s : State) (x : DeskLoad) :
    s.takeLoadDesk x =
      (s.putDesk x.desk ((s.desk x.desk).loaded x)).deskTurns x.desk (s.desk x.desk).inUse x.inUse := rfl

/-- A timing byte is at most 255, so only its lower bound clamps it. -/
theorem clamp_byte (lo : Nat) (b : Byte) : clamp lo 255 b.toNat = max lo b.toNat := by
  have := b.isLt
  exact congrArg (max lo) (Nat.min_eq_right (by omega))

theorem clamp_zero (hi n : Nat) : clamp 0 hi n = min hi n := Nat.zero_max _

/-- The checks of LOAD DESK, the duty terminal's among them when one is named (R22). -/
theorem loadDeskChecks_eq (s : State) (x : DeskLoad) :
    s.loadDeskChecks x =
      [ (decide (15 < x.desk) || x.duty.any fun t => decide (95 < t), .range),
        (x.inUse && x.name.isEmpty, .length),
        (x.inUse && decide (clamp 1 128 x.capacity < (s.basket x.desk).count), .occupied),
        (!x.inUse && (decide (0 < (s.basket x.desk).count) || s.deskHasTerminal x.desk),
          .occupied) ] := by
  unfold State.loadDeskChecks
  cases x.duty <;> rfl

theorem readOption1_any_iff (b : Byte) (p : Nat → Bool) :
    (readOption1 b).any p = true ↔ b ≠ 0xFF ∧ p b.toNat = true := by
  unfold readOption1
  split
  · rename_i hnone
    exact iff_of_false (by simp) fun h => h.1 hnone
  · rename_i hsome
    exact (and_iff_right hsome).symm

theorem exec_loadDesk_of_listening {s : State} (h : s.listening) {d u cap duty t m r n : Byte}
    {name : List Byte} (hlen : name.length = n.toNat) (x : DeskLoad)
    (hx : x = ⟨d.toNat, readFlag u, cap.toNat, readOption1 duty, t.toNat, m.toNat, r.toNat, name⟩) :
    exec (.loadDesk (d :: u :: cap :: duty :: t :: m :: r :: n :: name)) s = .next
      (s.heard.judge Kind.loadDesk none (s.heard.loadDeskChecks x) (s.heard.takeLoadDesk x)) := by
  have hn := n.isLt
  change Host.Outcome.next _ = _
  rw [takeFrame_of_listening s h _ _ (by simp only [List.length_cons]; omega)]
  simp [State.readBody, readDeskLoad, hlen, hx]

/-- Settles O28: the checks decide in their order, and a taken order writes the entry before the desk turns. -/
theorem loadDeskWritesTheEntry : Obligations.LoadDeskWritesTheEntry := by
  unfold Obligations.LoadDeskWritesTheEntry
  intro s d u cap duty t m r n name hlisten hlen k old used capacity loaded cleared
  rw [exec_loadDesk_of_listening hlisten hlen _ rfl]
  simp only [loadDeskChecks_eq, judge_cons, judge_nil, heard_refuseOrder, Bool.or_eq_true,
    Bool.and_eq_true, Bool.not_eq_true', decide_eq_true_eq, readOption1_any_iff, slug_isEmpty_iff hlen,
    takeLoadDesk_eq, deskTurns_eq, Desk.loaded, clamp_byte, clamp_zero]
  rfl

/-! ### LOAD ROUTE (R27) -/

theorem onlyChanges_heard (s : State) : s.onlyChanges frameFields s.heard := by
  intro f hf
  cases f <;> first | rfl | exact absurd (by decide) hf

/-- A route target in an order: a desk 0 to 15, SET or NONE (R27). -/
def isRouteTarget (b : Byte) : Prop := b.toNat ≤ 15 ∨ b = 0xFE ∨ b = 0xFF

theorem readRouteTarget_isNone_iff (b : Byte) :
    (readRouteTarget b).isNone = true ↔ ¬ isRouteTarget b := by
  unfold readRouteTarget isRouteTarget
  by_cases hset : b = 0xFE
  · rw [if_pos hset]; simp [hset]
  · by_cases hnone : b = 0xFF
    · rw [if_neg hset, if_pos hnone]; simp [hnone]
    · rw [if_neg hset, if_neg hnone]
      by_cases hdesk : b.toNat ≤ 15
      · rw [if_pos hdesk]; simp [hdesk]
      · rw [if_neg hdesk]
        exact iff_of_true rfl fun h => h.elim hdesk fun h => h.elim hset hnone

theorem any_isNone_iff (targets : List Byte) :
    (targets.map readRouteTarget).any Option.isNone = true ↔ ∃ x ∈ targets, ¬ isRouteTarget x := by
  simp only [List.any_map, List.any_eq_true, Function.comp_apply, readRouteTarget_isNone_iff]

/-- The target that a legal byte names. -/
theorem readRouteTarget_getD {b : Byte} (h : isRouteTarget b) :
    (readRouteTarget b).getD .none =
      if b = 0xFE then .set else if b = 0xFF then .none else .desk b.toNat := by
  unfold readRouteTarget
  split
  · rfl
  · rename_i hset
    split
    · rfl
    · rename_i hnone
      rw [if_pos (h.resolve_right fun h => h.elim hset hnone)]
      rfl

/-- The routes once a LOAD ROUTE has replaced the row of class `c` (R27). -/
def State.putRouteRow (s : State) (c : Nat) (row : List RouteTarget) : State :=
  { s with routes := Table.put routeRowInitial s.routes c row }

theorem onlyChanges_putRouteRow (s : State) (c : Nat) (row : List RouteTarget) :
    s.onlyChanges [.routes] (s.putRouteRow c row) := by
  intro f hf
  cases f <;> first | rfl | exact absurd (by decide) hf

theorem route_putRouteRow (s : State) (c : Nat) (row : List RouteTarget) (k d : Nat) :
    (s.putRouteRow c row).route k d = if k = c then row.getD d .none else s.route k d := by
  have hrow : (s.putRouteRow c row).routeRow k = if k = c then row else s.routeRow k :=
    Table.get_put _ _ _ _ _
  rw [State.route, hrow]
  split <;> rfl

theorem routeRowOf_getD {targets : List Byte} {d : Nat} (h : d < targets.length) :
    (routeRowOf (targets.map readRouteTarget)).getD d .none =
      (readRouteTarget (targets.getD d 0)).getD .none := by
  simp [routeRowOf, h]

theorem exec_loadRoute_of_listening {s : State} (h : s.listening) (c : Byte) {targets : List Byte}
    (hlen : targets.length = 16) :
    exec (.loadRoute (c :: targets)) s = .next
      (s.heard.judge Kind.loadRoute none
        [(decide (31 < c.toNat) || (targets.map readRouteTarget).any Option.isNone, .range)]
        (s.heard.putRouteRow c.toNat (routeRowOf (targets.map readRouteTarget)))) := by
  change Host.Outcome.next _ = _
  rw [takeFrame_of_listening s h _ _ (by simp only [List.length_cons]; omega)]
  simp only [State.readBody, readRouteLoad, hlen, if_true, State.putRouteRow]

/-! ### LOAD DIVERSION (R28) -/

/-- The diversions once a LOAD DIVERSION has written entry `i` (R28). -/
def State.putDiversion (s : State) (i : Nat) (e : Diversion) : State :=
  { s with diversions := Table.put Diversion.initial s.diversions i e }

theorem onlyChanges_putDiversion (s : State) (i : Nat) (e : Diversion) :
    s.onlyChanges [.diversions] (s.putDiversion i e) := by
  intro f hf
  cases f <;> first | rfl | exact absurd (by decide) hf

theorem diversion_putDiversion (s : State) (i : Nat) (e : Diversion) (j : Nat) :
    (s.putDiversion i e).diversion j = if j = i then e else s.diversion j :=
  Table.get_put _ _ _ _ _

/-- What is refused RANGE, the class's range among it when one is named (R28). -/
theorem DiversionLoad.outside_eq (x : DiversionLoad) :
    x.outside =
      (decide (7 < x.index) ||
        (x.inUse &&
          (decide (15 < x.fromDesk) || decide (15 < x.toDesk) || x.fromDesk == x.toDesk ||
            x.condition.isNone || x.cls.any fun c => decide (31 < c)))) := by
  unfold DiversionLoad.outside
  cases x.cls <;> rfl

theorem readCondition_isNone_iff (b : Byte) :
    (readCondition b).isNone = true ↔ b ≠ 0 ∧ b ≠ 1 := by
  unfold readCondition
  split
  · rename_i h0
    exact iff_of_false (by simp) fun h => h.1 h0
  · rename_i h0
    split
    · rename_i h1
      exact iff_of_false (by simp) fun h => h.2 h1
    · rename_i h1
      exact iff_of_true rfl ⟨h0, h1⟩

theorem readCondition_getD {b : Byte} (h : ¬ (b ≠ 0 ∧ b ≠ 1)) :
    (readCondition b).getD .always = if b = 0 then .always else .onSurge := by
  unfold readCondition
  by_cases h0 : b = 0
  · rw [if_pos h0, if_pos h0]; rfl
  · have h1 : b = 1 := not_not.1 fun h1 => h ⟨h0, h1⟩
    rw [if_neg h0, if_neg h0, if_pos h1]
    rfl

theorem exec_loadDiversion_of_listening {s : State} (h : s.listening) (i u f c k d : Byte)
    (x : DiversionLoad)
    (hx : x = ⟨i.toNat, readFlag u, f.toNat, readOption1 c, readCondition k, d.toNat⟩) :
    exec (.loadDiversion [i, u, f, c, k, d]) s = .next
      (s.heard.judge Kind.loadDiversion none [(x.outside, .range)]
        (s.heard.putDiversion x.index x.entry)) := by
  subst hx
  exact congrArg Host.Outcome.next (takeFrame_of_listening s h _ _ (by simp) _)

/-- Settles O29: a legal row or entry is written by one write to its table. -/
theorem loadRouteAndDiversionWriteTheirTables :
    Obligations.LoadRouteAndDiversionWriteTheirTables := by
  unfold Obligations.LoadRouteAndDiversionWriteTheirTables
  intro s hlisten
  constructor
  · intro c targets hlen legal
    have hlegal : (targets.map readRouteTarget).any Option.isNone = true ↔
        ∃ x ∈ targets, ¬ legal x := any_isNone_iff targets
    rw [exec_loadRoute_of_listening hlisten c hlen]
    simp only [judge_cons, judge_nil, heard_refuseOrder, Bool.or_eq_true, decide_eq_true_eq, hlegal]
    refine ⟨fun hout => by rw [if_pos hout], fun hc htargets => ?_⟩
    have hin : ¬ (31 < c.toNat ∨ ∃ x ∈ targets, ¬ legal x) :=
      not_or.2 ⟨Nat.not_lt.2 hc, fun ⟨x, hx, hill⟩ => hill (htargets x hx)⟩
    refine ⟨_, congrArg _ (if_neg hin), fun j n hn => ?_, ?_⟩
    · have hmem : isRouteTarget (targets.getD n 0) := by
        rw [List.getD_eq_getElem _ _ (hlen ▸ hn)]
        exact htargets _ (List.getElem_mem _)
      rw [route_putRouteRow, routeRowOf_getD (hlen ▸ hn), readRouteTarget_getD hmem]
      rfl
    · exact ((onlyChanges_heard s).mono (by decide)).trans
        ((onlyChanges_putRouteRow _ _ _).mono (by decide))
  · intro i u f c k d outside
    have houtside : (DiversionLoad.mk i.toNat (readFlag u) f.toNat (readOption1 c) (readCondition k)
        d.toNat).outside = true ↔ outside := by
      simp only [DiversionLoad.outside_eq, readFlag, Bool.or_eq_true, Bool.and_eq_true,
        decide_eq_true_eq, bne_iff_ne, beq_iff_eq, BitVec.toNat_inj, readCondition_isNone_iff,
        readOption1_any_iff, or_assoc]
      rfl
    rw [exec_loadDiversion_of_listening hlisten i u f c k d _ rfl]
    simp only [judge_cons, judge_nil, heard_refuseOrder, houtside]
    refine ⟨fun hout => by rw [if_pos hout], fun hin => ⟨_, congrArg _ (if_neg hin), fun j => ?_, ?_⟩⟩
    · rw [diversion_putDiversion, DiversionLoad.entry]
      by_cases hu : u = 0
      · simp [readFlag, hu]
        rfl
      · have hcond : ¬ (k ≠ 0 ∧ k ≠ 1) := fun hk => hin (.inr ⟨hu, .inr (.inr (.inr (.inl hk)))⟩)
        simp only [readFlag, bne_iff_ne, ne_eq, hu, not_false_eq_true, if_true, if_false,
          readCondition_getD hcond]
        rfl
    · exact ((onlyChanges_heard s).mono (by decide)).trans
        ((onlyChanges_putDiversion _ _ _).mono (by decide))

end Sys2Proof.Machine
end


section
/-! SUPPORT. What every request shares (R29, R30, R87, R88): it is judged in the state its answer's liveness
update leaves, by a chain of checks, and the line turn follows. -/

namespace Sys2Proof.Machine

/-! ### The state in which a request is judged (R87, R89, R91) -/

theorem onlyChanges_answered (s : State) (l : LineId) (drop : Nat) :
    s.onlyChanges tellFields (s.answered l drop) :=
  onlyChanges_answerLiveness s _

section
variable (s : State) (l : LineId) (drop : Nat)

@[simp] theorem part_answered : (s.answered l drop).part = s.part :=
  (onlyChanges_answered s l drop .part (by decide)).symm

@[simp] theorem storeLost_answered : (s.answered l drop).storeLost = s.storeLost :=
  (onlyChanges_answered s l drop .storeLost (by decide)).symm

@[simp] theorem now_answered : (s.answered l drop).now = s.now :=
  (onlyChanges_answered s l drop .now (by decide)).symm

@[simp] theorem storyAt_answered (n : Nat) : (s.answered l drop).story? n = s.story? n :=
  congrArg (Table.get none · n) (onlyChanges_answered s l drop .stories (by decide)).symm

@[simp] theorem story_answered (n : Nat) : (s.answered l drop).story n = s.story n :=
  congrArg (·.getD Story.blank) (storyAt_answered s l drop n)

@[simp] theorem desk_answered (d : Nat) : (s.answered l drop).desk d = s.desk d :=
  congrArg (Table.get Desk.initial · d) (onlyChanges_answered s l drop .desks (by decide)).symm

@[simp] theorem basket_answered (d : Nat) : (s.answered l drop).basket d = s.basket d :=
  congrArg (Table.get Basket.initial · d) (onlyChanges_answered s l drop .baskets (by decide)).symm

@[simp] theorem pressure_answered (d : Nat) : (s.answered l drop).pressure d = s.pressure d :=
  congrArg (Table.get Pressure.initial · d)
    (onlyChanges_answered s l drop .pressures (by decide)).symm

@[simp] theorem route_answered (c d : Nat) : (s.answered l drop).route c d = s.route c d :=
  congrArg (fun tab => (Table.get routeRowInitial tab c).getD d RouteTarget.none)
    (onlyChanges_answered s l drop .routes (by decide)).symm

@[simp] theorem diversion_answered (i : Nat) : (s.answered l drop).diversion i = s.diversion i :=
  congrArg (Table.get Diversion.initial · i)
    (onlyChanges_answered s l drop .diversions (by decide)).symm

@[simp] theorem page_answered (r : Nat) : (s.answered l drop).page r = s.page r :=
  congrArg (fun tab => (Table.get none tab r).getD Page.blank)
    (onlyChanges_answered s l drop .pages (by decide)).symm

end

/-! ### Liveness after an answer (R89) -/

theorem liveness_wantRefresh (s : State) (t : Nat) (r : RefreshReason) :
    ((s.wantRefresh t r).terminal t).liveness = (s.terminal t).liveness := by
  unfold State.wantRefresh
  dsimp only
  split
  · rfl
  · split
    · rw [terminal_offer]
    · rw [State.terminal_putTerminal, if_pos rfl]

theorem liveness_reofferRefresh (s : State) (t : Nat) :
    ((s.reofferRefresh t).terminal t).liveness = (s.terminal t).liveness := by
  unfold State.reofferRefresh
  split
  · rfl
  · split
    · rw [State.terminal_putTerminal, if_pos rfl]
    · rfl

theorem liveness_attended (r : Terminal) (b : AttentionBody) :
    (r.attended b).liveness = r.liveness := by
  unfold Terminal.attended
  split <;> rfl

theorem liveness_reconnect (s : State) (t : Nat) :
    ((s.reconnect t).terminal t).liveness = (s.terminal t).liveness := by
  unfold State.reconnect
  dsimp only
  split
  · rw [State.terminal_putTerminal, if_pos rfl, terminal_attend, if_pos rfl, liveness_attended,
      terminal_offer]
  · rfl

theorem live_goLive (s : State) (t : Nat) : ((s.goLive t).terminal t).liveness = .live := by
  rw [State.goLive, liveness_reconnect, liveness_wantRefresh, State.terminal_putTerminal, if_pos rfl]

/-- An answer leaves a terminal LIVE that it finds LIVE or FAINT, or WAKING at its wake count (R89). -/
theorem live_answerLiveness {s : State} {t : Nat} (h : s.wakes t) :
    ((s.answerLiveness t).terminal t).liveness = .live := by
  unfold State.answerLiveness
  rcases h with hlive | hfaint | ⟨hwaking, hcount⟩
  · simp only [hlive]
    rw [liveness_reofferRefresh, State.terminal_putTerminal, if_pos rfl]
  · simp [hfaint]
  · simp only [hwaking, State.countAnswer, hcount, if_true]
    exact live_goLive _ t

theorem applyAnswer_of_wakes {s : State} {t : Nat} (h : s.wakes t) (content : State → State) :
    s.applyAnswer t content = content (s.answerLiveness t) := by
  have hbefore : (s.terminal t).liveness ≠ .absent ∧ (s.terminal t).liveness ≠ .dark := by
    rcases h with h | h | ⟨h, -⟩ <;> simp [h]
  exact if_pos ⟨hbefore.1, hbefore.2, live_answerLiveness h⟩

/-- A request that is heard is judged in the state the liveness update leaves, and the line turns (R85,
R87, R88). -/
theorem takeRequest_of_hears {α : Type} {s : State} {l : LineId} {drop : Nat}
    (h : s.hears l drop) {q : RequestKind} {args : List Byte} (hfits : args.length < 80)
    {read : List Byte → Option α} {x : α} (hread : read args = some x)
    (judge : State → Nat → α → State) :
    s.takeRequest l drop q args read judge =
      (judge (s.answered l drop) (terminalOf l drop) x).lineTurn l := by
  obtain ⟨⟨due, f, hactivity⟩, hwakes⟩ := h
  have hsize : ¬ 80 < args.length + 1 := by omega
  simp only [State.takeRequest, State.takeAnswer, hactivity, Config.answerLimit, hsize, if_false,
    if_true, applyAnswer_of_wakes hwakes, hread]
  rfl

/-! ### The checks of a request (R29, R30) -/

section
variable (s : State) (t : Nat) (q : RequestKind) (known full : Option Nat) (taken : State)

@[simp] theorem judgeRequest_nil : s.judgeRequest t q known full [] taken = taken := rfl

/-- The first check of a list decides, or the rest of the list does. -/
theorem judgeRequest_cons (fails : Bool) (code : Code) (rest : List (Bool × Code)) :
    s.judgeRequest t q known full ((fails, code) :: rest) taken =
      if fails = true then s.refuseRequest t q code known (if code = .full then full else none)
      else s.judgeRequest t q known full rest taken := by
  cases fails <;> rfl

theorem requestChecks_eq (named : Option Nat) (needs : Bool) :
    s.requestChecks t named needs =
      [ (s.part == .loading, .notReady), (needs && s.storeLost, .storeLost),
        (storyOutside named, .range), ((s.subject t named).all s.isFree, .noStory) ] := by
  unfold State.requestChecks storyOutside
  cases s.subject t named <;> rfl

theorem subject_free_iff (named : Option Nat) :
    (s.subject t named).all s.isFree = true ↔
      s.subject t named = none ∨ s.story? (s.subjectOf t named) = none := by
  unfold State.subjectOf
  cases s.subject t named <;> simp

/-- The checks that every copy request but GET NEXT begins with, while the part is RUNNING and has the store
processor the request needs. -/
theorem judgeRequest_requestChecks {s : State} (hrun : s.part = .running) (named : Option Nat)
    {needs : Bool} (hstore : needs = true → s.storeLost = false) (rest : List (Bool × Code)) :
    s.judgeRequest t q known full (s.requestChecks t named needs ++ rest) taken =
      if storyOutside named = true then s.refuseRequest t q .range known none
      else if s.subject t named = none ∨ s.story? (s.subjectOf t named) = none then
        s.refuseRequest t q .noStory known none
      else s.judgeRequest t q known full rest taken := by
  have hlost : (needs && s.storeLost) = false := by
    cases needs with
    | false => rfl
    | true => exact hstore rfl
  have hloading : (s.part == .loading) = false := by rw [hrun]; rfl
  simp only [requestChecks_eq, List.cons_append, List.nil_append, judgeRequest_cons, hloading, hlost,
    Bool.false_eq_true, if_false, subject_free_iff, reduceCtorEq]

end

theorem bare_iff (hi lo : Byte) : (hi == 0xFF && lo == 0xFF) = true ↔ hi = 0xFF ∧ lo = 0xFF := by
  rw [Bool.and_eq_true, beq_iff_eq, beq_iff_eq]

/-- The story number a request carries, or none (R193, R200). -/
theorem readOption2_eq (hi lo : Byte) :
    readOption2 hi lo =
      if (hi == 0xFF && lo == 0xFF) = true then none else some (hi.toNat * 256 + lo.toNat) :=
  if_congr (bare_iff hi lo).symm rfl rfl

theorem storyOutside_readOption2 (hi lo : Byte) :
    storyOutside (readOption2 hi lo) = true ↔
      (hi == 0xFF && lo == 0xFF) = false ∧ 1023 < hi.toNat * 256 + lo.toNat := by
  rw [readOption2_eq]
  cases hi == 0xFF && lo == 0xFF <;> simp [storyOutside]

theorem subject_readOption2 (s : State) (t : Nat) (hi lo : Byte) :
    s.subject t (readOption2 hi lo) =
      if (hi == 0xFF && lo == 0xFF) = true then (s.terminal t).views.head?
      else some (hi.toNat * 256 + lo.toNat) := by
  rw [readOption2_eq]
  split <;> rfl

/-- The story a refusal names, when the number the request acts on is a story number (R30, log 12). -/
theorem knownStory_eq (s : State) (t : Nat) (named : Option Nat) :
    s.knownStory t named =
      if (s.subject t named).isSome = true ∧ (s.subject t named).getD 0 ≤ 1023 then
        some ((s.subject t named).getD 0)
      else none := by
  unfold State.knownStory
  cases s.subject t named with
  | none => rfl
  | some n => simp [Option.filter]

end Sys2Proof.Machine
end


section
/-! SUPPORT. GET and GET NEXT (R32 to R34): the story is written once, and so is the record of the terminal that
takes it. -/

namespace Sys2Proof.Machine

/-! ### Writing a terminal's record twice -/

theorem Table.filter_insert {α : Type} (k : Nat) (v : α) (tab : Table α) :
    (Table.insert k v tab).filter (fun e => !(e.1 == k)) = tab.filter (fun e => !(e.1 == k)) := by
  induction tab with
  | nil => simp [Table.insert]
  | cons e rest ih =>
    obtain ⟨j, w⟩ := e
    by_cases hkj : k = j
    · simp [Table.insert, hkj]
    · by_cases hlt : k < j <;> simp [Table.insert, hkj, hlt, List.filter_cons, ih]

/-- A record that is written over leaves no trace, unless it was the reset value, which is not listed. -/
theorem putTerminal_putTerminal (s : State) (t : Nat) {r : Terminal} (q : Terminal)
    (h : r ≠ Terminal.initial) : (s.putTerminal t r).putTerminal t q = s.putTerminal t q := by
  have hput : Table.put Terminal.initial (Table.put Terminal.initial s.terminals t r) t q =
      Table.put Terminal.initial s.terminals t q := by
    unfold Table.put
    rw [if_neg h, Table.filter_insert, Table.insert_insert]
  simp [State.putTerminal, hput]

theorem noticeFree_eq_zero_iff (s : State) : s.noticeFree = 0 ↔ 64 ≤ s.queue.length := by
  simp only [State.noticeFree, Config.noticeEntries]
  omega

theorem nudgeLeave_of_live {s : State} {n : Nat} {st : Story} (h : s.story? n = some st) :
    s.nudgeLeave n = s.putStory n (some { st with nudgeDue := none }) := by
  rw [State.nudgeLeave, modStory_of_live h]

/-! ### Checking a story out (R34) -/

/-- A terminal's record once it has taken story `n` (R34, R113). -/
def Terminal.taking (r : Terminal) (n : Nat) : Terminal :=
  { r with
    holds := r.holds ++ [n],
    views := if r.views.head? = some n then r.views else n :: r.views.take 7 }

theorem holdStory_of_live {s : State} {n : Nat} {st : Story} (h : s.story? n = some st) (t : Nat)
    (q : RequestKind) :
    s.holdStory t n q =
      (((s.putStory n (some
        { st with state := .held, holder := some t, nudgeDue := none })).putTerminal t
          ((s.terminal t).taking n)).offer (.textWanted t n st.revision q)).tellChange .held n
            (.terminal t) := by
  have hwritten : (s.modStory n fun st => { st with state := .held, holder := some t }).nudgeLeave n =
      s.putStory n (some { st with state := .held, holder := some t, nudgeDue := none }) := by
    rw [modStory_of_live h, nudgeLeave_of_live (storyAt_putStory_self _ _ _), putStory_putStory]
  have htaken : ∀ u : State, (u.addHold t n).pushView t n =
      u.putTerminal t ((u.terminal t).taking n) := by
    intro u
    have hlisted : { u.terminal t with holds := (u.terminal t).holds ++ [n] } ≠ Terminal.initial := by
      intro heq
      exact absurd (congrArg Terminal.holds heq) (by simp [Terminal.initial])
    rw [State.addHold, State.pushView, putTerminal_putTerminal _ _ _ hlisted,
      State.terminal_putTerminal, if_pos rfl]
    rfl
  rw [State.holdStory, hwritten, htaken]
  simp [State.textWanted, State.story]

/-! ### GET (R32) -/

section
variable {s u : State} {l : LineId} {drop t : Nat} (h : s.hears l drop)
  (hu : u = s.answered l drop) (ht : t = terminalOf l drop)
include h hu ht

theorem exec_get_of_hears (hi lo : Byte) :
    exec (.get l drop [hi, lo]) s = .next
      ((u.judgeRequest t .get (u.knownStory t (readOption2 hi lo)) none
        (u.getChecks t (readOption2 hi lo))
        (u.holdStory t (u.subjectOf t (readOption2 hi lo)) .get)).lineTurn l) := by
  subst hu ht
  change Host.Outcome.next (s.takeRequest l drop .get [hi, lo] readStoryArg _) = _
  rw [takeRequest_of_hears (x := readOption2 hi lo) h (by simp) rfl]

theorem exec_getNext_of_hears :
    exec (.getNext l drop []) s = .next
      ((u.judgeRequest t .getNext (u.getNextKnown t) none (u.getNextChecks t)
        (u.holdStory t ((u.nextUnheld t).getD 0) .getNext)).lineTurn l) := by
  subst hu ht
  change Host.Outcome.next (s.takeRequest l drop .getNext [] readNoArgs _) = _
  rw [takeRequest_of_hears (x := ()) h (by simp) rfl]

end

/-- A GET NEXT is refused before the choice of a story, for want of one, or for want of a free entry with the
story it has chosen known (R33, log 12). -/
theorem judgeRequest_getNext {u : State} (hrun : u.part = .running) (hstore : u.storeLost = false)
    (t : Nat) (taken : State) :
    u.judgeRequest t .getNext (u.getNextKnown t) none (u.getNextChecks t) taken =
      if 4 ≤ (u.terminal t).holds.length then u.refuseRequest t .getNext .limit none none
      else if u.nextUnheld t = none then u.refuseRequest t .getNext .noStory none none
      else if 64 ≤ u.queue.length then u.refuseRequest t .getNext .busy (u.nextUnheld t) none
      else taken := by
  have hloading : (u.part == .loading) = false := by rw [hrun]; rfl
  have hchecks : firstRefusal (u.getNextChecks t) =
      if 4 ≤ (u.terminal t).holds.length then some .limit
      else if u.nextUnheld t = none then some .noStory
      else if 64 ≤ u.queue.length then some .busy
      else none := by
    simp only [State.getNextChecks, firstRefusal, hloading, hstore, Bool.false_eq_true, if_false,
      decide_eq_true_eq, Option.isNone_iff_eq_none, beq_iff_eq, noticeFree_eq_zero_iff]
  unfold State.judgeRequest State.getNextKnown
  by_cases hlimit : 4 ≤ (u.terminal t).holds.length
  · rw [hchecks, if_pos hlimit, if_pos hlimit]
    rfl
  · rw [if_neg hlimit] at hchecks ⊢
    by_cases hnone : u.nextUnheld t = none
    · rw [hchecks, if_pos hnone, if_pos hnone]
      rfl
    · rw [if_neg hnone] at hchecks ⊢
      by_cases hbusy : 64 ≤ u.queue.length
      · rw [hchecks, if_pos hbusy, if_pos hbusy]
        rfl
      · rw [hchecks, if_neg hbusy, if_neg hbusy]

/-- Settles O34: the checks decide in their order in the state the liveness update leaves, and a taken story
is checked out by `holdStory_of_live`. -/
theorem getChecksTheStoryOut : Obligations.GetChecksTheStoryOut := by
  unfold Obligations.GetChecksTheStoryOut
  intro s l drop hi lo hears hservice t u me num bare subject n st refuse get take next
  obtain ⟨hrun, hstore⟩ := hservice
  have hrunning : u.part = .running := (part_answered s l drop).trans hrun
  have hpresent : u.storeLost = false := (storeLost_answered s l drop).trans hstore
  have hat : ∀ m, u.story? m = s.story? m := storyAt_answered s l drop
  have hstory : ∀ m, u.story m = s.story m := story_answered s l drop
  have htaken : ∀ q m, s.story? m ≠ none → u.holdStory t m q = take q m := by
    intro q m hlive
    rw [holdStory_of_live ((hat m).trans (live_of_not_free hlive))]
    rfl
  constructor
  · have hsubject : u.subject t (readOption2 hi lo) = subject := subject_readOption2 u t hi lo
    rw [exec_get_of_hears (u := u) (t := t) hears rfl rfl]
    refine congrArg (fun v => Host.Outcome.next (State.lineTurn v l)) ?_
    unfold State.getChecks
    dsimp only
    rw [judgeRequest_requestChecks _ _ _ _ _ hrunning _ fun _ => hpresent]
    simp only [judgeRequest_cons, judgeRequest_nil, storyOutside_readOption2, knownStory_eq, hsubject,
      State.subjectOf, hat, hstory, Bool.or_eq_true, Bool.and_eq_true, Bool.not_eq_true', beq_iff_eq,
      beq_eq_false_iff_ne, decide_eq_true_eq, noticeFree_eq_zero_iff]
    refine ite_congr rfl (fun _ => rfl) fun _ => ite_congr rfl (fun _ => rfl) fun hlive => ?_
    rw [htaken .get _ (not_or.1 hlive).2]
    rfl
  · intro hbasket
    have hbaskets : ∀ d, u.basket d = s.basket d := basket_answered s l drop
    have hnext : u.nextUnheld t = next := by
      simp only [State.nextUnheld, hstory, hbaskets]
      rfl
    rw [exec_getNext_of_hears (u := u) (t := t) hears rfl rfl,
      judgeRequest_getNext hrunning hpresent, hnext]
    refine congrArg (fun v => Host.Outcome.next (State.lineTurn v l)) ?_
    refine ite_congr rfl (fun _ => rfl) fun _ => ite_congr rfl (fun _ => rfl) fun hsome => ?_
    obtain ⟨m, hm⟩ := Option.ne_none_iff_exists'.1 hsome
    rw [hm, htaken .getNext ((some m).getD 0) (hbasket m (List.mem_of_find?_eq_some hm))]
    rfl

end Sys2Proof.Machine
end


section
/-! SUPPORT. RETURN, SPIKE and PULL requests (R41 to R43): each writes its story's record once, and says DONE with
the story's desk and revision as they then stand. -/

namespace Sys2Proof.Machine

/-! ### What a change of a live story leaves -/

theorem done_of_live {s : State} {n : Nat} {st : Story} (h : s.story? n = some st) (t : Nat)
    (q : RequestKind) (mark : Bool) :
    s.done t q n mark = s.attend t (.done q n st.desk st.revision mark) := by
  rw [State.done, story_of_live h]

/-- DONE is said of a story that has just been written, and has left the terminal's hold list. -/
theorem done_of_written (s : State) (n : Nat) (st : Story) (t : Nat) (q : RequestKind)
    (mark : Bool) :
    ((s.putStory n (some st)).dropHold t n).done t q n mark =
      ((s.putStory n (some st)).dropHold t n).attend t (.done q n st.desk st.revision mark) :=
  done_of_live (s := (s.putStory n (some st)).dropHold t n) (storyAt_putStory_self s n (some st)) t q
    mark

/-- A story released in place is scheduled at its kept count, unless it is overdue (R46, R48). -/
theorem releaseInPlace_of_live {s : State} {n : Nat} {st : Story} (h : s.story? n = some st)
    (hrun : s.part = .running) :
    s.releaseInPlace n = s.putStory n (some
      { st with
        state := .filed, holder := none,
        nudgeDue :=
          if st.overdue then none
          else some (s.now + 1000 *
            min ((s.desk st.desk).t * (s.desk st.desk).m ^ st.nudgeCount) 3600) }) := by
  rw [State.releaseInPlace, modStory_of_live h, State.nudgeRelease,
    modStory_of_live (storyAt_putStory_self _ _ _), putStory_putStory]
  cases st.overdue <;>
    simp [hrun, State.nudgeDueFor, State.after, nudgeInterval, Nat.mul_comm 1000]

theorem arrivalDue_of_running {s : State} (hrun : s.part = .running) (d : Nat) :
    s.arrivalDue d = some (s.now + 1000 * min (s.desk d).t 3600) := if_pos hrun

/-- The work of the page unit and the typesetter unit rewrites no story's desk or revision. -/
theorem State.pageWork.story {s u : State} (h : s.pageWork u) {n : Nat} {st : Story}
    (hst : s.story? n = some st) :
    ∃ st', u.story? n = some st' ∧ st'.desk = st.desk ∧ st'.revision = st.revision := by
  induction h with
  | refl => exact ⟨st, hst, rfl, rfl⟩
  | @tail v _ _ hlast ih =>
    obtain ⟨st', hst', hdesk, hrevision⟩ := ih
    cases hlast with
    | page | edition | typesetter | ready => exact ⟨st', hst', hdesk, hrevision⟩
    | lift m =>
      by_cases hm : n = m
      · subst hm
        exact ⟨{ st' with page := none }, by rw [storyAt_modStory_self, hst']; rfl, hdesk, hrevision⟩
      · refine ⟨st', ?_, hdesk, hrevision⟩
        unfold State.modStory
        split <;> simp [hm, hst']
    | offer c hc =>
      have hkept := onlyChanges_offer v c .stories (by decide)
      exact ⟨st', by rw [State.story?, ← hkept]; exact hst', hdesk, hrevision⟩
    | attend x b =>
      have hkept := onlyChanges_attend v x b .stories (by decide)
      exact ⟨st', by rw [State.story?, ← hkept]; exact hst', hdesk, hrevision⟩

/-! ### RETURN, SPIKE and PULL as taken (R41 to R43) -/

section
variable {s : State} {n : Nat} {st : Story} (h : s.story? n = some st) (t : Nat)
include h

theorem takeReturn_of_live (hrun : s.part = .running) :
    s.takeReturn t n =
      (((s.putStory n (some
        { st with
          state := .filed, holder := none,
          nudgeDue :=
            if st.overdue then none
            else some (s.now + 1000 *
              min ((s.desk st.desk).t * (s.desk st.desk).m ^ st.nudgeCount) 3600) })).dropHold t
        n).attend t (.done .returnStory n st.desk st.revision false)).tellChange .released n
          (.terminal t) := by
  rw [State.takeReturn, releaseInPlace_of_live h hrun, done_of_written]

theorem takeSpike_of_live :
    s.takeSpike t n =
      (((((s.leaveBasket st.desk n).putStory n (some
        { st with state := .spiked, holder := none, nudgeDue := none })).dropHold t n).attend t
          (.done .spike n st.desk st.revision false)).tellChange .spiked n (.terminal t)) := by
  have hleft : (s.leaveBasket st.desk n).story? n = some st := h
  rw [State.takeSpike, story_of_live h, modStory_of_live hleft,
    nudgeLeave_of_live (storyAt_putStory_self _ _ _), putStory_putStory]
  exact congrArg (State.tellChange · .spiked n (.terminal t)) (done_of_written _ _ _ _ _ _)

/-- A PULL is told, its page is told and the start test is made before DONE, which carries the new desk and
the kept revision (R43, log 14). -/
theorem takePullRequest_of_live (flash : Bool) :
    s.takePullRequest t n flash =
      ((((((s.joinBasket (s.terminal t).desk n flash).putStory n (some
        (st.arrived (s.terminal t).desk flash (s.arrivalDue (s.terminal t).desk)))).tellChange .moved n
          (.terminal t)).storyPulled n).startTest).attend t
            (.done .pull n (s.terminal t).desk st.revision false)) := by
  have hwork := ((pageWork_startTest _).after ((pageWork_storyPulled _ n).after (pageWork_tellChange
    ((s.joinBasket (s.terminal t).desk n flash).putStory n (some
      (st.arrived (s.terminal t).desk flash (s.arrivalDue (s.terminal t).desk))))
        .moved n (.terminal t)))).story (storyAt_putStory_self _ _ _)
  obtain ⟨st', hst', hdesk, hrevision⟩ := hwork
  rw [State.takePullRequest, takePull_of_live h, done_of_live hst', hdesk, hrevision]
  rfl

end

/-! ### Judging a request that names a story or none (R29) -/

theorem knownStory_readOption2 (s : State) (t : Nat) (hi lo : Byte) :
    s.knownStory t (readOption2 hi lo) =
      let subject := if (hi == 0xFF && lo == 0xFF) = true then (s.terminal t).views.head?
        else some (hi.toNat * 256 + lo.toNat)
      if subject.isSome = true ∧ subject.getD 0 ≤ 1023 then some (subject.getD 0) else none := by
  rw [knownStory_eq, subject_readOption2]

/-- What a request answers whose checks begin as every copy request's but GET NEXT's do. -/
theorem answer_of_requestChecks {a : Answer} {u : State} {l : LineId} {t : Nat} {q : RequestKind}
    {known full : Option Nat} {hi lo : Byte} {rest : List (Bool × Code)} {taken : State}
    (hrun : u.part = .running)
    (ha : a = .next ((u.judgeRequest t q known full
      (u.requestChecks t (readOption2 hi lo) false ++ rest) taken).lineTurn l)) :
    let bare := hi == 0xFF && lo == 0xFF
    let num := hi.toNat * 256 + lo.toNat
    let subject := if bare then (u.terminal t).views.head? else some num
    (bare = false ∧ 1023 < num → a = .next ((u.refuseRequest t q .range known none).lineTurn l)) ∧
    (¬ (bare = false ∧ 1023 < num) → subject = none ∨ u.story? (subject.getD 0) = none →
      a = .next ((u.refuseRequest t q .noStory known none).lineTurn l)) ∧
    (¬ (bare = false ∧ 1023 < num) → ¬ (subject = none ∨ u.story? (subject.getD 0) = none) →
      a = .next ((u.judgeRequest t q known full rest taken).lineTurn l)) := by
  intro bare num subject
  have hsubject : u.subject t (readOption2 hi lo) = subject := subject_readOption2 u t hi lo
  rw [judgeRequest_requestChecks _ _ _ _ _ hrun _ (by nofun), State.subjectOf, hsubject] at ha
  simp only [storyOutside_readOption2] at ha
  refine ⟨fun hout => ?_, fun hin hfree => ?_, fun hin hlive => ?_⟩
  · rw [ha, if_pos hout]
  · rw [ha, if_neg hin, if_pos hfree]
  · rw [ha, if_neg hin, if_neg hlive]

section
variable {s u : State} {l : LineId} {drop t : Nat} (h : s.hears l drop)
  (hu : u = s.answered l drop) (ht : t = terminalOf l drop) (hi lo : Byte)
include h hu ht

theorem exec_return_of_hears :
    exec (.returnStory l drop [hi, lo]) s = .next
      ((u.judgeRequest t .returnStory (u.knownStory t (readOption2 hi lo)) none
        (u.returnChecks t (readOption2 hi lo))
        (u.takeReturn t (u.subjectOf t (readOption2 hi lo)))).lineTurn l) := by
  subst hu ht
  change Host.Outcome.next (s.takeRequest l drop .returnStory [hi, lo] readStoryArg _) = _
  rw [takeRequest_of_hears (x := readOption2 hi lo) h (by simp) rfl]

theorem exec_spike_of_hears :
    exec (.spike l drop [hi, lo]) s = .next
      ((u.judgeRequest t .spike (u.knownStory t (readOption2 hi lo)) none
        (u.spikeChecks t (readOption2 hi lo))
        (u.takeSpike t (u.subjectOf t (readOption2 hi lo)))).lineTurn l) := by
  subst hu ht
  change Host.Outcome.next (s.takeRequest l drop .spike [hi, lo] readStoryArg _) = _
  rw [takeRequest_of_hears (x := readOption2 hi lo) h (by simp) rfl]

theorem exec_pullRequest_of_hears (f : Byte) :
    exec (.pullRequest l drop [hi, lo, f]) s = .next
      ((u.judgeRequest t .pull (u.knownStory t (readOption2 hi lo)) (some (u.terminal t).desk)
        (u.pullRequestChecks t (readOption2 hi lo))
        (u.takePullRequest t (u.subjectOf t (readOption2 hi lo)) (readFlag f))).lineTurn l) := by
  subst hu ht
  change Host.Outcome.next (s.takeRequest l drop .pull [hi, lo, f] readPullArgs _) = _
  rw [takeRequest_of_hears (x := (readOption2 hi lo, readFlag f)) h (by simp) rfl]

end

theorem filedAtOwnDesk_iff (s : State) (n t : Nat) :
    s.filedAtOwnDesk n t = true ↔
      (s.story n).state = .filed ∧ (s.story n).desk = (s.terminal t).desk := by
  simp [State.filedAtOwnDesk]

theorem lineTurn_ite (p : Prop) [Decidable p] (a b : State) (l : LineId) :
    (if p then a else b).lineTurn l = if p then a.lineTurn l else b.lineTurn l :=
  apply_ite (State.lineTurn · l) p a b

/-- Settles O36: past the checks all three share, each request's own checks decide in their order. -/
theorem returnSpikeAndPullEndAStory : Obligations.ReturnSpikeAndPullEndAStory := by
  unfold Obligations.ReturnSpikeAndPullEndAStory
  intro s l drop hi lo f hears hrun t u me num bare subject n st mine there dropped refuse returned
    spiked pulled
  have hrunning : u.part = .running := (part_answered s l drop).trans hrun
  have hat : ∀ m, u.story? m = s.story? m := storyAt_answered s l drop
  have hknown := knownStory_readOption2 u t hi lo
  have hreturn := exec_return_of_hears (u := u) (t := t) hears rfl rfl hi lo
  have hspike := exec_spike_of_hears (u := u) (t := t) hears rfl rfl hi lo
  have hpull := exec_pullRequest_of_hears (u := u) (t := t) hears rfl rfl hi lo f
  obtain ⟨hreturnRange, hreturnFree, hreturnLive⟩ := answer_of_requestChecks hrunning hreturn
  obtain ⟨hspikeRange, hspikeFree, hspikeLive⟩ := answer_of_requestChecks hrunning hspike
  obtain ⟨hpullRange, hpullFree, hpullLive⟩ := answer_of_requestChecks hrunning hpull
  have hinside : bare = true ∨ num ≤ 1023 → ¬ (bare = false ∧ 1023 < num) := by
    rintro (hbare | hnum) ⟨hnamed, hout⟩
    · rw [hbare] at hnamed; cases hnamed
    · exact Nat.not_lt.2 hnum hout
  refine ⟨fun hnamed hout => ?range, fun hin hfree => ?free, fun hin hsome hlive => ?live⟩
  case range =>
    rw [hknown] at hreturnRange hspikeRange hpullRange
    exact ⟨hreturnRange ⟨hnamed, hout⟩, hspikeRange ⟨hnamed, hout⟩, hpullRange ⟨hnamed, hout⟩⟩
  case free =>
    rw [hknown] at hreturnFree hspikeFree hpullFree
    have hfree := hfree.imp_right (hat n).trans
    exact ⟨hreturnFree (hinside hin) hfree, hspikeFree (hinside hin) hfree,
      hpullFree (hinside hin) hfree⟩
  case live =>
    have hst : u.story? n = some st := (hat n).trans hlive
    have hstory : u.story n = st := story_of_live hst
    have hnow : u.now = s.now := now_answered s l drop
    have hdesk : ∀ d, u.desk d = s.desk d := desk_answered s l drop
    have hbasket : ∀ d, u.basket d = s.basket d := basket_answered s l drop
    have hpage : ∀ r, u.page r = s.page r := page_answered s l drop
    have hnone : ¬ (subject = none ∨ u.story? n = none) := by
      rw [not_or, hst]
      exact ⟨Option.isSome_iff_ne_none.1 hsome, Option.some_ne_none st⟩
    have hreturnLive := hreturnLive (hinside hin) hnone
    have hspikeLive := hspikeLive (hinside hin) hnone
    have hpullLive := hpullLive (hinside hin) hnone
    have hsubject : u.subjectOf t (readOption2 hi lo) = n :=
      congrArg (·.getD 0) (subject_readOption2 u t hi lo)
    rw [hsubject, takeReturn_of_live hst t hrunning] at hreturnLive
    rw [hsubject, takeSpike_of_live hst t] at hspikeLive
    rw [hsubject, takePullRequest_of_live hst t] at hpullLive
    simp only [judgeRequest_cons, judgeRequest_nil, Bool.not_eq_true', ← Bool.not_eq_true,
      Bool.and_eq_true, heldBy_iff, filedAtOwnDesk_iff, onSendingPage_iff, basketFull_iff,
      beq_iff_eq, hstory, lineTurn_ite, arrivalDue_of_running hrunning, hdesk, hbasket, hpage, hnow,
      reduceCtorEq, if_true, if_false] at hreturnLive hspikeLive hpullLive
    simp only [Bool.not_eq_true] at hpullLive
    rw [hknown] at hreturnLive hspikeLive hpullLive
    have hexclusive : mine → ¬ there := fun hmine hthere =>
      absurd (hmine.1.symm.trans hthere.1) (by decide)
    refine ⟨hreturnLive, fun hplaced => ?_, fun hplace => ?_, hpullLive⟩
    · rw [if_pos hplaced] at hspikeLive
      exact hspikeLive
    rw [if_neg (by simp [hplace])] at hspikeLive
    refine ⟨fun hmine hrole => ?_, fun hthere hrole => ?_, fun hmine hthere => ?_, ?_⟩
    · rw [if_pos ⟨hmine, hrole⟩] at hspikeLive
      exact hspikeLive
    · rw [if_neg fun h => hexclusive h.1 hthere, if_pos ⟨hthere, hrole⟩] at hspikeLive
      exact hspikeLive
    · rw [if_neg fun h => hmine h.1, if_neg fun h => hthere h.1, if_pos ⟨hmine, hthere⟩] at hspikeLive
      exact hspikeLive
    · rintro (⟨hmine, hrole⟩ | ⟨hthere, hrole⟩)
      · rw [if_neg fun h => hrole h.2, if_neg fun h => hexclusive hmine h.1,
          if_neg fun h => h.1 hmine] at hspikeLive
        exact hspikeLive
      · rw [if_neg fun h => hexclusive h.1 hthere, if_neg fun h => h.2 hrole,
          if_neg fun h => h.2 hthere] at hspikeLive
        exact hspikeLive

end Sys2Proof.Machine
end


section
/-! SUPPORT. SEND (R35 to R40): its base target, its diversion and the room for it, and the story's one write. -/

namespace Sys2Proof.Machine

/-! ### A SEND carried out (R39, R40) -/

theorem dropHold_putStory (s : State) (n : Nat) (st : Option Story) (t m : Nat) :
    (s.putStory n st).dropHold t m = (s.dropHold t m).putStory n st := rfl

theorem dropHold_joinBasket (s : State) (d n : Nat) (flash : Bool) (t m : Nat) :
    (s.joinBasket d n flash).dropHold t m = (s.dropHold t m).joinBasket d n flash := rfl

/-- A story that a SEND takes out of its basket and off its holder's list, before it goes anywhere (R39, R40). -/
def State.unplaced (s : State) (d t n : Nat) : State := (s.leaveBasket d n).dropHold t n

section
variable {s : State} {n : Nat} {st : Story} (h : s.story? n = some st) (t : Nat)
include h

theorem sendToDesk_of_live (hrun : s.part = .running) (d : Nat) (flash : Bool) :
    s.sendToDesk t n d flash =
      ((((s.unplaced st.desk t n).joinBasket d n flash).putStory n (some
        (st.arrived d flash (some (s.now + 1000 * min (s.desk d).t 3600))))).attend t
          (.done .send n d st.revision false)).tellChange .moved n (.terminal t) := by
  have hleft : (s.leaveBasket st.desk n).story? n = some st := h
  have hrunning : (s.leaveBasket st.desk n).part = .running := hrun
  rw [State.sendToDesk, story_of_live h, fileAt_of_live hleft, arrivalDue_of_running hrunning,
    done_of_written, dropHold_putStory, dropHold_joinBasket]
  rfl

theorem sendToSet_of_live :
    s.sendToSet t n =
      (((((s.unplaced st.desk t n).putStory n (some
        { st with state := .set, holder := none, overdue := false, nudgeDue := none })).attend t
          (.done .send n st.desk st.revision true)).tellChange .set n (.terminal t)).storySet
            n).startTest := by
  have hleft : (s.leaveBasket st.desk n).story? n = some st := h
  rw [State.sendToSet, story_of_live h, modStory_of_live hleft, done_of_written, dropHold_putStory]
  rfl

end

/-! ### The resolution of a SEND (R36 to R38) -/

/-- What a SEND does once it is resolved (R36 to R40). -/
def State.carryOut (s : State) (t n : Nat) (known : Option Nat) (flash : Bool) : Resolution → State
  | .refused code full => s.refuseRequest t .send code known full
  | .toSet => s.sendToSet t n
  | .toDesk d => s.sendToDesk t n d flash

section
variable {s : State} {st : Story} (t n : Nat) (known : Option Nat) (flash : Bool)

theorem takeSend_of_live (h : s.story? n = some st) (desk : Option Nat) :
    s.takeSend t n known desk flash =
      s.carryOut t n known flash (s.resolveSend st (s.terminal t).role desk) := by
  rw [State.takeSend, story_of_live h]
  rfl

theorem carryOut_of_noTarget {desk : Option Nat} (hbase : s.baseTarget st desk = .none) (role : Role) :
    s.carryOut t n known flash (s.resolveSend st role desk) =
      s.refuseRequest t .send .noRoute known none := by
  rw [State.resolveSend, hbase]
  rfl

theorem carryOut_of_setTarget {desk : Option Nat} (hbase : s.baseTarget st desk = .set) (role : Role) :
    s.carryOut t n known flash (s.resolveSend st role desk) =
      if role = .writer then s.refuseRequest t .send .role known none else s.sendToSet t n := by
  rw [State.resolveSend, hbase]
  exact apply_ite (s.carryOut t n known flash) _ _ _

theorem carryOut_of_deskTarget {desk : Option Nat} {b : Nat} (hbase : s.baseTarget st desk = .desk b)
    (role : Role) :
    s.carryOut t n known flash (s.resolveSend st role desk) =
      if (s.desk b).inUse = false then s.refuseRequest t .send .noRoute known none
      else if b = st.desk then s.refuseRequest t .send .sameDesk known none
      else s.carryOut t n known flash (s.roomFor b (s.divertedTarget st b)) := by
  rw [State.resolveSend, hbase]
  dsimp only
  rw [apply_ite (s.carryOut t n known flash), apply_ite (s.carryOut t n known flash)]
  rfl

theorem basketFull_not (s : State) (d : Nat) :
    (!s.basketFull d) = decide ((s.basket d).count < (s.desk d).capacity) := by
  rw [State.basketFull, ← decide_not]
  exact decide_eq_decide.2 Nat.not_le

/-- Without a diversion the base target is tried for room (R38). -/
theorem carryOut_roomFor_none (b : Nat) :
    s.carryOut t n known flash (s.roomFor b none) =
      if decide ((s.basket b).count < (s.desk b).capacity) = true then s.sendToDesk t n b flash
      else s.refuseRequest t .send .full known (some b) := by
  simp only [State.roomFor, basketFull_not]
  exact apply_ite (s.carryOut t n known flash) _ _ _

/-- The diverted target is tried for room before the base target (R38). -/
theorem carryOut_roomFor_some (b d : Nat) :
    s.carryOut t n known flash (s.roomFor b (some d)) =
      if decide ((s.basket d).count < (s.desk d).capacity) = true then s.sendToDesk t n d flash
      else s.carryOut t n known flash (s.roomFor b none) := by
  simp only [State.roomFor, basketFull_not]
  exact apply_ite (s.carryOut t n known flash) _ _ _

end

/-- Where a SEND goes before diversion: the desk its byte names, or the route entry (R36). -/
theorem baseTarget_readOption1 (s : State) (st : Story) (desk : Byte) :
    s.baseTarget st (readOption1 desk) =
      if (desk != 0xFF) = true then .desk desk.toNat else s.route st.cls st.desk := by
  unfold readOption1
  by_cases hnone : desk = 0xFF
  · rw [if_pos hnone, if_neg (by simp [hnone])]
    rfl
  · rw [if_neg hnone, if_pos (bne_iff_ne.2 hnone)]
    rfl

/-- The condition ON_SURGE is read at the entry's own desk, which is the base target (R37). -/
theorem diverts_eq (s : State) (st : Story) (b : Nat) (e : Diversion) :
    s.diverts st b e =
      (e.inUse && e.fromDesk == b && (e.cls == none || e.cls == some st.cls) &&
        (e.condition == .always || (s.pressure b).surge == .surge ||
          (s.pressure b).surge == .easing) &&
        (s.desk e.toDesk).inUse && e.toDesk != st.desk) := by
  rw [Bool.eq_iff_iff]
  simp only [State.diverts, Bool.and_eq_true, Bool.or_eq_true, inSurge_iff, beq_iff_eq,
    bne_iff_ne, ne_eq, Bool.not_eq_true', beq_eq_false_iff_ne, or_assoc]
  constructor
  · rintro ⟨⟨⟨⟨⟨huse, rfl⟩, hclass⟩, hcondition⟩, hother⟩, hto⟩
    exact ⟨⟨⟨⟨⟨huse, rfl⟩, hclass⟩, hcondition⟩, hto⟩, hother⟩
  · rintro ⟨⟨⟨⟨⟨huse, rfl⟩, hclass⟩, hcondition⟩, hto⟩, hother⟩
    exact ⟨⟨⟨⟨⟨huse, rfl⟩, hclass⟩, hcondition⟩, hother⟩, hto⟩

/-! ### SEND (R35) -/

/-- The checks of SEND, the named desk's among them when one is named (R35). -/
theorem sendChecks_eq (s : State) (t : Nat) (named desk : Option Nat) :
    s.sendChecks t named desk = s.requestChecks t named false ++
      [ (desk.any fun d => decide (15 < d), .range),
        (!s.heldBy (s.subjectOf t named) t, .notHolder),
        (desk.isSome && (s.terminal t).role == .writer, .role) ] := by
  unfold State.sendChecks
  cases desk <;> rfl

theorem readOption1_isSome_iff (b : Byte) :
    (readOption1 b).isSome = true ↔ b ≠ 0xFF := by
  unfold readOption1
  by_cases hnone : b = 0xFF <;> simp [hnone]

theorem exec_send_of_hears {s u : State} {l : LineId} {drop t : Nat} (h : s.hears l drop)
    (hu : u = s.answered l drop) (ht : t = terminalOf l drop) (hi lo desk f : Byte) :
    exec (.send l drop [hi, lo, desk, f]) s = .next
      ((u.judgeRequest t .send (u.knownStory t (readOption2 hi lo)) none
        (u.sendChecks t (readOption2 hi lo) (readOption1 desk))
        (u.takeSend t (u.subjectOf t (readOption2 hi lo)) (u.knownStory t (readOption2 hi lo))
          (readOption1 desk) (readFlag f))).lineTurn l) := by
  subst hu ht
  change Host.Outcome.next (s.takeRequest l drop .send [hi, lo, desk, f] readSendArgs _) = _
  rw [takeRequest_of_hears (x := (readOption2 hi lo, readOption1 desk, readFlag f)) h (by simp) rfl]

/-- Settles O35: past its checks a SEND is resolved by its base target, then by the first diversion that
matches it, then by room. -/
theorem sendIsResolvedAndCarriedOut : Obligations.SendIsResolvedAndCarriedOut := by
  unfold Obligations.SendIsResolvedAndCarriedOut
  intro s l drop hi lo desk f hears hrun t u me num bare subject n st named refuse base matching room
    left reach set
  have hrunning : u.part = .running := (part_answered s l drop).trans hrun
  have hat : ∀ m, u.story? m = s.story? m := storyAt_answered s l drop
  have hstory : ∀ m, u.story m = s.story m := story_answered s l drop
  have hdesk : ∀ d, u.desk d = s.desk d := desk_answered s l drop
  have hbasket : ∀ d, u.basket d = s.basket d := basket_answered s l drop
  have hnow : u.now = s.now := now_answered s l drop
  have hsubject : u.subjectOf t (readOption2 hi lo) = n :=
    congrArg (·.getD 0) (subject_readOption2 u t hi lo)
  have hrefuse : ∀ code full,
      u.refuseRequest t .send code (u.knownStory t (readOption2 hi lo)) full = refuse code full := by
    intro code full
    rw [knownStory_readOption2]
    rfl
  rw [exec_send_of_hears (u := u) (t := t) hears rfl rfl, sendChecks_eq,
    judgeRequest_requestChecks _ _ _ _ _ hrunning _ (by nofun), hsubject, hat]
  refine congrArg (fun v => Host.Outcome.next (State.lineTurn v l)) ?_
  simp only [judgeRequest_cons, judgeRequest_nil, storyOutside_readOption2, hrefuse, reduceCtorEq,
    if_false]
  refine ite_congr rfl (fun _ => rfl) fun _ =>
    ite_congr (by rw [subject_readOption2]) (fun _ => rfl) fun hlive => ?_
  have hst : u.story? n = some st := (hat n).trans (live_of_not_free (not_or.1 hlive).2)
  have hbase : u.baseTarget st (readOption1 desk) = base := by
    rw [baseTarget_readOption1, route_answered s l drop st.cls st.desk]
  have hleft : u.unplaced st.desk t n = left := rfl
  have hreach : ∀ d, u.sendToDesk t n d (readFlag f) = reach d := by
    intro d
    rw [sendToDesk_of_live hst t hrunning, hnow, hdesk, hleft]
    rfl
  have hset : u.sendToSet t n = set := by
    rw [sendToSet_of_live hst t, hleft]
  have hnamed : named = true ↔ desk ≠ 0xFF := bne_iff_ne
  have hheld : (!u.heldBy n t) = true ↔ ¬ (st.state = .held ∧ st.holder = some t) := by
    rw [Bool.not_eq_true', ← Bool.not_eq_true, heldBy_iff, hstory]
  simp only [hnamed, hheld, Bool.and_eq_true, readOption1_any_iff, readOption1_isSome_iff,
    decide_eq_true_eq, beq_iff_eq]
  refine ite_congr rfl (fun _ => rfl) fun _ => ite_congr rfl (fun _ => rfl) fun _ =>
    ite_congr rfl (fun _ => rfl) fun _ => ?_
  rw [takeSend_of_live t n _ _ hst]
  clear_value base
  cases base with
  | none => rw [carryOut_of_noTarget _ _ _ _ hbase, hrefuse]
  | set => rw [carryOut_of_setTarget _ _ _ _ hbase, hrefuse, hset]
  | desk b =>
    have hmatching : u.diverts st b = matching b := by
      funext e
      rw [diverts_eq, pressure_answered, hdesk]
    have hdiversion : u.diversion = s.diversion := funext (diversion_answered s l drop)
    rw [carryOut_of_deskTarget _ _ _ _ hbase, State.divertedTarget, hmatching, hdiversion, hdesk,
      hrefuse, hrefuse]
    refine ite_congr rfl (fun _ => rfl) fun _ => ite_congr rfl (fun _ => rfl) fun _ => ?_
    have hbaseRoom : u.carryOut t n (u.knownStory t (readOption2 hi lo)) (readFlag f)
        (u.roomFor b none) = if room b = true then reach b else refuse .full (some b) := by
      rw [carryOut_roomFor_none, hbasket, hdesk, hreach, hrefuse]
    cases ((List.range 8).map s.diversion).find? (matching b) with
    | none => exact hbaseRoom
    | some e =>
      rw [Option.map_some, carryOut_roomFor_some, hbasket, hdesk, hreach, hbaseRoom]

end Sys2Proof.Machine
end

section
/-! SUPPORT. A reminder's expiry (R50 to R52): who is reminded, and the one write of the story's record. -/

namespace Sys2Proof.Machine

/-! ### Who is reminded (R51) -/

/-- The desk's duty terminal is LIVE (R51). -/
abbrev State.dutyLive (s : State) (d : Nat) : Prop :=
  ∃ t, (s.desk d).duty = some t ∧ (s.terminal t).liveness = .live

/-- To whom a NUDGE at desk `d` goes: its duty terminal while that is LIVE, and otherwise each of its LIVE
chiefs (R51). -/
abbrev State.isReminded (s : State) (d x : Nat) : Prop :=
  ((s.desk d).duty = some x ∧ (s.terminal x).liveness = .live) ∨
    (¬ s.dutyLive d ∧ (s.terminal x).liveness = .live ∧ (s.terminal x).role = .chief ∧
      (s.terminal x).desk = d)

/-- The LIVE chiefs of a desk, in ascending number (R51). -/
def State.liveChiefs (s : State) (d : Nat) : List Nat :=
  s.terminalsWith fun r => r.liveness == .live && r.role == .chief && r.desk == d

theorem nudgeRecipients_of_dutyLive {s : State} {d t : Nat} (hduty : (s.desk d).duty = some t)
    (hlive : (s.terminal t).liveness = .live) : s.nudgeRecipients d = [t] := by
  simp [State.nudgeRecipients, hduty, hlive]

theorem nudgeRecipients_of_not_dutyLive {s : State} {d : Nat} (h : ¬ s.dutyLive d) :
    s.nudgeRecipients d = s.liveChiefs d := by
  unfold State.nudgeRecipients
  cases hduty : (s.desk d).duty with
  | none => rfl
  | some t => exact if_neg fun hlive => h ⟨t, hduty, hlive⟩

theorem mem_liveChiefs {s : State} (h : Table.wf Terminal.initial s.terminals = true) (d x : Nat) :
    x ∈ s.liveChiefs d ↔ (s.terminal x).liveness = .live ∧ (s.terminal x).role = .chief ∧
      (s.terminal x).desk = d := by
  have hmem := Table.mem_keys_filter h
    (p := fun r => r.liveness == .live && r.role == .chief && r.desk == d) rfl x
  simpa [State.liveChiefs, State.terminalsWith, State.terminal, and_assoc] using hmem

theorem mem_nudgeRecipients {s : State} (h : Table.wf Terminal.initial s.terminals = true)
    (d x : Nat) : x ∈ s.nudgeRecipients d ↔ s.isReminded d x := by
  by_cases hdutyLive : s.dutyLive d
  · obtain ⟨t, hduty, hlive⟩ := hdutyLive
    rw [nudgeRecipients_of_dutyLive hduty hlive, List.mem_singleton]
    constructor
    · rintro rfl
      exact .inl ⟨hduty, hlive⟩
    · rintro (⟨hx, -⟩ | ⟨hnone, -⟩)
      · exact Option.some.inj (hx.symm.trans hduty)
      · exact absurd ⟨t, hduty, hlive⟩ hnone
  · rw [nudgeRecipients_of_not_dutyLive hdutyLive, mem_liveChiefs h]
    exact ⟨fun hchief => .inr ⟨hdutyLive, hchief⟩,
      fun hx => (hx.resolve_left fun hduty => hdutyLive ⟨x, hduty⟩).2⟩

theorem nudgeRecipients_nodup {s : State} (h : Table.wf Terminal.initial s.terminals = true)
    (d : Nat) : (s.nudgeRecipients d).Nodup := by
  by_cases hdutyLive : s.dutyLive d
  · obtain ⟨t, hduty, hlive⟩ := hdutyLive
    rw [nudgeRecipients_of_dutyLive hduty hlive]
    exact List.nodup_singleton t
  · rw [nudgeRecipients_of_not_dutyLive hdutyLive]
    exact Table.keys_filter_nodup h _

theorem live_of_isReminded {s : State} {d x : Nat} (h : s.isReminded d x) :
    (s.terminal x).liveness = .live := by
  rcases h with ⟨-, hlive⟩ | ⟨-, hlive, -⟩ <;> exact hlive

/-! ### An expiry, as one write (R50, R52) -/

@[simp] theorem storyAt_offer (s : State) (c : Notice) (n : Nat) :
    (s.offer c).story? n = s.story? n :=
  congrArg (Table.get none · n) (onlyChanges_offer s c .stories (by decide)).symm

@[simp] theorem now_offer (s : State) (c : Notice) : (s.offer c).now = s.now :=
  (onlyChanges_offer s c .now (by decide)).symm

theorem attend_putStory (s : State) (n : Nat) (o : Option Story) (t : Nat) (b : AttentionBody) :
    (s.putStory n o).attend t b = (s.attend t b).putStory n o := by
  unfold State.attend
  dsimp only [State.terminal_putStory_frame]
  split <;> rfl

theorem attendAll_putStory (s : State) (n : Nat) (o : Option Story) (ts : List Nat)
    (b : AttentionBody) : (s.putStory n o).attendAll ts b = (s.attendAll ts b).putStory n o := by
  unfold State.attendAll
  induction ts generalizing s with
  | nil => rfl
  | cons t rest ih => rw [List.foldl_cons, attend_putStory, ih, List.foldl_cons]

/-- The NUDGEs of an expiry of story `n`, whose record is `st`, with the count it is raised to (R50, R51). -/
def State.remind (s : State) (n : Nat) (st : Story) : State :=
  s.attendAll (s.nudgeRecipients st.desk) (.nudge n st.desk st.revision (st.nudgeCount + 1))

theorem onlyChanges_remind (s : State) (n : Nat) (st : Story) :
    s.onlyChanges [.terminals] (s.remind n st) := onlyChanges_attendAll _ _ _

/-- A story's record once its reminder count has reached its desk's limit (R50, R52). -/
def Story.overdueNow (st : Story) : Story :=
  { st with nudgeCount := st.nudgeCount + 1, overdue := true, nudgeDue := none }

/-- A story's record once it has been reminded and its next reminder is due at `due` (R50). -/
def Story.remindedUntil (st : Story) (due : Nat) : Story :=
  { st with nudgeCount := st.nudgeCount + 1, nudgeDue := some due }

/-- When the next reminder of a story is due that is reminded now (R46, R50). -/
def State.nextReminder (s : State) (st : Story) : Nat :=
  s.now + 1000 * min ((s.desk st.desk).t * (s.desk st.desk).m ^ (st.nudgeCount + 1)) 3600

theorem tellChange_overdue (s : State) (n : Nat) (cause : CopyCause) :
    s.tellChange .overdue n cause = s.offer (s.copyEventOf .overdue n cause) := rfl

theorem nudge_of_live {s : State} {n : Nat} {st : Story} (h : s.story? n = some st) :
    s.nudge n =
      if (s.desk st.desk).r ≤ st.nudgeCount + 1 then
        ((s.remind n st).putStory n (some st.overdueNow)).offer
          (.copyEvent .overdue n st.state st.desk st.revision .nudge [] (some (st.nudgeCount + 1)))
      else (s.remind n st).putStory n (some (st.remindedUntil (s.nextReminder st))) := by
  have hcounted : s.modStory n (fun st => { st with nudgeCount := st.nudgeCount + 1 }) =
      s.putStory n (some { st with nudgeCount := st.nudgeCount + 1 }) := modStory_of_live h _
  have hframe := onlyChanges_remind s n st
  have hnow : (s.remind n st).now = s.now := (hframe .now (by decide)).symm
  have hdesk : (s.remind n st).desk st.desk = s.desk st.desk :=
    congrArg (Table.get Desk.initial · st.desk) (hframe .desks (by decide)).symm
  have hreminded : s.nudge n =
      ((s.remind n st).putStory n (some { st with nudgeCount := st.nudgeCount + 1 })).afterNudge n := by
    unfold State.nudge
    dsimp only
    rw [hcounted, story_of_live (storyAt_putStory_self _ _ _), attendAll_putStory]
    rfl
  rw [hreminded, State.afterNudge, story_of_live (storyAt_putStory_self _ _ _)]
  refine ite_congr (congrArg (·.r ≤ st.nudgeCount + 1) hdesk) (fun _ => ?_) fun _ => ?_
  · rw [modStory_of_live (storyAt_putStory_self _ _ _), putStory_putStory, tellChange_overdue,
      State.copyEventOf, story_of_live (storyAt_putStory_self _ _ _)]
    rfl
  · rw [modStory_of_live (storyAt_putStory_self _ _ _), putStory_putStory]
    simp only [State.nudgeDueFor, State.desk_putStory_frame, hdesk, State.after, nudgeInterval,
      State.putStory_now, hnow, Story.remindedUntil, State.nextReminder, Nat.mul_comm 1000]

theorem nudgeDue_eq_none {s : State} {n : Nat}
    (h : s.part = .loading ∨ (∃ st, s.story? n = some st ∧ st.nudgeDue = none) ∨
      s.story? n = none) : s.nudgeDue n = none := by
  unfold State.nudgeDue
  rcases h with hload | ⟨st, hst, hdue⟩ | hfree
  · rw [hload]; rfl
  · rw [story_of_live hst, hdue, ite_self]
  · rw [State.story, hfree]; exact ite_self _

theorem nudgeDue_of_live {s : State} {n : Nat} {st : Story} (hrun : s.part = .running)
    (hst : s.story? n = some st) : s.nudgeDue n = st.nudgeDue := by
  rw [State.nudgeDue, if_pos hrun, story_of_live hst]

theorem exec_nudgeExpiry_of_due {s : State} {n due : Nat} (h : s.nudgeDue n = some due) :
    exec (.nudgeExpiry n) s = .next ((s.reach due).nudge n) := by
  change Host.Outcome.next _ = _
  rw [h]

/-- What an expiry leaves of each terminal's record. -/
theorem terminal_remind {s : State} (h : Table.wf Terminal.initial s.terminals = true) (n : Nat)
    (st : Story) (x : Nat) :
    (s.isReminded st.desk x → (s.remind n st).terminal x =
      { s.terminal x with
        attentions := joinAttention (s.terminal x).attentions
          (.nudge n st.desk st.revision (st.nudgeCount + 1)) }) ∧
    (¬ s.isReminded st.desk x → (s.remind n st).terminal x = s.terminal x) := by
  rw [State.remind, terminal_attendAll _ _ (nudgeRecipients_nodup h _)]
  refine ⟨fun htold => ?_, fun htold => if_neg ((mem_nudgeRecipients h _ _).not.2 htold)⟩
  rw [if_pos ((mem_nudgeRecipients h _ _).2 htold), Terminal.attended,
    if_pos (by rw [live_of_isReminded htold]; decide)]

/-- Settles O44: an expiry reminds, and then writes the story's record once. -/
theorem reminderExpiryCountsAndReminds : Obligations.ReminderExpiryCountsAndReminds := by
  unfold Obligations.ReminderExpiryCountsAndReminds
  intro s n due st
  constructor
  · intro hidle
    have hnone : s.nudgeDue n = none :=
      nudgeDue_eq_none (hidle.imp_right (Or.imp_left fun hst => ⟨st, hst⟩))
    change Host.Outcome.next _ = _
    rw [hnone]
  · intro hrun hst hdue hwf e k now dutyLive told
    have hlive : (s.reach due).story? n = some st := hst
    have hreach : s.onlyChanges [.now, .stories, .terminals] (s.reach due) :=
      (onlyChanges_reach s due).mono (by decide)
    have hwritten : ∀ o, s.onlyChanges [.now, .stories, .terminals]
        (((s.reach due).remind n st).putStory n o) := fun o =>
      (hreach.trans ((onlyChanges_remind _ n st).mono (by decide))).trans
        ((onlyChanges_putStory _ n o).mono (by decide))
    have hstories : ∀ o m, m ≠ n →
        (((s.reach due).remind n st).putStory n o).story? m = s.story? m := fun o m hm =>
      (State.storyAt_putStory _ n o m).trans ((if_neg hm).trans (congrArg (Table.get none · m)
        (onlyChanges_remind (s.reach due) n st .stories (by decide)).symm))
    have hnow : ((s.reach due).remind n st).now = now :=
      (onlyChanges_remind (s.reach due) n st .now (by decide)).symm
    have hterminal := terminal_remind (s := s.reach due) hwf n st
    refine ⟨_, exec_nudgeExpiry_of_due ((nudgeDue_of_live hrun hst).trans hdue), ?_⟩
    rw [nudge_of_live hlive]
    by_cases hlimit : e.r ≤ k
    · rw [if_pos (show ((s.reach due).desk st.desk).r ≤ st.nudgeCount + 1 from hlimit)]
      refine ⟨?_, fun m hm => ?_, fun x => ?_, fun _ => ⟨?_, ?_⟩,
        fun hbelow => absurd hlimit (Nat.not_le.2 hbelow)⟩
      · exact (now_offer _ _).trans hnow
      · exact (storyAt_offer _ _ m).trans (hstories _ m hm)
      · rw [terminal_offer]
        exact hterminal x
      · exact (storyAt_offer _ _ n).trans (storyAt_putStory_self _ _ _)
      · exact offer_onlyChanges (hwritten _) (by decide) _
    · rw [if_neg (show ¬ ((s.reach due).desk st.desk).r ≤ st.nudgeCount + 1 from hlimit)]
      exact ⟨hnow, hstories _, hterminal, fun hover => absurd hover hlimit,
        fun _ => ⟨storyAt_putStory_self _ _ _, hwritten _⟩⟩

end Sys2Proof.Machine
end

section
/-! SUPPORT. What more of the orders and events can change: the orders on desks and terminals, screens, STATUS and
the pressure samples. -/

namespace Sys2Proof.Machine

/-! ### Desks and pressure (R60, R71 to R73) -/

section
variable (s : State)

theorem onlyChanges_deskTurns (d : Nat) (was is : Bool) :
    s.onlyChanges ([.pressures] ++ noticeFields) (s.deskTurns d was is) := by
  have hcleared : s.onlyChanges ([.pressures] ++ noticeFields) (s.putPressure d Pressure.initial) :=
    (onlyChanges_putPressure _ _ _).mono (by decide)
  unfold State.deskTurns
  split
  · exact .refl _ s
  · dsimp only
    split
    · exact hcleared.trans ((onlyChanges_offer _ _).mono (by decide))
    · exact hcleared

theorem onlyChanges_reseedDesk (d : Nat) : s.onlyChanges [.pressures] (s.reseedDesk d) :=
  onlyChanges_putPressure _ _ _

theorem onlyChanges_takeReseed (d : Nat) :
    s.onlyChanges ([.pressures] ++ noticeFields) (s.takeReseed d) := by
  have hseeded : s.onlyChanges ([.pressures] ++ noticeFields) (s.reseedDesk d) :=
    (onlyChanges_reseedDesk s d).mono (by decide)
  unfold State.takeReseed
  dsimp only
  split
  · exact hseeded.trans ((onlyChanges_offer _ _).mono (by decide))
  · exact hseeded

theorem onlyChanges_sampleDesk (d : Nat) :
    s.onlyChanges ([.pressures] ++ noticeFields) (s.sampleDesk d) := by
  unfold State.sampleDesk
  dsimp only
  split
  · exact (onlyChanges_putPressure _ _ _).mono (by decide)
  · exact ((onlyChanges_putPressure _ _ _).mono (by decide)).trans
      ((onlyChanges_offer _ _).mono (by decide))

theorem onlyChanges_periodAtDesk (d : Nat) :
    s.onlyChanges ([.pressures] ++ noticeFields) (s.periodAtDesk d) := by
  unfold State.periodAtDesk
  split
  · split
    · exact (onlyChanges_reseedDesk s d).mono (by decide)
    · exact onlyChanges_sampleDesk s d
  · exact .refl _ s

theorem onlyChanges_putCountdown (k : Option Nat) :
    s.onlyChanges [.countdown] { s with countdown := k } := by
  intro f hf; cases f <;> first | rfl | exact absurd (by decide) hf

theorem onlyChanges_stream : s.onlyChanges ([.countdown] ++ noticeFields) s.stream := by
  unfold State.stream
  split
  · exact .refl _ s
  · split
    · exact ((onlyChanges_putCountdown s _).mono (by decide)).trans
        ((onlyChanges_offer _ _).mono (by decide))
    · exact (onlyChanges_putCountdown s _).mono (by decide)

/-! ### STATUS, terminals and screens (R82, R106 to R110, R183) -/

theorem onlyChanges_answerStatus : s.onlyChanges noticeFields s.answerStatus := by
  have hcleared : ∀ u : State, u.onlyChanges noticeFields { u with reportsDropped := false } := by
    intro u f hf; cases f <;> first | rfl | exact absurd (by decide) hf
  unfold State.answerStatus
  split
  · exact (onlyChanges_offer s _).trans (hcleared _)
  · exact onlyChanges_offer s _

theorem onlyChanges_takeLoadTerminal (x : TerminalLoad) :
    s.onlyChanges [.terminals, .freeBlocks] (s.takeLoadTerminal x) := by
  unfold State.takeLoadTerminal
  dsimp only
  split
  · split <;> exact (onlyChanges_putTerminal _ _ _).mono (by decide)
  · exact (onlyChanges_discardFrames _ _ _).trans ((onlyChanges_putTerminal _ _ _).mono (by decide))

/-- What a SCREEN order may touch besides its frame's arrival (R106). -/
def screenFields : List Field := [.freeBlocks] ++ tellFields

theorem onlyChanges_continueScreen (x : ScreenOrder) :
    s.onlyChanges screenFields (s.continueScreen x) := by
  have hrefused : ∀ code ident, s.onlyChanges screenFields
      ((s.discardFrames x.terminal OutFrame.isOpen).refuseOrder Kind.screen code ident) :=
    fun _ _ => ((onlyChanges_discardFrames _ _ _).mono (by decide)).trans
      ((onlyChanges_refuseOrder _ _ _ _).mono (by decide))
  unfold State.continueScreen
  split
  · exact (onlyChanges_refuseOrder _ _ _ _).mono (by decide)
  · split
    · exact hrefused _ _
    · split
      · exact hrefused _ _
      · exact (onlyChanges_extendOpen _ _ _ _).mono (by decide)

theorem onlyChanges_roomForScreen (x : ScreenOrder) (form : Form) :
    s.onlyChanges screenFields (s.roomForScreen x form) := by
  unfold State.roomForScreen
  split
  · exact (onlyChanges_refuseOrder _ _ _ _).mono (by decide)
  · exact (onlyChanges_appendFrame _ _ _).mono (by decide)

theorem onlyChanges_newScreen (x : ScreenOrder) (form : Form) :
    s.onlyChanges screenFields (s.newScreen x form) := by
  unfold State.newScreen
  dsimp only
  refine ((onlyChanges_discardFrames s x.terminal (supersededBy form)).mono (by decide)).trans ?_
  split
  · exact ((onlyChanges_discardFrames _ _ _).mono (by decide)).trans
      ((onlyChanges_wantRefresh _ _ _).mono (by decide))
  · exact onlyChanges_roomForScreen _ _ _

theorem onlyChanges_takeScreen (x : ScreenOrder) : s.onlyChanges screenFields (s.takeScreen x) := by
  unfold State.takeScreen
  split
  · exact onlyChanges_continueScreen s x
  · split
    · exact .refl _ s
    · exact onlyChanges_newScreen s x _

/-! ### Frames of the store link and of the lines (R88, R105, R112 to R118, R123) -/

theorem onlyChanges_discardOpenFrames :
    s.onlyChanges [.terminals, .freeBlocks] s.discardOpenFrames :=
  State.onlyChanges.foldl _ (fun s t => onlyChanges_discardFrames s t OutFrame.isOpen) _ s

theorem onlyChanges_takeKeys (t : Nat) (bytes : List Byte) :
    s.onlyChanges tellFields (s.takeKeys t bytes) := by
  unfold State.takeKeys
  split
  · exact (onlyChanges_refuseRequest _ _ _ _ _ _).mono (by decide)
  · split
    · exact (onlyChanges_offer _ _).mono (by decide)
    · exact (onlyChanges_refuseRequest _ _ _ _ _ _).mono (by decide)

theorem onlyChanges_refuseUnknown (t : Nat) (body : List Byte) :
    s.onlyChanges [.terminals] (s.refuseUnknown t body) := by
  unfold State.refuseUnknown
  split
  · exact onlyChanges_refuseRequest _ _ _ _ _ _
  · split <;> exact onlyChanges_refuseRequest _ _ _ _ _ _

theorem onlyChanges_takeBack (t : Nat) : s.onlyChanges tellFields (s.takeBack t) :=
  ((onlyChanges_putTerminal _ _ _).mono (by decide)).trans
    ((onlyChanges_textWanted _ _ _ _).mono (by decide))

theorem onlyChanges_takeWatch (t n : Nat) : s.onlyChanges [.terminals] (s.takeWatch t n) :=
  (onlyChanges_putTerminal _ _ _).trans (onlyChanges_done _ _ _ _ _)

theorem onlyChanges_takeUnwatch (t n : Nat) : s.onlyChanges [.terminals] (s.takeUnwatch t n) :=
  (onlyChanges_putTerminal _ _ _).trans (onlyChanges_done _ _ _ _ _)

theorem onlyChanges_forgetStory (n : Nat) : s.onlyChanges [.terminals] (s.forgetStory n) := by
  intro f hf; cases f <;> first | rfl | exact absurd (by decide) hf

end

/-- What passes on an idle step: a byte, or a millisecond (logs 1 and 2). -/
theorem onlyChanges_idleStep (s : State) :
    s.onlyChanges [.now, .skrx, .lnrx, .framer, .pending, .lines] s.idleStep := by
  have hline : ∀ rest, s.onlyChanges [.now, .skrx, .lnrx, .framer, .pending, .lines]
      { s with lnrx := rest } := by
    intro rest f hf; cases f <;> first | rfl | exact absurd (by decide) hf
  unfold State.idleStep
  split
  · intro f hf; cases f <;> first | rfl | exact absurd (by decide) hf
  · exact (hline _).trans ((onlyChanges_takeLineByte _ _ _).mono (by decide))
  · intro f hf; cases f <;> first | rfl | exact absurd (by decide) hf

end Sys2Proof.Machine
end

section
/-! SUPPORT. The timers and reminders (R45 to R54, R59, R185, R188, R189): the invariant `State.timersKept` as one
condition on each story's record, and what the shared operations do to it, once for each. -/

namespace Sys2Proof.Machine

/-! ### One story's reminder -/

/-- While the part is in state `p`, a story has a reminder pending exactly when it is to have one, and its count
is within its bound (R45, R49, R50, R54). -/
def Story.timed (p : PartState) (st : Story) : Prop :=
  (st.nudgeDue.isSome = true ↔
    p = .running ∧ st.state = .filed ∧ st.holder = none ∧ st.overdue = false) ∧
  st.nudgeCount ≤ 7 ∧ (st.overdue = false → st.state = .filed ∨ st.state = .held → st.nudgeCount ≤ 6)

theorem timersKept_iff (s : State) :
    s.timersKept ↔
      (s.sampleTimer.isSome = true ↔ s.part = .running) ∧
      (s.silenceTimer.isSome = true ↔ s.storeLost = false) ∧
      (∀ n st, s.story? n = some st → st.timed s.part) ∧ ∀ d, (s.desk d).r ≤ 7 := by
  constructor
  · rintro ⟨hsample, hsilence, hdue, hcounts, hlimits⟩
    exact ⟨hsample, hsilence, fun n st hst => ⟨hdue n st hst, hcounts n st hst⟩, hlimits⟩
  · rintro ⟨hsample, hsilence, hstory, hlimits⟩
    exact ⟨hsample, hsilence, fun n st hst => (hstory n st hst).1,
      fun n st hst => (hstory n st hst).2, hlimits⟩

theorem State.timersKept.story {s : State} (h : s.timersKept) {n : Nat} {st : Story}
    (hst : s.story? n = some st) : st.timed s.part := ⟨h.due n st hst, h.counts n st hst⟩

/-- A story that is neither FILED nor HELD, with no reminder pending, keeps within 7 (R49). -/
theorem Story.timed_of_gone {st : Story} (p : PartState) (hdue : st.nudgeDue = none)
    (hfiled : st.state ≠ .filed) (hheld : st.state ≠ .held) (hcount : st.nudgeCount ≤ 7) :
    st.timed p :=
  ⟨by simp [hdue, hfiled], hcount, fun _ hstate => absurd hstate (by simp [hfiled, hheld])⟩

/-- A story that arrives at a desk starts its reminders afresh (R47, R54). -/
theorem Story.timed_arrived (s : State) (st : Story) (d : Nat) (flash : Bool) :
    (st.arrived d flash (s.arrivalDue d)).timed s.part := by
  refine ⟨?_, Nat.zero_le 7, fun _ _ => Nat.zero_le 6⟩
  unfold Story.arrived State.arrivalDue
  by_cases hrun : s.part = .running <;> simp [hrun]

/-- A story that is checked out has no reminder, and keeps its count (R49). -/
theorem Story.timed_held {p : PartState} {st : Story} (h : st.timed p) (hfiled : st.state = .filed)
    (t : Nat) : Story.timed p { st with state := .held, holder := some t, nudgeDue := none } := by
  obtain ⟨-, hcount, hwaiting⟩ := h
  exact ⟨by simp, hcount, fun hoverdue _ => hwaiting hoverdue (.inl hfiled)⟩

/-- A held story that is released in place keeps its count and its mark (R48, R54). -/
theorem Story.timed_released {p : PartState} {st : Story} (h : st.timed p)
    (hheld : st.state = .held) (due : Nat) :
    Story.timed p
      { st with
        state := .filed, holder := none,
        nudgeDue := if p = .running ∧ st.overdue = false then some due else none } := by
  obtain ⟨-, hcount, hwaiting⟩ := h
  refine ⟨?_, hcount, fun hoverdue _ => hwaiting hoverdue (.inr hheld)⟩
  by_cases hsched : p = .running ∧ st.overdue = false <;> simp [hsched]

/-- No reminder is pending while LOADING, with counts and marks kept (R54, R187). -/
theorem Story.timed_stopped {p : PartState} {st : Story} (h : st.timed p) :
    Story.timed .loading { st with nudgeDue := none } :=
  ⟨by simp, h.2⟩

/-- A warm restart stops the reminders, and files the held stories at their counts (R20, R54). -/
theorem Story.timed_afterWarm {p : PartState} {st : Story} (h : st.timed p) :
    st.afterWarm.timed .loading := by
  obtain ⟨-, hcount, hwaiting⟩ := h
  refine ⟨by simp [Story.afterWarm], hcount, fun hoverdue hstate => hwaiting hoverdue ?_⟩
  by_cases hheld : st.state = .held
  · exact .inr hheld
  · exact hstate.imp (fun hfiled => (if_neg hheld).symm.trans hfiled)
      fun hheld' => (if_neg hheld).symm.trans hheld'

/-- At RUN a story that waits and is not overdue is scheduled, and no other has a reminder (R54). -/
theorem Story.timed_resumed {st : Story} (h : st.timed .loading) (due : Nat) :
    Story.timed .running
      (if st.waits ∧ st.overdue = false then { st with nudgeDue := some due } else st) := by
  obtain ⟨hdue, hcounts⟩ := h
  have hwaits : st.waits = true ∧ st.overdue = false ↔
      st.state = .filed ∧ st.holder = none ∧ st.overdue = false := by
    simp [Story.waits, and_assoc]
  split
  · rename_i hsched
    exact ⟨by simpa using hwaits.1 hsched, hcounts⟩
  · rename_i hsched
    have hnone : ¬ st.nudgeDue.isSome = true := fun hsome => by cases (hdue.1 hsome).1
    exact ⟨⟨fun hsome => absurd hsome hnone, fun hsome => absurd (hwaits.2 hsome.2) hsched⟩, hcounts⟩

/-- A story whose reminder expires has been reminded at most 6 times before; now it is overdue, or still below
its desk's R (R50, R52). -/
theorem Story.timed_nudged {s : State} {st : Story} (h : st.timed s.part)
    (hdue : st.nudgeDue.isSome = true) (hlimit : (s.desk st.desk).r ≤ 7) (due : Nat) :
    st.overdueNow.timed s.part ∧
      (¬ (s.desk st.desk).r ≤ st.nudgeCount + 1 → (st.remindedUntil due).timed s.part) := by
  obtain ⟨hiff, -, hwaiting⟩ := h
  obtain ⟨hrun, hfiled, hunheld, hoverdue⟩ := hiff.1 hdue
  have hcount : st.nudgeCount ≤ 6 := hwaiting hoverdue (.inl hfiled)
  refine ⟨⟨?_, Nat.succ_le_succ hcount, by nofun⟩, fun hbelow => ⟨?_, Nat.succ_le_succ hcount, ?_⟩⟩
  · simp [Story.overdueNow]
  · simp [Story.remindedUntil, hrun, hfiled, hunheld, hoverdue]
  · intro _ _
    change st.nudgeCount + 1 ≤ 6
    omega

/-! ### Writes -/

/-- The fields the invariant speaks of. -/
def timerFields : List Field := [.part, .storeLost, .silenceTimer, .sampleTimer, .stories, .desks]

section
variable {s : State}

/-- Two states that share those fields. -/
theorem State.timersKept.tables {t : State} (h : s.timersKept) (hpart : t.part = s.part := by rfl)
    (hlost : t.storeLost = s.storeLost := by rfl)
    (hsilence : t.silenceTimer = s.silenceTimer := by rfl)
    (hsample : t.sampleTimer = s.sampleTimer := by rfl) (hstories : t.stories = s.stories := by rfl)
    (hdesks : t.desks = s.desks := by rfl) : t.timersKept := by
  rw [timersKept_iff] at h ⊢
  simpa only [State.story?, State.desk, hpart, hlost, hsilence, hsample, hstories, hdesks] using h

theorem State.timersKept.frame {fs : List Field} {t : State} (h : s.timersKept)
    (hframe : s.onlyChanges fs t) (hd : ∀ f ∈ timerFields, f ∉ fs := by decide) : t.timersKept :=
  h.tables (hframe .part (hd _ (by decide))).symm (hframe .storeLost (hd _ (by decide))).symm
    (hframe .silenceTimer (hd _ (by decide))).symm (hframe .sampleTimer (hd _ (by decide))).symm
    (hframe .stories (hd _ (by decide))).symm (hframe .desks (hd _ (by decide))).symm

theorem State.timersKept.putStory (h : s.timersKept) (n : Nat) {o : Option Story}
    (ho : ∀ st, o = some st → st.timed s.part) : (s.putStory n o).timersKept := by
  refine (timersKept_iff _).2 ⟨h.sample, h.silence, fun m st hst => ?_, h.limits⟩
  rw [State.storyAt_putStory] at hst
  split at hst
  · exact ho st hst
  · exact h.story hst

/-- A live story's record is written. -/
theorem State.timersKept.putLive (h : s.timersKept) (n : Nat) {st : Story}
    (hst : st.timed s.part) : (s.putStory n (some st)).timersKept :=
  h.putStory n fun _ heq => Option.some.inj heq ▸ hst

/-- A record is rewritten in what its reminder does not depend on. -/
theorem State.timersKept.modStory (h : s.timersKept) (n : Nat) {f : Story → Story}
    (hf : ∀ st, st.timed s.part → (f st).timed s.part) : (s.modStory n f).timersKept := by
  unfold State.modStory
  split
  · exact h.putLive n (hf _ (h.story ‹_›))
  · exact h

theorem State.timersKept.putDesk (h : s.timersKept) (d : Nat) {e : Desk} (he : e.r ≤ 7) :
    (s.putDesk d e).timersKept := by
  refine (timersKept_iff _).2 ⟨h.sample, h.silence, fun _ _ hst => h.story hst, fun k => ?_⟩
  rw [State.desk_putDesk]
  split
  · exact he
  · exact h.limits k

theorem State.timersKept.offer (h : s.timersKept) (c : Notice) : (s.offer c).timersKept :=
  h.frame (onlyChanges_offer s c)

theorem State.timersKept.attend (h : s.timersKept) (t : Nat) (b : AttentionBody) :
    (s.attend t b).timersKept := h.frame (onlyChanges_attend s t b)

theorem State.timersKept.tellChange (h : s.timersKept) (k : Change) (n : Nat) (c : CopyCause) :
    (s.tellChange k n c).timersKept := h.frame (onlyChanges_tellChange s k n c)

theorem State.timersKept.putTerminal (h : s.timersKept) (t : Nat) (r : Terminal) :
    (s.putTerminal t r).timersKept := h.frame (onlyChanges_putTerminal s t r)

theorem State.timersKept.startTest (h : s.timersKept) : s.startTest.timersKept :=
  h.frame (onlyChanges_startTest s)

theorem State.timersKept.lineTurn (h : s.timersKept) (l : LineId) : (s.lineTurn l).timersKept :=
  h.frame (onlyChanges_lineTurn s l)

theorem State.timersKept.reach (h : s.timersKept) (due : Nat) : (s.reach due).timersKept :=
  h.frame (onlyChanges_reach s due)

theorem State.timersKept.refuseOrder (h : s.timersKept) (k : Byte) (c : Code) (i : Option Nat) :
    (s.refuseOrder k c i).timersKept := h.offer _

/-- An elementary write of the page unit or the typesetter unit: a lifted story keeps its reminder. -/
theorem State.timersKept.pageWrite {t : State} (h : s.timersKept) (hw : PageWrite s t) :
    t.timersKept := by
  cases hw with
  | page | edition | typesetter | ready => exact h.tables
  | lift n => exact h.modStory n fun _ => id
  | offer n _ => exact h.offer n
  | attend t b => exact h.attend t b

/-- Whatever the page unit and the typesetter unit do keeps the timers and reminders. -/
theorem State.timersKept.pageWork {t : State} (h : s.timersKept) (hw : s.pageWork t) :
    t.timersKept := by
  induction hw with
  | refl => exact h
  | tail _ hlast ih => exact ih.pageWrite hlast

/-! ### Moves of stories (R7 to R11, R32 to R43, R47 to R49) -/

theorem State.timersKept.createStory (h : s.timersKept) (n d c : Nat) (flash : Bool)
    (slug : List Byte) : (s.createStory n d c flash slug).timersKept := by
  rw [createStory_eq]
  have hwritten := h.putLive n (Story.timed_arrived s (announcedStory d c flash slug) d flash)
  exact (hwritten.frame (onlyChanges_putBasket _ _ _)).offer _

theorem State.timersKept.takeRevise (h : s.timersKept) (n : Nat) (slug : List Byte) :
    (s.takeRevise n slug).timersKept := by
  have hrevised : (s.modStory n fun st => st.revised slug).timersKept := h.modStory n fun _ => id
  exact ((hrevised.tellChange .revised n .order).pageWork (pageWork_storyRevised _ n)).startTest

theorem State.timersKept.takePlace (h : s.timersKept) (n r : Nat) :
    (s.takePlace n r).timersKept := by
  have hlisted : (s.putPage r (some
      { s.page r with placement := (s.page r).placement ++ [n] })).timersKept :=
    h.pageWork (pageWork_putPage s r _)
  have hplaced := hlisted.modStory n (f := fun st => { st with page := some r }) fun _ => id
  exact ((hplaced.tellChange .placed n .order).pageWork (pageWork_pageAfterPlace _ r _)).startTest

theorem State.timersKept.takePurge (h : s.timersKept) (n : Nat) : (s.takePurge n).timersKept := by
  rw [takePurge_eq]
  have hforgotten := ((h.frame (unbasketed_onlyChanges s n)).tellChange .gone n .order).frame
    (onlyChanges_forgetStory _ n)
  exact hforgotten.putStory n (by nofun)

section
variable {n : Nat} {st : Story} (hst : s.story? n = some st)
include hst

/-- A live story arrives at a desk. -/
theorem State.timersKept.fileAt (h : s.timersKept) (d : Nat) (flash : Bool) :
    (s.fileAt n d flash).timersKept := by
  rw [fileAt_of_live hst]
  exact (h.frame (onlyChanges_putBasket _ _ _) : (s.joinBasket d n flash).timersKept).putLive n
    (Story.timed_arrived s st d flash)

theorem State.timersKept.takeMove (h : s.timersKept) (d : Nat) (flash : Bool) :
    (s.takeMove n d flash).timersKept := by
  have hleft := h.frame (onlyChanges_leaveBasket s (s.story n).desk n)
  have hlive : (s.leaveBasket (s.story n).desk n).story? n = some st := hst
  exact (hleft.fileAt hlive d flash).tellChange .moved n .order

theorem State.timersKept.takePull (h : s.timersKept) (d : Nat) (flash : Bool) (c : CopyCause) :
    (s.takePull n d flash c).timersKept :=
  (((h.fileAt hst d flash).tellChange .moved n c).pageWork (pageWork_storyPulled _ n)).startTest

theorem State.timersKept.sendToDesk (h : s.timersKept) (t d : Nat) (flash : Bool) :
    (s.sendToDesk t n d flash).timersKept := by
  have hleft := h.frame (onlyChanges_leaveBasket s (s.story n).desk n)
  have hlive : (s.leaveBasket (s.story n).desk n).story? n = some st := hst
  exact (((hleft.fileAt hlive d flash).frame (onlyChanges_dropHold _ t n)).frame
    (onlyChanges_done _ t .send n false)).tellChange .moved n (.terminal t)

theorem State.timersKept.sendToSet (h : s.timersKept) (t : Nat) :
    (s.sendToSet t n).timersKept := by
  rw [sendToSet_of_live hst]
  have hleft := (h.frame (onlyChanges_leaveBasket s st.desk n)).frame (onlyChanges_dropHold _ t n)
  obtain ⟨-, hcount, -⟩ := h.story hst
  have hset := hleft.putLive n (Story.timed_of_gone s.part
    (st := { st with state := .set, holder := none, overdue := false, nudgeDue := none }) rfl
    (by simp) (by simp) hcount)
  exact (((hset.attend _ _).tellChange .set n _).frame (onlyChanges_storySet _ n)).startTest

theorem State.timersKept.takeSpike (h : s.timersKept) (t : Nat) :
    (s.takeSpike t n).timersKept := by
  rw [takeSpike_of_live hst]
  have hleft := h.frame (onlyChanges_leaveBasket s st.desk n)
  obtain ⟨-, hcount, -⟩ := h.story hst
  have hspiked := hleft.putLive n (Story.timed_of_gone s.part
    (st := { st with state := .spiked, holder := none, nudgeDue := none }) rfl (by simp) (by simp)
    hcount)
  exact ((hspiked.frame (onlyChanges_dropHold _ t n)).attend _ _).tellChange .spiked n _

theorem State.timersKept.holdStory (h : s.timersKept) (hfiled : st.state = .filed) (t : Nat)
    (q : RequestKind) : (s.holdStory t n q).timersKept := by
  rw [holdStory_of_live hst]
  have hheld := h.putLive n (Story.timed_held (h.story hst) hfiled t)
  exact ((hheld.putTerminal t _).offer _).tellChange .held n _

theorem releaseInPlace_eq_putStory :
    s.releaseInPlace n = s.putStory n (some
      { st with
        state := .filed, holder := none,
        nudgeDue :=
          if s.part = .running ∧ st.overdue = false then some (s.nudgeDueFor st) else none }) := by
  rw [State.releaseInPlace, modStory_of_live hst, State.nudgeRelease,
    modStory_of_live (storyAt_putStory_self _ _ _), putStory_putStory]
  rfl

/-- A held story is released in place, whether the part is RUNNING or LOADING (R18, R48). -/
theorem State.timersKept.releaseInPlace (h : s.timersKept) (hheld : st.state = .held) :
    (s.releaseInPlace n).timersKept := by
  rw [releaseInPlace_eq_putStory hst]
  exact h.putLive n (Story.timed_released (h.story hst) hheld _)

theorem State.timersKept.takeReturn (h : s.timersKept) (hheld : st.state = .held) (t : Nat) :
    (s.takeReturn t n).timersKept :=
  (((h.releaseInPlace hst hheld).frame (onlyChanges_dropHold _ t n)).frame
    (onlyChanges_done _ t .returnStory n false)).tellChange .released n (.terminal t)

/-- A reminder expires (R50, R52). -/
theorem State.timersKept.nudge (h : s.timersKept) (hdue : st.nudgeDue.isSome = true) :
    (s.nudge n).timersKept := by
  obtain ⟨hover, hnext⟩ :=
    Story.timed_nudged (h.story hst) hdue (h.limits st.desk) (s.nextReminder st)
  have hreminded : (s.remind n st).timersKept := h.frame (onlyChanges_remind s n st)
  have hpart : s.part = (s.remind n st).part := onlyChanges_remind s n st .part (by decide)
  rw [hpart] at hover hnext
  rw [nudge_of_live hst]
  split
  · exact (hreminded.putLive n hover).offer _
  · exact hreminded.putLive n (hnext ‹_›)

end

theorem State.timersKept.takeSend (h : s.timersKept) {n : Nat} {st : Story}
    (hst : s.story? n = some st) (t : Nat) (known desk : Option Nat) (flash : Bool) :
    (s.takeSend t n known desk flash).timersKept := by
  unfold State.takeSend
  split
  · exact h.attend _ _
  · exact h.sendToSet hst t
  · exact h.sendToDesk hst t _ flash

/-! ### Darkness (R90) -/

theorem storyAt_releaseHeld_of_ne {c : CopyCause} {t n m : Nat} {st : Story}
    (hst : s.story? n = some st) (hne : m ≠ n) :
    (State.releaseHeld c t s n).story? m = s.story? m := by
  have hdrop : ∀ u : State, (u.dropHold t n).story? m = u.story? m := fun _ => rfl
  rw [State.releaseHeld, storyAt_tellChange, hdrop, releaseInPlace_eq_putStory hst,
    State.storyAt_putStory, if_neg hne]

/-- The held stories of a terminal that goes DARK are released one by one. -/
theorem timersKept_releaseAll {c : CopyCause} {t : Nat} {l : List Nat} (hl : l.Nodup)
    (hheld : ∀ n ∈ l, ∃ st, s.story? n = some st ∧ st.state = .held) (h : s.timersKept) :
    (l.foldl (State.releaseHeld c t) s).timersKept := by
  induction l generalizing s with
  | nil => exact h
  | cons n rest ih =>
    obtain ⟨hn, hrest⟩ := List.nodup_cons.1 hl
    obtain ⟨st, hst, hstate⟩ := hheld n List.mem_cons_self
    refine ih hrest (fun m hm => ?_)
      (((h.releaseInPlace hst hstate).frame (onlyChanges_dropHold _ t n)).tellChange .released n c)
    have hne : m ≠ n := fun heq => hn (heq ▸ hm)
    rw [storyAt_releaseHeld_of_ne hst hne]
    exact hheld m (List.mem_cons_of_mem _ hm)

/-- The stories on a hold list are HELD, and listed once (R3, R4). -/
theorem held_of_mem_holds (hs : s.standsBut none) (t : Nat) :
    (s.terminal t).holds.Nodup ∧
      ∀ n ∈ (s.terminal t).holds, ∃ st, s.story? n = some st ∧ st.state = .held := by
  have hstands := (storiesStand_iff s).2 hs
  refine ⟨hstands.holdsOnce t, fun n hn => ?_⟩
  obtain ⟨st, hst, hholder⟩ := (hstands.holds t n).1 hn
  exact ⟨st, hst, (hstands.held n st hst).2 (by rw [hholder]; rfl)⟩

theorem State.timersKept.goDark (h : s.timersKept) (hs : s.standsBut none) (t : Nat) :
    (s.goDark t).timersKept := by
  obtain ⟨hnodup, hheld⟩ := held_of_mem_holds hs t
  have hreleased := timersKept_releaseAll
    (s := s.putTerminal t (s.terminal t).darkened) (c := .darkness) (t := t) hnodup hheld
    (h.putTerminal t (s.terminal t).darkened)
  unfold State.goDark
  exact (hreleased.frame (onlyChanges_discardFrames _ t _)).offer _

theorem State.timersKept.countMiss (h : s.timersKept) (hs : s.standsBut none) {t : Nat}
    {r : Terminal} (fallback : Liveness) (hholds : r.holds = (s.terminal t).holds)
    (hconf : r.configured = (s.terminal t).configured)
    (hlive : r.liveness = (s.terminal t).liveness) : (s.countMiss t r fallback).timersKept := by
  unfold State.countMiss
  split
  · exact (h.putTerminal t r).goDark (hs.kept (moves_putTerminal_same hholds hconf hlive)) t
  · exact h.putTerminal t _

theorem State.timersKept.miss (h : s.timersKept) (hs : s.standsBut none) (t : Nat) :
    (s.miss t).timersKept := by
  unfold State.miss
  dsimp only
  split
  case h_1 => exact h
  case h_2 => exact h.countMiss hs _ rfl rfl rfl
  case h_3 => exact h.countMiss hs _ rfl rfl rfl
  case h_4 => exact h.countMiss hs _ rfl rfl rfl
  case h_5 => exact h

/-! ### RUN and IDLE (R54, R186, R187) -/

theorem storyAt_nudgeResume (n : Nat) :
    s.nudgeResume.story? n = (s.story? n).map fun st =>
      if st.waits ∧ st.overdue = false then { st with nudgeDue := some (s.nudgeDueFor st) } else st := by
  refine Table.get_update_keys none _ (fun o => ?_) rfl s.stories n
  cases o with
  | none => rfl
  | some st =>
    by_cases hsched : st.waits = true ∧ st.overdue = false
    · simp [hsched, State.nudgeDueFor]
    · simp [hsched]

theorem storyAt_nudgeStop (n : Nat) :
    s.nudgeStop.story? n = (s.story? n).map fun st => { st with nudgeDue := none } :=
  Table.get_update_keys none _ (fun o => by cases o <;> rfl) rfl s.stories n

theorem State.timersKept.takeRun (h : s.timersKept) (hload : s.part = .loading) :
    s.takeRun.timersKept := by
  refine State.timersKept.startTest ((timersKept_iff _).2
    ⟨iff_of_true rfl rfl, h.silence, fun n st hst => ?_, h.limits⟩)
  rw [storyAt_nudgeResume] at hst
  obtain ⟨st', hst', rfl⟩ := Option.map_eq_some_iff.1 hst
  exact Story.timed_resumed (hload ▸ h.story (s := s) hst') _

theorem State.timersKept.takeIdle (h : s.timersKept) : s.takeIdle.timersKept := by
  refine (timersKept_iff _).2 ⟨iff_of_false nofun nofun, h.silence, fun n st hst => ?_, h.limits⟩
  rw [State.takeIdle, storyAt_nudgeStop] at hst
  obtain ⟨st', hst', rfl⟩ := Option.map_eq_some_iff.1 hst
  exact Story.timed_stopped (h.story (s := s) hst')

/-! ### The store-silence timer and the sample timer (R59, R188, R189) -/

/-- A frame starts the silence timer afresh, and the part is not store-lost (R188, R189). -/
theorem State.timersKept.hearFrame (h : s.timersKept) : s.hearFrame.timersKept := by
  have hheard : ∀ due, ({ s with framer := .hunt, silenceTimer := some due, storeLost := false } :
      State).timersKept := fun _ =>
    (timersKept_iff _).2 ⟨h.sample, iff_of_true rfl rfl, fun _ _ hst => h.story hst, h.limits⟩
  unfold State.hearFrame State.endStoreLost
  split
  · exact ((hheard _).frame (onlyChanges_attendAll _ _ _)).startTest
  · rename_i hpresent
    exact (hheard _).tables (hlost := Bool.eq_false_iff.2 hpresent)

/-- Store-lost stops the silence timer (R188). -/
theorem State.timersKept.enterStoreLost (h : s.timersKept) : s.enterStoreLost.timersKept := by
  have hlost : ({ s with storeLost := true, silenceTimer := none, framer := .hunt } :
      State).timersKept :=
    (timersKept_iff _).2 ⟨h.sample, by simp, fun _ _ hst => h.story hst, h.limits⟩
  exact ((hlost.frame (onlyChanges_attendAll _ _ _)).frame
    (onlyChanges_discardOpenFrames _)).pageWork (pageWork_abandon _ _)

/-- The sample timer is set again as it expires (R59). -/
theorem State.timersKept.sampleAgain (h : s.timersKept) (hset : s.sampleTimer.isSome = true)
    (due : Nat) : ({ s with sampleTimer := some due } : State).timersKept :=
  (timersKept_iff _).2
    ⟨iff_of_true rfl (h.sample.1 hset), h.silence, fun _ _ hst => h.story hst, h.limits⟩

/-! ### Restarts (R20, R54, R191) -/

/-- A restart stops the sample timer and starts the silence timer, while LOADING (R191). -/
theorem timersKept_relink (cause : RestartCause)
    (hstory : ∀ n st, s.story? n = some st → st.timed .loading) (hlimits : ∀ d, (s.desk d).r ≤ 7) :
    (s.relink cause).timersKept := by
  unfold State.relink
  refine State.timersKept.offer ?_ _
  exact (timersKept_iff _).2 ⟨iff_of_false nofun nofun, iff_of_true rfl rfl, hstory, hlimits⟩

theorem State.timersKept.restartLines (h : s.timersKept) : s.restartLines.timersKept :=
  (h.frame (State.onlyChanges.foldl _ (fun s l => onlyChanges_beginCycle s l 0) allLines s)).frame
    (onlyChanges_tsLine _)

theorem timersKept_coldRestart (s : State) (cause : RestartCause) :
    (s.coldRestart cause).timersKept := by
  unfold State.coldRestart
  refine State.timersKept.restartLines (timersKept_relink cause nofun fun _ => ?_)
  exact (by decide : Desk.initial.r ≤ 7)

theorem storyAt_warmBlocks (n : Nat) :
    s.warmBlocks.story? n = (s.story? n).map Story.afterWarm := by
  have hkept : (s.abandonSend .restart).story? n = s.story? n :=
    congrArg (Table.get none · n) (onlyChanges_abandonSend s .restart .stories (by decide)).symm
  rw [← hkept]
  exact Table.get_update_keys none (Option.map Story.afterWarm)
    (fun o => by cases o <;> simp [Story.afterWarm_afterWarm]) rfl _ n

theorem State.timersKept.warmRestart (h : s.timersKept) : s.warmRestart.timersKept := by
  have hdesks : ∀ d, s.desk d = s.warmBlocks.desk d := fun d =>
    congrArg (Table.get Desk.initial · d) (onlyChanges_abandonSend s .restart .desks (by decide))
  have hlinked : (s.warmBlocks.relink .warmOrder).timersKept := by
    refine timersKept_relink _ (fun n st hst => ?_) fun d => hdesks d ▸ h.limits d
    rw [storyAt_warmBlocks] at hst
    obtain ⟨st', hst', rfl⟩ := Option.map_eq_some_iff.1 hst
    exact Story.timed_afterWarm (h.story hst')
  unfold State.warmRestart
  refine State.timersKept.restartLines ?_
  split
  · exact hlinked.pageWork (pageWork_afterSend _ _)
  · exact hlinked

theorem State.timersKept.orderedRestart (h : s.timersKept) (k : RestartKind) :
    (s.orderedRestart k).timersKept := by
  cases k with
  | full => exact timersKept_coldRestart s .fullOrder
  | warm => exact h.warmRestart

end

end Sys2Proof.Machine
end

section
/-! SUPPORT. Every command, and so every step, has the timers and reminders run exactly where the rules have them
run (R45 to R54, R59, R185, R188, R189). -/

namespace Sys2Proof.Machine

/-! ### Judging -/

/-- Whatever state a meaning answers, the timers and reminders run there as they are to run. -/
def Answer.timed (a : Answer) : Prop := ∀ t, a = .next t → t.timersKept

theorem timed_next {t : State} (h : t.timersKept) : Answer.timed (.next t) := by
  rintro _ ⟨⟩
  exact h

theorem State.timersKept.judge {s : State} (h : s.timersKept) {kind : Byte} {ident : Option Nat}
    {checks : List (Bool × Code)} {taken : State}
    (htaken : firstRefusal checks = none → taken.timersKept) :
    (s.judge kind ident checks taken).timersKept := by
  unfold State.judge
  split
  · exact h.refuseOrder _ _ _
  · exact htaken ‹_›

theorem State.timersKept.judgeRequest {s : State} (h : s.timersKept) {t : Nat} {q : RequestKind}
    {known full : Option Nat} {checks : List (Bool × Code)} {taken : State}
    (htaken : firstRefusal checks = none → taken.timersKept) :
    (s.judgeRequest t q known full checks taken).timersKept := by
  unfold State.judgeRequest
  split
  · exact h.attend _ _
  · exact htaken ‹_›

section
variable {s : State} (h : s.timersKept)
include h

theorem State.timersKept.takeFrame (kind : Byte) (body : List Byte) {judge : State → State}
    (hjudge : ∀ u : State, u.timersKept → (judge u).timersKept) :
    (s.takeFrame kind body judge).timersKept := by
  unfold State.takeFrame
  split
  · exact State.timersKept.refuseOrder h.tables _ _ _
  · split
    · exact h.hearFrame
    · exact hjudge _ h.hearFrame

/-- An order keeps the invariant when its judging of a body that has been read does. -/
theorem timed_order {α : Type} {kind : Byte} {body : List Byte} {ident : Option Nat}
    {fields : Option α} {judge : State → α → State}
    (hjudge : ∀ (u : State) (x : α), u.timersKept → (judge u x).timersKept) :
    Answer.timed (.next (s.takeFrame kind body fun u => u.readBody kind ident fields (judge u))) := by
  refine timed_next (h.takeFrame kind body fun u hu => ?_)
  unfold State.readBody
  split
  · exact hu.refuseOrder _ _ _
  · exact hjudge u _ hu

end

section
variable {s : State} (h : s.timersKept) (hs : s.standsBut none)
include h hs

/-- The content of an answer is acted on after the liveness update, and the line turn follows (R85, R87). -/
theorem timed_answer (l : LineId) (drop size : Nat) {content : State → State}
    (hcontent : ∀ u : State, u.timersKept → u.standsBut none → (content u).timersKept) :
    Answer.timed (.next (s.takeAnswer l drop size content)) := by
  have hupdated := h.frame (onlyChanges_answerLiveness s (terminalOf l drop))
  refine timed_next ?_
  unfold State.takeAnswer
  split
  case h_1 =>
    split
    · exact (h.miss hs _).lineTurn l
    · split
      · refine State.timersKept.lineTurn ?_ l
        unfold State.applyAnswer
        dsimp only
        split
        · exact hcontent _ hupdated (hs.kept (moves_answerLiveness s _))
        · exact hupdated
      · exact h
  all_goals exact h

theorem timed_request {α : Type} {l : LineId} {drop : Nat} {q : RequestKind} {args : List Byte}
    {read : List Byte → Option α} {judge : State → Nat → α → State}
    (hjudge : ∀ (u : State) (x : α), u.timersKept → u.standsBut none →
      (judge u (terminalOf l drop) x).timersKept) :
    Answer.timed (.next (s.takeRequest l drop q args read judge)) := by
  refine timed_answer h hs l drop _ fun u hu hus => ?_
  split
  · exact hu.attend _ _
  · exact hjudge u _ hu hus

end

/-! ### Orders -/

section
variable {s : State} (h : s.timersKept) (b : List Byte)
include h

theorem timed_idle : Answer.timed (execIdle b s) :=
  timed_order h fun _ _ hu => hu.judge fun _ => hu.takeIdle

theorem timed_run : Answer.timed (execRun b s) :=
  timed_order h fun u _ hu => hu.judge fun hchecks => by
    rw [firstRefusal_cons, beq_eq_false_iff_ne] at hchecks
    refine hu.takeRun ?_
    cases hpart : u.part with
    | loading => rfl
    | running => exact absurd hpart hchecks.1

theorem timed_restart : Answer.timed (execRestart b s) := by
  refine timed_order h fun u _ hu => ?_
  split
  · exact hu.refuseOrder _ _ _
  · unfold State.takeRestart
    split
    · exact hu.orderedRestart _
    · exact hu.tables

/-- A LOAD DESK holds R to 7 at most (R22, R23). -/
theorem timed_loadDesk : Answer.timed (execLoadDesk b s) :=
  timed_order h fun _ x hu => hu.judge fun _ =>
    (hu.putDesk x.desk (Nat.max_le.2 ⟨by decide, Nat.min_le_left _ _⟩)).frame
      (onlyChanges_deskTurns _ _ _ _)

theorem timed_read : Answer.timed (execRead b s) := by
  refine timed_order h fun u _ hu => ?_
  unfold State.judgeRead
  split
  · exact hu.refuseOrder _ _ _
  · exact hu.frame (onlyChanges_answerStatus u)
  · exact hu.judge fun _ => hu.offer _

theorem timed_announce : Answer.timed (execAnnounce b s) := by
  refine timed_order h fun u x hu => hu.judge fun _ => ?_
  unfold State.takeAnnounce
  split
  · exact hu
  · exact hu.createStory _ _ _ _ _

theorem timed_revise : Answer.timed (execRevise b s) :=
  timed_order h fun _ x hu => hu.judge fun _ => hu.takeRevise x.1 x.2

theorem timed_move : Answer.timed (execMove b s) :=
  timed_order h fun _ _ hu => hu.judge fun hchecks => by
    simp only [State.moveChecks, firstRefusal_cons, isFree_eq_false] at hchecks
    obtain ⟨-, hlive, -⟩ := hchecks
    exact hu.takeMove hlive _ _

theorem timed_pull : Answer.timed (execPull b s) :=
  timed_order h fun _ _ hu => hu.judge fun hchecks => by
    simp only [State.pullChecks, firstRefusal_cons, isFree_eq_false] at hchecks
    obtain ⟨-, hlive, -⟩ := hchecks
    exact hu.takePull hlive _ _ _

theorem timed_place : Answer.timed (execPlace b s) :=
  timed_order h fun _ x hu => hu.judge fun _ => hu.takePlace x.1 x.2

theorem timed_typesetMode : Answer.timed (execTypesetMode b s) := by
  refine timed_order h fun u _ hu => ?_
  split
  · exact hu.refuseOrder _ _ _
  · exact (hu.pageWork (pageWork_putTypesetter u _)).startTest

end

/-! ### Events -/

section
variable {s : State} (h : s.timersKept)
include h

theorem timed_failFrame (kind : Byte) (code : Code) :
    Answer.timed (.next (s.failFrame kind code)) :=
  timed_next (State.timersKept.refuseOrder h.tables _ _ _)

theorem timed_fullRestart : Answer.timed (execFullRestart s) := by
  refine timed_next ?_
  split
  · exact h.orderedRestart _
  · exact h

theorem timed_warmRestart : Answer.timed (execWarmRestart s) := by
  refine timed_next ?_
  split
  · exact h.orderedRestart _
  · exact h

theorem timed_noticeFrameEnd : Answer.timed (execNoticeFrameEnd s) := by
  refine timed_next ?_
  split
  · exact h
  · split
    · exact h.orderedRestart _
    · exact State.timersKept.frame h.tables (onlyChanges_startNotice { s with sending := none })

theorem timed_pageCallOwedOffered : Answer.timed (execPageCallOwedOffered s) := by
  refine timed_next ?_
  split
  · exact h
  · split
    · exact h.pageWork (pageWork_offerCall s)
    · exact h

theorem timed_storeSilenceExpiry : Answer.timed (execStoreSilenceExpiry s) := by
  refine timed_next ?_
  split
  · exact h
  · exact (h.reach _).enterStoreLost

theorem timed_samplePeriod : Answer.timed (execSamplePeriod s) := by
  refine timed_next ?_
  split
  · exact h
  · rename_i due hdue
    have hagain := (h.reach due).sampleAgain (by rw [State.reach, hdue]; rfl)
      ((s.reach due).after s.timing.samplePeriod)
    exact (hagain.frame (State.onlyChanges.foldl _ onlyChanges_periodAtDesk _ _)).frame
      (onlyChanges_stream _)

theorem timed_dataTimerExpiry : Answer.timed (execDataTimerExpiry s) := by
  refine timed_next ?_
  split
  · exact h
  · exact (h.reach _).pageWork (pageWork_abandon _ _)

theorem timed_waitTimerExpiry : Answer.timed (execWaitTimerExpiry s) := by
  refine timed_next ?_
  split
  · exact h
  · exact (h.reach _).pageWork (pageWork_stall _)

/-- A reminder that expires is one of a live story, while the part is RUNNING (R45, R50). -/
theorem timed_nudgeExpiry (n : Nat) : Answer.timed (execNudgeExpiry n s) := by
  refine timed_next ?_
  split
  · exact h
  · rename_i due hdue
    have hlive : s.story? n ≠ none := fun hfree => by
      rw [nudgeDue_eq_none (.inr (.inr hfree))] at hdue
      cases hdue
    have hrun : s.part = .running := by
      by_contra hload
      rw [State.nudgeDue, if_neg hload] at hdue
      cases hdue
    rw [nudgeDue_of_live hrun (live_of_not_free hlive)] at hdue
    exact (h.reach due).nudge (s := s.reach due) (live_of_not_free hlive)
      (Option.isSome_of_eq_some hdue)

section
variable (l : LineId)

theorem timed_pollFrameSent : Answer.timed (execPollFrameSent l s) := by
  refine timed_next ?_
  split
  · exact h.frame (onlyChanges_putLine _ _ _)
  all_goals exact h

theorem timed_idleWaitExpiry : Answer.timed (execIdleWaitExpiry l s) := by
  refine timed_next ?_
  split
  · exact (h.reach _).lineTurn l
  all_goals exact h

theorem timed_outputFrameEnd : Answer.timed (execOutputFrameEnd l s) := by
  refine timed_next ?_
  split
  · exact State.timersKept.lineTurn h.tables l
  all_goals exact h

variable (hs : s.standsBut none)
include hs

theorem timed_badAnswerFrame : Answer.timed (execBadAnswerFrame l s) := by
  refine timed_next ?_
  split
  · exact (h.miss hs _).lineTurn l
  all_goals exact h

theorem timed_pollWindowExpiry : Answer.timed (execPollWindowExpiry l s) := by
  refine timed_next ?_
  split
  · exact ((h.reach _).miss (hs.kept (moves_reach s _)) _).lineTurn l
  all_goals exact h

end

end

/-! ### Requests -/

section
variable {s : State} (h : s.timersKept) (hs : s.standsBut none) (l : LineId) (drop : Nat)
  (args : List Byte)
include h hs

theorem timed_get : Answer.timed (execGet l drop args s) := by
  refine timed_request h hs fun u named hu _ => hu.judgeRequest fun hchecks => ?_
  simp only [State.getChecks, firstRefusal_append, firstRefusal_cons, Bool.or_eq_false_iff,
    beq_eq_false_iff_ne] at hchecks
  obtain ⟨hrequest, ⟨hset, hspiked⟩, hheld, -⟩ := hchecks
  exact hu.holdStory (live_of_requestChecks hrequest) (filed_of_ne hheld hset hspiked) _ _

theorem timed_getNext : Answer.timed (execGetNext l drop args s) := by
  refine timed_request h hs fun u _ hu hus => hu.judgeRequest fun hchecks => ?_
  simp only [State.getNextChecks, firstRefusal_cons] at hchecks
  obtain ⟨-, -, -, hsome, -⟩ := hchecks
  cases hnext : u.nextUnheld (terminalOf l drop) with
  | none => rw [hnext] at hsome; cases hsome
  | some n =>
    obtain ⟨hst, hfiled⟩ := nextUnheld_filed hus hnext
    exact hu.holdStory hst hfiled _ _

theorem timed_send : Answer.timed (execSend l drop args s) := by
  refine timed_request h hs fun u x hu _ => hu.judgeRequest fun hchecks => ?_
  simp only [State.sendChecks, firstRefusal_append] at hchecks
  exact hu.takeSend (live_of_requestChecks hchecks.1) _ _ _ _

theorem timed_returnStory : Answer.timed (execReturn l drop args s) := by
  refine timed_request h hs fun u named hu _ => hu.judgeRequest fun hchecks => ?_
  simp only [State.returnChecks, firstRefusal_append, firstRefusal_cons, Bool.not_eq_false',
    heldBy_iff] at hchecks
  obtain ⟨hrequest, ⟨hheld, -⟩, -⟩ := hchecks
  exact hu.takeReturn (live_of_requestChecks hrequest) hheld _

theorem timed_spike : Answer.timed (execSpike l drop args s) := by
  refine timed_request h hs fun u named hu _ => hu.judgeRequest fun hchecks => ?_
  simp only [State.spikeChecks, firstRefusal_append] at hchecks
  exact hu.takeSpike (live_of_requestChecks hchecks.1) _

theorem timed_pullRequest : Answer.timed (execPullRequest l drop args s) := by
  refine timed_request h hs fun u x hu _ => hu.judgeRequest fun hchecks => ?_
  simp only [State.pullRequestChecks, firstRefusal_append] at hchecks
  exact (hu.takePull (live_of_requestChecks hchecks.1) _ _ _).frame (onlyChanges_done _ _ _ _ _)

end

/-! ### Every command, and every step -/

/-- Every command has the timers and reminders run where they are to run. -/
theorem timed_exec {s : State} (h : s.timersKept) (hs : s.standsBut none) (c : Instr) :
    Answer.timed (exec c s) := by
  cases c with
  | idle b => exact timed_idle h b
  | run b => exact timed_run h b
  | restart b => exact timed_restart h b
  | ackRestart b => exact timed_order h fun _ _ hu => hu.tables
  | loadDesk b => exact timed_loadDesk h b
  | loadRoute b => exact timed_order h fun _ _ hu => hu.judge fun _ => hu.tables
  | loadDiversion b => exact timed_order h fun _ _ hu => hu.judge fun _ => hu.tables
  | loadTerminal b =>
    exact timed_order h fun u x hu => hu.judge fun _ => hu.frame (onlyChanges_takeLoadTerminal u x)
  | setPressure b =>
    exact timed_order h fun _ x hu => hu.judge fun _ => hu.putDesk x.1 (hu.limits x.1)
  | reseed b =>
    exact timed_order h fun u x hu => hu.judge fun _ => hu.frame (onlyChanges_takeReseed u x.toNat)
  | setTiming b => exact timed_order h fun _ _ hu => hu.tables
  | setReporting b => exact timed_order h fun _ _ hu => hu.tables
  | read b => exact timed_read h b
  | readStatus b => exact timed_order h fun u _ hu => hu.frame (onlyChanges_answerStatus u)
  | announce b => exact timed_announce h b
  | revise b => exact timed_revise h b
  | purge b => exact timed_order h fun _ n hu => hu.judge fun _ => hu.takePurge n
  | move b => exact timed_move h b
  | pull b => exact timed_pull h b
  | screen b | screenContinuation b =>
    exact timed_order h fun u x hu => hu.judge fun _ => hu.frame (onlyChanges_takeScreen u x)
  | planEdition b =>
    exact timed_order h fun u _ hu => hu.judge fun _ => hu.pageWork (pageWork_putEdition u _ _)
  | startEdition b =>
    exact timed_order h fun u x hu => hu.judge fun _ => hu.pageWork (pageWork_takeStart u x.toNat)
  | closeEdition b =>
    exact timed_order h fun u x hu => hu.judge fun _ => hu.pageWork (pageWork_takeClose u x.toNat)
  | sealEdition b =>
    exact timed_order h fun u x hu => hu.judge fun _ => hu.pageWork (pageWork_takeSeal u x.toNat)
  | makePage b =>
    exact timed_order h fun u x hu => hu.judge fun _ =>
      hu.pageWork (pageWork_takeMakePage u x.1 x.2)
  | place b => exact timed_place h b
  | lift b =>
    exact timed_order h fun u n hu => hu.judge fun _ => hu.pageWork (pageWork_takeLift u n)
  | release b =>
    exact timed_order h fun u x hu => hu.judge fun _ => hu.pageWork (pageWork_takeRelease u x.toNat)
  | replate b =>
    exact timed_order h fun u x hu => hu.judge fun _ => hu.pageWork (pageWork_takeReplate u x.toNat)
  | dropPage b =>
    exact timed_order h fun u x hu => hu.judge fun _ =>
      hu.pageWork (pageWork_takeDropPage u x.toNat)
  | typesetMode b => exact timed_typesetMode h b
  | abortSend b =>
    exact timed_order h fun u _ hu =>
      hu.pageWork ((pageWork_abandon _ _).after (pageWork_putTypesetter u _))
  | pageData b =>
    exact timed_order h fun u x hu => hu.judge fun _ => hu.pageWork (pageWork_takePageData u x)
  | unknownOrder k b => exact timed_next (h.takeFrame k b fun _ hu => hu.refuseOrder _ _ _)
  | frameLengthOver k => exact timed_failFrame h k .framing
  | frameBadCheck k => exact timed_failFrame h k .check
  | powerOn | rstinRelease => exact timed_next (timersKept_coldRestart s _)
  | fullRestart => exact timed_fullRestart h
  | warmRestart => exact timed_warmRestart h
  | noticeFrameEnd => exact timed_noticeFrameEnd h
  | pageCallOwedOffered => exact timed_pageCallOwedOffered h
  | storeSilenceExpiry => exact timed_storeSilenceExpiry h
  | pollFrameSent l => exact timed_pollFrameSent h l
  | nil l d k b => exact timed_answer h hs l d _ fun _ hu _ => hu
  | keys l d b => exact timed_answer h hs l d _ fun u hu _ => hu.frame (onlyChanges_takeKeys u _ b)
  | get l d a => exact timed_get h hs l d a
  | getNext l d a => exact timed_getNext h hs l d a
  | send l d a => exact timed_send h hs l d a
  | returnStory l d a => exact timed_returnStory h hs l d a
  | spike l d a => exact timed_spike h hs l d a
  | pullRequest l d a => exact timed_pullRequest h hs l d a
  | view l d a =>
    exact timed_request h hs fun u _ hu _ => hu.judgeRequest fun _ =>
      (hu.frame (onlyChanges_pushView u _ _)).offer _
  | back l d a =>
    exact timed_request h hs fun u _ hu _ => hu.judgeRequest fun _ =>
      hu.frame (onlyChanges_takeBack u _)
  | list l d a =>
    exact timed_request h hs fun u _ hu _ => hu.judgeRequest fun _ =>
      hu.frame (onlyChanges_appendFrame u _ _)
  | watch l d a =>
    exact timed_request h hs fun u _ hu _ => hu.judgeRequest fun _ =>
      hu.frame (onlyChanges_takeWatch u _ _)
  | unwatch l d a =>
    exact timed_request h hs fun u _ hu _ => hu.judgeRequest fun _ =>
      hu.frame (onlyChanges_takeUnwatch u _ _)
  | badAnswerFrame l => exact timed_badAnswerFrame h l hs
  | pollWindowExpiry l => exact timed_pollWindowExpiry h l hs
  | idleWaitExpiry l => exact timed_idleWaitExpiry h l
  | outputFrameEnd l => exact timed_outputFrameEnd h l
  | nudgeExpiry n => exact timed_nudgeExpiry h n
  | samplePeriod => exact timed_samplePeriod h
  | tsrdyAsserted =>
    exact timed_next (h.pageWork ((pageWork_tsProceed _).after (PageWrite.ready s _).work))
  | galleyBlockEnd r => exact timed_next (h.pageWork (pageWork_endBlock s r))
  | dataTimerExpiry => exact timed_dataTimerExpiry h
  | waitTimerExpiry => exact timed_waitTimerExpiry h
  | unknownRequest l d b =>
    exact timed_answer h hs l d _ fun u hu _ => hu.frame (onlyChanges_refuseUnknown u _ b)

/-- Settles O11: an idle step touches no timer but the clock, and every command keeps the invariant. -/
theorem timersFollowThePartState : Obligations.TimersFollowThePartState := by
  unfold Obligations.TimersFollowThePartState
  intro s t h hs hstep
  rw [storiesStand_iff] at hs
  unfold step at hstep
  split at hstep
  · cases hstep
    exact h.frame (onlyChanges_idleStep s)
  · rename_i c rest _
    have hrest : ({ s with pending := rest } : State).standsBut none :=
      hs.kept (moves_of_tables [] rfl rfl rfl)
    exact timed_exec (s := { s with pending := rest }) h.tables hrest c t hstep

end Sys2Proof.Machine
end

section
/-! SUPPORT. Desk pressure (R59 to R71): the load sample, one sample of a desk, and the sample period of every
desk in use. -/

namespace Sys2Proof.Machine

@[simp] theorem pressure_offer (s : State) (n : Notice) (d : Nat) :
    (s.offer n).pressure d = s.pressure d :=
  congrArg (Table.get Pressure.initial · d) (onlyChanges_offer s n .pressures (by decide)).symm

/-! ### The load sample (R61) -/

theorem Story.weight_eq (st : Story) (unheld : Nat) :
    st.weight unheld =
      unheld * (if !(st.state == .held) then 1 else 0) + if st.overdue then 1 else 0 := by
  unfold Story.weight
  congr 1
  · by_cases hheld : st.state = .held <;> simp [hheld]
  · cases st.overdue <;> rfl

/-- The weights of one tier's stories: the tier's weight for each unheld one, and one for each overdue one. -/
theorem sum_weight (s : State) (unheld : Nat) (ns : List Nat) :
    (ns.map fun n => (s.story n).weight unheld).sum =
      unheld * ns.countP (fun n => !((s.story n).state == .held)) +
        ns.countP (fun n => (s.story n).overdue) := by
  induction ns with
  | nil => rfl
  | cons n rest ih =>
    rw [List.map_cons, List.sum_cons, ih, List.countP_cons, List.countP_cons, Story.weight_eq]
    ring

theorem pressure_sampleDesk (s : State) (d j : Nat) :
    (s.sampleDesk d).pressure j =
      if j = d then
        (s.pressure d).sampled (s.desk d).params s.editionRunning (s.loadSample d)
      else s.pressure j := by
  unfold State.sampleDesk
  dsimp only
  split <;> simp

/-- Settles O25: the weights of each tier are summed by `sum_weight`. -/
theorem loadSampleCountsTheBasket : Obligations.LoadSampleCountsTheBasket := by
  unfold Obligations.LoadSampleCountsTheBasket
  intro s d unheld overdue b
  refine ⟨?_, by rw [pressure_sampleDesk, if_pos rfl]; rfl⟩
  rw [State.loadSample, sum_weight, sum_weight, List.countP_append, Nat.one_mul]
  exact congrArg (Nat.min 255) (Nat.add_add_add_comm ..)

/-! ### One sample (R62 to R68) -/

theorem exitMargin_le (p : PressureParams) (baseline : Nat) :
    exitMargin p baseline ≤ enterMargin p baseline := Nat.sub_le _ _

theorem sampleClass_eq_above_iff {p : PressureParams} {load baseline : Nat} :
    sampleClass p load baseline = .above ↔
      (enterMargin p baseline : Int) < deviation load baseline := by
  unfold sampleClass
  dsimp only
  split
  · exact iff_of_true rfl ‹_›
  · split <;> exact iff_of_false nofun ‹_›

theorem sampleClass_eq_below_iff {p : PressureParams} {load baseline : Nat} :
    sampleClass p load baseline = .below ↔
      deviation load baseline < (exitMargin p baseline : Int) := by
  have hle := exitMargin_le p baseline
  unfold sampleClass
  dsimp only
  split
  · exact iff_of_false nofun (by omega)
  · split
    · exact iff_of_true rfl ‹_›
    · exact iff_of_false nofun ‹_›

section
variable (p : PressureParams) (count : Nat) (c : SampleClass)

theorem surgeMove_calm : surgeMove p .calm count c =
    if c = .above then (if 1 ≥ p.enterDebounce then .surge else .rising, 1) else (.calm, 0) := by
  cases c <;> rfl

theorem surgeMove_rising : surgeMove p .rising count c =
    if c = .above then (if count + 1 ≥ p.enterDebounce then .surge else .rising, count + 1)
    else (.calm, 0) := by
  cases c <;> rfl

theorem surgeMove_surge : surgeMove p .surge count c =
    if c = .below then (if 1 ≥ p.exitDebounce then .calm else .easing, 1) else (.surge, count) := by
  cases c <;> rfl

theorem surgeMove_easing : surgeMove p .easing count c =
    if c = .below then (if count + 1 ≥ p.exitDebounce then .calm else .easing, count + 1)
    else (.surge, 0) := by
  cases c <;> rfl

end

/-- A baseline that moves goes up or down by its step, and not past the load (R68). -/
theorem moveBaseline_toward (beta load baseline : Nat) :
    (deviation load baseline = 0 → moveBaseline beta baseline (deviation load baseline) = baseline) ∧
    (0 < deviation load baseline →
      moveBaseline beta baseline (deviation load baseline) =
        baseline + baselineStep beta (deviation load baseline) ∧
      moveBaseline beta baseline (deviation load baseline) ≤ 256 * load) ∧
    (deviation load baseline < 0 →
      baselineStep beta (deviation load baseline) ≤ baseline ∧
      moveBaseline beta baseline (deviation load baseline) =
        baseline - baselineStep beta (deviation load baseline) ∧
      256 * load ≤ moveBaseline beta baseline (deviation load baseline)) := by
  have hstep := @baselineStep_le beta (deviation load baseline)
  have hdev : deviation load baseline = 256 * (load : Int) - (baseline : Int) := rfl
  unfold moveBaseline
  refine ⟨fun hzero => if_pos hzero, fun hpos => ?up, fun hneg => ?down⟩
  case up =>
    rw [if_neg (by omega), if_pos hpos]
    exact ⟨rfl, by omega⟩
  case down =>
    rw [if_neg (by omega), if_neg (by omega)]
    exact ⟨by omega, rfl, by omega⟩

theorem inSurge_eq_true_iff (x : SurgeState) : x.inSurge = true ↔ x = .surge ∨ x = .easing := by
  cases x <;> decide

theorem inSurge_eq_false_iff (x : SurgeState) : x.inSurge = false ↔ x = .calm ∨ x = .rising := by
  cases x <;> decide

/-- The baseline a sample leaves: the old one while it is held, and otherwise the moved one (R66 to R68). -/
theorem baseline_sampled (p : PressureParams) (running : Bool) (load : Nat) (x : Pressure) :
    (x.sampled p running load).baseline =
      if p.hold = true ∧ (x.sampled p running load).surge.inSurge = true then x.baseline
      else moveBaseline (chooseBeta p running (deviation load x.baseline)) x.baseline
        (deviation load x.baseline) := by
  simp only [Pressure.sampled, Bool.and_eq_true]

theorem surge_count_of_ite {P : Prop} [Decidable P] {y : Pressure} {a b : SurgeState × Nat}
    (h : (y.surge, y.count) = if P then a else b) :
    (P → y.count = a.2 ∧ y.surge = a.1) ∧ (¬P → y.count = b.2 ∧ y.surge = b.1) := by
  refine ⟨fun hp => ?_, fun hn => ?_⟩
  · rw [if_pos hp] at h; exact ⟨congrArg Prod.snd h, congrArg Prod.fst h⟩
  · rw [if_neg hn] at h; exact ⟨congrArg Prod.snd h, congrArg Prod.fst h⟩

/-- Settles O26: the class is decided by the margins, the state machine moves by its table, and the baseline
moves by `moveBaseline_toward` unless it is held. -/
theorem sampleMovesTheDesk : Obligations.SampleMovesTheDesk := by
  unfold Obligations.SampleMovesTheDesk
  intro p running load x y gap enter exit beta m
  have hmove : (y.surge, y.count) = surgeMove p x.surge x.count (sampleClass p load x.baseline) := rfl
  have habove : sampleClass p load x.baseline = .above ↔ (enter : Int) < gap :=
    sampleClass_eq_above_iff
  have hbelow : sampleClass p load x.baseline = .below ↔ gap < (exit : Int) :=
    sampleClass_eq_below_iff
  have hbase : y.baseline = if p.hold = true ∧ y.surge.inSurge = true then x.baseline
      else moveBaseline beta x.baseline gap := baseline_sampled p running load x
  refine ⟨rfl, rfl, fun hx => ?calm, fun hx => ?rising, fun hx => ?surge, fun hx => ?easing,
    fun hhold hsurge => ?held, fun hfree => ?moved⟩
  case calm =>
    rw [hx, surgeMove_calm] at hmove
    simp only [habove] at hmove
    obtain ⟨hup, hstay⟩ := surge_count_of_ite hmove
    exact ⟨hup, fun hle => hstay (not_lt.2 hle)⟩
  case rising =>
    rw [hx, surgeMove_rising] at hmove
    simp only [habove] at hmove
    obtain ⟨hup, hback⟩ := surge_count_of_ite hmove
    exact ⟨fun hgt => (hup hgt).imp_right fun hs => (hup hgt).1 ▸ hs, fun hle => hback (not_lt.2 hle)⟩
  case surge =>
    rw [hx, surgeMove_surge] at hmove
    simp only [hbelow] at hmove
    obtain ⟨hdown, hstay⟩ := surge_count_of_ite hmove
    exact ⟨hdown, fun hle => hstay (not_lt.2 hle)⟩
  case easing =>
    rw [hx, surgeMove_easing] at hmove
    simp only [hbelow] at hmove
    obtain ⟨hdown, hback⟩ := surge_count_of_ite hmove
    exact ⟨fun hlt => (hdown hlt).imp_right fun hs => (hdown hlt).1 ▸ hs,
      fun hle => hback (not_lt.2 hle)⟩
  case held => rw [hbase, if_pos ⟨hhold, (inSurge_eq_true_iff _).2 hsurge⟩]
  case moved =>
    have hnot : ¬ (p.hold = true ∧ y.surge.inSurge = true) := by
      rintro ⟨hhold, hin⟩
      rw [hhold, ← inSurge_eq_false_iff, hin] at hfree
      simp at hfree
    rw [hbase, if_neg hnot]
    exact moveBaseline_toward beta load x.baseline

/-! ### A report where the queue has room (R179, R180) -/

/-- PRESSURE reports are enabled, a notice is being sent, and the next `k` reports find room: each leaves the
8 entries that the next one needs (R180, R181). -/
structure State.reportRoom (s : State) (k : Nat) : Prop where
  enabled : s.reporting.pressure = true
  busy : s.sending.isSome = true
  room : s.queue.length + k + 7 ≤ 64

/-- A PRESSURE notice that finds room joins the queue, and nothing else changes. -/
theorem State.reportRoom.offer {s : State} {k : Nat} (h : s.reportRoom (k + 1)) {n : Notice}
    (hn : n.noticeClass = .report .pressure) : s.offer n = { s with queue := s.queue ++ [n] } := by
  obtain ⟨henabled, hbusy, hroom⟩ := h
  obtain ⟨m, hm⟩ := Option.isSome_iff_exists.1 hbusy
  have hfree : Config.reportReserve ≤ s.noticeFree := by
    simp only [State.noticeFree, Config.reportReserve, Config.noticeEntries]; omega
  simp only [State.offer, hn, Reporting.enabled, henabled, if_true, hfree, State.admitNotice,
    State.startNotice, hm]

/-! ### One desk's part of a sample period (R60, R65, R70, R75) -/

/-- The pressure state that a sample period leaves of desk `d` (R60, R75). -/
def State.periodPressure (s : State) (d : Nat) : Pressure :=
  if (s.desk d).inUse = true then
    if (s.pressure d).reseedPending = true then Pressure.reseeded (s.loadSample d)
    else (s.pressure d).sampled (s.desk d).params s.editionRunning (s.loadSample d)
  else s.pressure d

/-- Desk `d` takes a sample that brings it into or out of surge (R65). -/
def State.surgeTurns (s : State) (d : Nat) : Bool :=
  (s.desk d).inUse && !(s.pressure d).reseedPending &&
    ((s.pressure d).surge.inSurge != (s.periodPressure d).surge.inSurge)

/-- The PRESSURE EVENT of such a sample (R70). -/
def State.sampleEvent (s : State) (d : Nat) : Notice :=
  .pressureEvent d (s.periodPressure d).surge.inSurge .sample (s.periodPressure d).load
    (roundBaseline (s.periodPressure d).baseline)

theorem pressure_periodAtDesk (s : State) (d j : Nat) :
    (s.periodAtDesk d).pressure j = if j = d then s.periodPressure d else s.pressure j := by
  unfold State.periodAtDesk State.periodPressure
  split
  · split
    · exact State.pressure_putPressure _ _ _ _
    · exact pressure_sampleDesk s d j
  · split <;> simp_all

/-- A desk that a sample brings into or out of surge has its event join the queue; a reseed gives none. -/
theorem State.reportRoom.periodAtDesk_notices {s : State} {k : Nat} (h : s.reportRoom (k + 1))
    (d : Nat) :
    (s.periodAtDesk d).queue =
        s.queue ++ (if s.surgeTurns d = true then [s.sampleEvent d] else []) ∧
      (s.periodAtDesk d).sending = s.sending := by
  have hput : ∀ x, (s.putPressure d x).reportRoom (k + 1) := fun _ => ⟨h.enabled, h.busy, h.room⟩
  unfold State.periodAtDesk State.surgeTurns State.sampleEvent State.periodPressure
  by_cases huse : (s.desk d).inUse = true
  · by_cases hmark : (s.pressure d).reseedPending = true
    · simp [huse, hmark, State.reseedDesk]
    · rw [if_pos huse, if_neg hmark, if_pos huse, if_neg hmark]
      unfold State.sampleDesk
      dsimp only
      rw [State.pressure_putPressure, if_pos rfl]
      split
      · simp [*]
      · rw [(hput _).offer rfl]
        simp [*, State.pressureEventOf]
  · simp [huse]

theorem State.reportRoom.periodAtDesk {s : State} {k : Nat} (h : s.reportRoom (k + 1)) (d : Nat) :
    (s.periodAtDesk d).reportRoom k := by
  obtain ⟨hqueue, hsending⟩ := h.periodAtDesk_notices d
  have hreporting : s.reporting = (s.periodAtDesk d).reporting :=
    onlyChanges_periodAtDesk s d .reporting (by decide)
  have hroom := h.room
  refine ⟨hreporting ▸ h.enabled, hsending ▸ h.busy, ?_⟩
  rw [hqueue, List.length_append]
  split <;> simp <;> omega

/-! ### Every desk in turn (R60) -/

/-- What a sample period may change (R59, R60, R71, log 1). -/
def sampleFields : List Field := [.now, .sampleTimer, .pressures, .countdown] ++ noticeFields

section
variable {s t : State} (h : s.onlyChanges sampleFields t) {d : Nat}
  (hp : t.pressure d = s.pressure d)
include h

theorem desk_of_sampleFields (d : Nat) : t.desk d = s.desk d :=
  congrArg (Table.get Desk.initial · d) (h .desks (by decide)).symm

theorem loadSample_of_sampleFields (d : Nat) : t.loadSample d = s.loadSample d := by
  have hbaskets : s.baskets = t.baskets := h .baskets (by decide)
  have hstories : s.stories = t.stories := h .stories (by decide)
  unfold State.loadSample State.basket State.story State.story?
  rw [hbaskets, hstories]

theorem editionRunning_of_sampleFields : t.editionRunning = s.editionRunning :=
  congrArg (fun tab : Table Edition => tab.any fun e => e.2.state == .running)
    (h .editions (by decide)).symm

include hp

/-- A desk's part of a sample period reads nothing that another desk's part writes (R60). -/
theorem periodPressure_of_sampleFields : t.periodPressure d = s.periodPressure d := by
  unfold State.periodPressure
  rw [desk_of_sampleFields h, loadSample_of_sampleFields h, editionRunning_of_sampleFields h, hp]

theorem surgeTurns_of_sampleFields : t.surgeTurns d = s.surgeTurns d := by
  unfold State.surgeTurns
  rw [desk_of_sampleFields h, periodPressure_of_sampleFields h hp, hp]

theorem sampleEvent_of_sampleFields : t.sampleEvent d = s.sampleEvent d := by
  unfold State.sampleEvent
  rw [periodPressure_of_sampleFields h hp]

end

theorem periodAtDesk_sampleFields (s : State) (d : Nat) :
    s.onlyChanges sampleFields (s.periodAtDesk d) :=
  (onlyChanges_periodAtDesk s d).mono (by decide)

theorem pressure_foldl_periodAtDesk {ds : List Nat} (hds : ds.Nodup) (s : State) (j : Nat) :
    (ds.foldl State.periodAtDesk s).pressure j =
      if j ∈ ds then s.periodPressure j else s.pressure j := by
  induction ds generalizing s with
  | nil => simp
  | cons d rest ih =>
    obtain ⟨hd, hrest⟩ := List.nodup_cons.1 hds
    rw [List.foldl_cons, ih hrest, pressure_periodAtDesk]
    by_cases hj : j = d
    · subst hj; simp [hd]
    · have hkeep : (s.periodAtDesk d).pressure j = s.pressure j := by
        rw [pressure_periodAtDesk, if_neg hj]
      simp [hj, periodPressure_of_sampleFields (periodAtDesk_sampleFields s d) hkeep]

/-- Each desk's event joins the queue in its turn, and the room for what follows is kept. -/
theorem State.reportRoom.foldl_periodAtDesk {ds : List Nat} (hds : ds.Nodup) {s : State} {k : Nat}
    (h : s.reportRoom (k + ds.length)) :
    (ds.foldl State.periodAtDesk s).queue =
        s.queue ++ (ds.filter s.surgeTurns).map s.sampleEvent ∧
      (ds.foldl State.periodAtDesk s).reportRoom k := by
  induction ds generalizing s with
  | nil => exact ⟨(List.append_nil _).symm, h⟩
  | cons d rest ih =>
    obtain ⟨hd, hrest⟩ := List.nodup_cons.1 hds
    have hkeep : ∀ j ∈ rest, (s.periodAtDesk d).pressure j = s.pressure j := fun j hj => by
      rw [pressure_periodAtDesk, if_neg (ne_of_mem_of_not_mem hj hd)]
    have hframe := periodAtDesk_sampleFields s d
    have hturns : rest.filter (s.periodAtDesk d).surgeTurns = rest.filter s.surgeTurns :=
      List.filter_congr fun j hj => surgeTurns_of_sampleFields hframe (hkeep j hj)
    have hevents : (rest.filter s.surgeTurns).map (s.periodAtDesk d).sampleEvent =
        (rest.filter s.surgeTurns).map s.sampleEvent :=
      List.map_congr_left fun j hj =>
        sampleEvent_of_sampleFields hframe (hkeep j (List.mem_of_mem_filter hj))
    obtain ⟨hqueue, hroom⟩ := ih hrest (State.reportRoom.periodAtDesk h d)
    refine ⟨?_, hroom⟩
    rw [List.foldl_cons, hqueue, (State.reportRoom.periodAtDesk_notices h d).1, hturns, hevents,
      List.filter_cons]
    split <;> simp

/-! ### The sample timer's expiry (R59, R71) -/

/-- The countdown of a state that offers a PRESSURE REPORT at this sample period: 1, or the 0 that no order
sets (R71, R181). -/
def State.reportDue (s : State) : Bool := s.countdown.any fun k => k - 1 == 0

theorem pressure_stream (s : State) (d : Nat) : s.stream.pressure d = s.pressure d :=
  congrArg (Table.get Pressure.initial · d) (onlyChanges_stream s .pressures (by decide)).symm

theorem countdown_stream (s : State) :
    s.stream.countdown =
      s.countdown.map fun k => if k - 1 = 0 then s.streamPeriod else k - 1 := by
  have hoffer : ∀ (u : State) (n : Notice), (u.offer n).countdown = u.countdown := fun u n =>
    (onlyChanges_offer u n .countdown (by decide)).symm
  unfold State.stream
  split
  · simp [*]
  · split <;> simp [*]

theorem State.reportRoom.queue_stream {s : State} {k : Nat} (h : s.reportRoom (k + 1)) :
    s.stream.queue = s.queue ++ if s.reportDue = true then [s.pressureReportOf] else [] := by
  have hset : ({ s with countdown := some s.streamPeriod } : State).reportRoom (k + 1) :=
    ⟨h.enabled, h.busy, h.room⟩
  unfold State.stream State.reportDue
  split
  · simp [*]
  · split
    · rw [hset.offer rfl]; simp [*]
    · simp [*]

/-- The state in which the desks are sampled: the expiry is reached, and the next one is set (R59). -/
def State.sampleTimed (s : State) (due : Nat) : State :=
  { s.reach due with sampleTimer := some ((s.reach due).after s.timing.samplePeriod) }

theorem sampleTimed_sampleFields (s : State) (due : Nat) :
    s.onlyChanges sampleFields (s.sampleTimed due) := by
  intro f hf; cases f <;> first | rfl | exact absurd (by decide) hf

/-- The state in which the stream countdown falls: every desk has had its part of the period (R60). -/
def State.desksSampled (s : State) (due : Nat) : State :=
  (List.range 16).foldl State.periodAtDesk (s.sampleTimed due)

theorem desksSampled_sampleFields (s : State) (due : Nat) :
    s.onlyChanges sampleFields (s.desksSampled due) :=
  (sampleTimed_sampleFields s due).trans (.foldl _ periodAtDesk_sampleFields _ _)

theorem exec_samplePeriod {s : State} {due : Nat} (h : s.sampleTimer = some due) :
    exec .samplePeriod s = .next (s.desksSampled due).stream := by
  change execSamplePeriod s = _
  unfold execSamplePeriod
  rw [h]
  rfl

section
variable (s : State) (due : Nat)

theorem onlyChanges_desksSampled :
    (s.sampleTimed due).onlyChanges ([.pressures] ++ noticeFields) (s.desksSampled due) :=
  .foldl _ onlyChanges_periodAtDesk _ _

theorem pressure_desksSampled (d : Nat) :
    (s.desksSampled due).pressure d = if d < 16 then s.periodPressure d else s.pressure d := by
  simp only [State.desksSampled, pressure_foldl_periodAtDesk List.nodup_range, List.mem_range]
  rw [periodPressure_of_sampleFields (sampleTimed_sampleFields s due) rfl]
  rfl

theorem countdown_desksSampled : (s.desksSampled due).countdown = s.countdown :=
  (onlyChanges_desksSampled s due .countdown (by decide)).symm

theorem streamPeriod_desksSampled : (s.desksSampled due).streamPeriod = s.streamPeriod :=
  (onlyChanges_desksSampled s due .streamPeriod (by decide)).symm

theorem reportDue_desksSampled : (s.desksSampled due).reportDue = s.reportDue :=
  congrArg (Option.any _) (countdown_desksSampled s due)

theorem now_stream_desksSampled : (s.desksSampled due).stream.now = max s.now due :=
  ((onlyChanges_desksSampled s due .now (by decide)).trans
    (onlyChanges_stream (s.desksSampled due) .now (by decide))).symm

theorem sampleTimer_stream_desksSampled : (s.desksSampled due).stream.sampleTimer =
    some ((s.desksSampled due).stream.now + s.timing.samplePeriod * 1000) := by
  rw [now_stream_desksSampled]
  exact ((onlyChanges_desksSampled s due .sampleTimer (by decide)).trans
    (onlyChanges_stream (s.desksSampled due) .sampleTimer (by decide))).symm

/-- The events of the desks that turn join the queue, in ascending order, and room for a report is left. -/
theorem queue_desksSampled (h : s.reportRoom 17) :
    (s.desksSampled due).queue =
        s.queue ++ ((List.range 16).filter s.surgeTurns).map s.sampleEvent ∧
      (s.desksSampled due).reportRoom 1 := by
  have htimed : (s.sampleTimed due).reportRoom (1 + (List.range 16).length) := by
    rw [List.length_range]
    exact ⟨h.enabled, h.busy, h.room⟩
  have hturns : (s.sampleTimed due).surgeTurns = s.surgeTurns :=
    funext fun _ => surgeTurns_of_sampleFields (sampleTimed_sampleFields s due) rfl
  have hevents : (s.sampleTimed due).sampleEvent = s.sampleEvent :=
    funext fun _ => sampleEvent_of_sampleFields (sampleTimed_sampleFields s due) rfl
  have hsampled := htimed.foldl_periodAtDesk List.nodup_range
  rwa [hturns, hevents] at hsampled

/-- What joins the queue at a sample period: the events, and then the report where one is due (R70, R71). -/
theorem queue_stream_desksSampled (h : s.reportRoom 17) :
    (s.desksSampled due).stream.queue =
      s.queue ++ ((List.range 16).filter s.surgeTurns).map s.sampleEvent ++
        if s.reportDue = true then [(s.desksSampled due).pressureReportOf] else [] := by
  obtain ⟨hqueue, hroom⟩ := queue_desksSampled s due h
  rw [hroom.queue_stream, hqueue, reportDue_desksSampled]

end

/-- The events of a sample period, read off the pressure states it leaves (R70). -/
theorem sampleEvents_eq {s t : State} {ds : List Nat}
    (ht : ∀ d ∈ ds, t.pressure d = s.periodPressure d) :
    (ds.filter s.surgeTurns).map s.sampleEvent =
      (ds.filter fun d => (s.desk d).inUse && !(s.pressure d).reseedPending &&
        ((s.pressure d).surge.inSurge != (t.pressure d).surge.inSurge)).map fun d =>
          .pressureEvent d (t.pressure d).surge.inSurge .sample (t.pressure d).load
            (roundBaseline (t.pressure d).baseline) := by
  have hturns : ds.filter s.surgeTurns = ds.filter fun d =>
      (s.desk d).inUse && !(s.pressure d).reseedPending &&
        ((s.pressure d).surge.inSurge != (t.pressure d).surge.inSurge) :=
    List.filter_congr fun d hd => by rw [ht d hd]; rfl
  rw [← hturns]
  exact List.map_congr_left fun d hd => by rw [ht d (List.mem_of_mem_filter hd)]; rfl

/-- The report of a sample period shows the desks in use as the period leaves them (R71). -/
theorem pressureReportOf_desksSampled (s : State) (due : Nat) :
    (s.desksSampled due).pressureReportOf =
      .pressureReport (((List.range 16).filter fun d => (s.desk d).inUse).map fun d =>
        { desk := d, load := ((s.desksSampled due).stream.pressure d).load,
          rounded := roundBaseline ((s.desksSampled due).stream.pressure d).baseline,
          surge := ((s.desksSampled due).stream.pressure d).surge }) := by
  unfold State.pressureReportOf
  simp only [desk_of_sampleFields (desksSampled_sampleFields s due), pressure_stream]

theorem reportDue_iff {s : State} (h : s.countdown ≠ some 0) :
    s.reportDue = true ↔ s.countdown = some 1 := by
  unfold State.reportDue
  rcases hcount : s.countdown with _ | _ | k
  · simp
  · exact absurd hcount h
  · simp

/-- Refutes O27: the statement has no premise on the stream countdown. At a present countdown of 0, which no
order sets (R71, R181) but a state can hold, the model offers a PRESSURE REPORT, and the statement has the
queue gain one only at a countdown of 1. -/
theorem not_samplePeriodSamplesEveryDesk : ¬ Obligations.SamplePeriodSamplesEveryDesk := by
  unfold Obligations.SamplePeriodSamplesEveryDesk
  intro h
  obtain ⟨t, hexec, -, -, -, -, -, hqueue, -⟩ :=
    h { State.reset with sampleTimer := some 5000, countdown := some 0 } 5000 rfl
  have hgained : exec .samplePeriod
      { State.reset with sampleTimer := some 5000, countdown := some 0 } =
      .next { State.reset with
        now := 5000, sampleTimer := some 10000, countdown := some 0,
        queue := [.pressureReport []] } :=
    (exec_samplePeriod rfl).trans (congrArg Host.Outcome.next (by decide))
  obtain rfl := Host.Outcome.next.inj (hexec.symm.trans hgained)
  exact absurd (hqueue rfl rfl (by decide)) (by decide)

/-- All that O27 states holds wherever the stream countdown is not the 0 that refutes it. -/
theorem samplePeriod_of_countdown_ne_zero (s : State) (due : Nat) (h : s.sampleTimer = some due)
    (hcount : s.countdown ≠ some 0) : ∃ t, exec .samplePeriod s = .next t ∧
    let used := fun d => (s.desk d).inUse
    let flips := fun d => used d && !(s.pressure d).reseedPending &&
      ((s.pressure d).surge.inSurge != (t.pressure d).surge.inSurge)
    let whole := fun d => ((t.pressure d).baseline + 128) / 256
    t.now = max s.now due ∧
    t.sampleTimer = some (t.now + s.timing.samplePeriod * 1000) ∧
    (∀ d, t.pressure d =
      if d < 16 ∧ used d = true then
        if (s.pressure d).reseedPending then
          { load := s.loadSample d, baseline := 256 * s.loadSample d, surge := .calm, count := 0,
            reseedPending := false }
        else (s.pressure d).sampled (s.desk d).params
          (s.editions.any (fun e => e.2.state == .running)) (s.loadSample d)
      else s.pressure d) ∧
    (s.countdown = none → t.countdown = none) ∧
    (∀ k, s.countdown = some (k + 1) →
      t.countdown = if k = 0 then some s.streamPeriod else some k) ∧
    (s.reporting.pressure = true → s.sending.isSome = true → s.queue.length + 25 ≤ 64 →
      t.queue = s.queue ++
        ((List.range 16).filter flips).map (fun d =>
          .pressureEvent d (t.pressure d).surge.inSurge .sample (t.pressure d).load (whole d)) ++
        (if s.countdown = some 1 then
          [.pressureReport (((List.range 16).filter used).map (fun d =>
            { desk := d, load := (t.pressure d).load, rounded := whole d,
              surge := (t.pressure d).surge }))]
        else [])) ∧
    s.onlyChanges ([.now, .sampleTimer, .pressures, .countdown] ++ noticeFields) t := by
  have hpressure : ∀ d, (s.desksSampled due).stream.pressure d =
      if d < 16 then s.periodPressure d else s.pressure d := fun d =>
    (pressure_stream _ d).trans (pressure_desksSampled s due d)
  have hcountdown := countdown_stream (s.desksSampled due)
  rw [countdown_desksSampled, streamPeriod_desksSampled] at hcountdown
  refine ⟨_, exec_samplePeriod h, now_stream_desksSampled s due, sampleTimer_stream_desksSampled s due,
    fun d => ?pressure, fun hnone => ?absent, fun k hk => ?present, fun henabled hbusy hroom => ?queue,
    (desksSampled_sampleFields s due).trans ((onlyChanges_stream _).mono (by decide))⟩
  case pressure => rw [hpressure, State.periodPressure, ite_and]; rfl
  case absent => rw [hcountdown, hnone]; rfl
  case present => rw [hcountdown, hk]; exact apply_ite some _ _ _
  case queue =>
    have hturned : ∀ j ∈ List.range 16, (s.desksSampled due).stream.pressure j = s.periodPressure j :=
      fun j hj => (hpressure j).trans (if_pos (List.mem_range.1 hj))
    rw [queue_stream_desksSampled s due ⟨henabled, hbusy, by omega⟩, sampleEvents_eq hturned,
      pressureReportOf_desksSampled]
    simp only [reportDue_iff hcount]
    rfl

end Sys2Proof.Machine
end


section
/-! SUPPORT. The events of a terminal line (R84 to R87, R96, R97): each acts in its own activity, and in another
leaves the part as it is. The bytes of what a line carries (R199, R201). -/

namespace Sys2Proof.Machine

/-! ### Each event in its own activity, and in another (R84 to R86, R96, logs 3 and 16) -/

section
variable {s : State} {l : LineId}

theorem pollFrameSent_of_sendingPoll {p : Nat} (h : (s.line l).activity = .sendingPoll p) :
    exec (.pollFrameSent l) s = .next (s.putLine l
      { s.line l with activity := .awaiting p (s.now + (s.line l).window) .hunt }) := by
  change Host.Outcome.next _ = _
  rw [h]

theorem pollFrameSent_of_ne (h : ∀ p, (s.line l).activity ≠ .sendingPoll p) :
    exec (.pollFrameSent l) s = .next s := by
  change Host.Outcome.next _ = _
  split
  · exact absurd ‹_› (h _)
  all_goals rfl

theorem badAnswerFrame_of_awaiting {p due : Nat} {f : LineFramer}
    (h : (s.line l).activity = .awaiting p due f) :
    exec (.badAnswerFrame l) s = .next ((s.miss (terminalOf l p)).lineTurn l) := by
  change Host.Outcome.next _ = _
  rw [h]

theorem badAnswerFrame_of_ne (h : ∀ p due f, (s.line l).activity ≠ .awaiting p due f) :
    exec (.badAnswerFrame l) s = .next s := by
  change Host.Outcome.next _ = _
  split
  · exact absurd ‹_› (h _ _ _)
  all_goals rfl

theorem pollWindowExpiry_of_awaiting {p due : Nat} {f : LineFramer}
    (h : (s.line l).activity = .awaiting p due f) :
    exec (.pollWindowExpiry l) s = .next (((s.reach due).miss (terminalOf l p)).lineTurn l) := by
  change Host.Outcome.next _ = _
  rw [h]

theorem pollWindowExpiry_of_ne (h : ∀ p due f, (s.line l).activity ≠ .awaiting p due f) :
    exec (.pollWindowExpiry l) s = .next s := by
  change Host.Outcome.next _ = _
  split
  · exact absurd ‹_› (h _ _ _)
  all_goals rfl

theorem idleWaitExpiry_of_idleWait {due : Nat} (h : (s.line l).activity = .idleWait due) :
    exec (.idleWaitExpiry l) s = .next ((s.reach due).lineTurn l) := by
  change Host.Outcome.next _ = _
  rw [h]

theorem idleWaitExpiry_of_ne (h : ∀ due, (s.line l).activity ≠ .idleWait due) :
    exec (.idleWaitExpiry l) s = .next s := by
  change Host.Outcome.next _ = _
  split
  · exact absurd ‹_› (h _)
  all_goals rfl

theorem outputFrameEnd_of_output {t : Nat} {w : LineFrame}
    (h : (s.line l).activity = .output t w) :
    exec (.outputFrameEnd l) s = .next
      (State.lineTurn { s with freeBlocks := s.freeBlocks + w.blocks } l) := by
  change Host.Outcome.next _ = _
  rw [h]

theorem outputFrameEnd_of_ne (h : ∀ t w, (s.line l).activity ≠ .output t w) :
    exec (.outputFrameEnd l) s = .next s := by
  change Host.Outcome.next _ = _
  split
  · exact absurd ‹_› (h _ _)
  all_goals rfl

/-! ### Answers (R84 to R87, R199) -/

/-- In the window of an exchange an answer is a miss when it is too large, is applied when it comes from the
polled drop, and is discarded when it comes from another. -/
theorem takeAnswer_of_awaiting {p due : Nat} {f : LineFramer}
    (h : (s.line l).activity = .awaiting p due f) (drop size : Nat) (content : State → State) :
    s.takeAnswer l drop size content =
      if 80 < size then (s.miss (terminalOf l p)).lineTurn l
      else if drop = p then (s.applyAnswer (terminalOf l drop) content).lineTurn l
      else s := by
  unfold State.takeAnswer
  rw [h]
  rfl

theorem takeAnswer_of_ne (h : ∀ p due f, (s.line l).activity ≠ .awaiting p due f)
    (drop size : Nat) (content : State → State) : s.takeAnswer l drop size content = s := by
  unfold State.takeAnswer
  split
  · exact absurd ‹_› (h _ _ _)
  all_goals rfl

/-- An answer with no content is its liveness update. -/
theorem applyAnswer_id (s : State) (t : Nat) : s.applyAnswer t id = s.answerLiveness t := ite_self _

theorem nil_of_awaiting {p due : Nat} {f : LineFramer}
    (h : (s.line l).activity = .awaiting p due f) (drop : Nat) (kind : Byte) (body : List Byte) :
    exec (.nil l drop kind body) s = .next
      (if 80 < body.length then (s.miss (terminalOf l p)).lineTurn l
      else if drop = p then (s.answerLiveness (terminalOf l p)).lineTurn l
      else s) := by
  refine congrArg Host.Outcome.next ((takeAnswer_of_awaiting h _ _ _).trans ?_)
  rw [applyAnswer_id]
  split
  · rfl
  · split
    · subst_vars; rfl
    · rfl

theorem nil_of_ne (h : ∀ p due f, (s.line l).activity ≠ .awaiting p due f) (drop : Nat)
    (kind : Byte) (body : List Byte) : exec (.nil l drop kind body) s = .next s :=
  congrArg Host.Outcome.next (takeAnswer_of_ne h _ _ _)

end

/-! ### Bytes (R193, R199, R201) -/

theorem Form.code_eq (f : Form) : f.code = if f = .refresh then 0x00 else 0x01 := by
  cases f <;> rfl

/-- Settles O40: each event in each activity, and then each kind of frame. -/
theorem lineEventsEndInALineTurn : Obligations.LineEventsEndInALineTurn := by
  unfold Obligations.LineEventsEndInALineTurn
  intro s l drop kind body x late missed two frame
  refine ⟨fun p (h : (s.line l).activity = _) => ?poll, fun p due f (h : (s.line l).activity = _) => ?window,
    fun t w (h : (s.line l).activity = _) => ?output, fun due (h : (s.line l).activity = _) => ?idle,
    fun p due f => ⟨rfl, rfl, rfl⟩, fun t a => rfl, fun t f text o => ?screen, fun t g => rfl,
    fun lost b => ?attention⟩
  case poll =>
    have hne : ∀ p due f, (s.line l).activity ≠ .awaiting p due f := by simp [h]
    exact ⟨pollFrameSent_of_sendingPoll h, badAnswerFrame_of_ne hne, pollWindowExpiry_of_ne hne,
      idleWaitExpiry_of_ne (by simp [h]), outputFrameEnd_of_ne (by simp [h]),
      nil_of_ne hne _ _ _⟩
  case window =>
    exact ⟨badAnswerFrame_of_awaiting h, pollWindowExpiry_of_awaiting h, nil_of_awaiting h _ _ _,
      pollFrameSent_of_ne (by simp [h]), idleWaitExpiry_of_ne (by simp [h]),
      outputFrameEnd_of_ne (by simp [h])⟩
  case output =>
    have hne : ∀ p due f, (s.line l).activity ≠ .awaiting p due f := by simp [h]
    exact ⟨outputFrameEnd_of_output h, pollFrameSent_of_ne (by simp [h]),
      badAnswerFrame_of_ne hne, pollWindowExpiry_of_ne hne, idleWaitExpiry_of_ne (by simp [h]),
      nil_of_ne hne _ _ _⟩
  case idle =>
    have hne : ∀ p due f, (s.line l).activity ≠ .awaiting p due f := by simp [h]
    exact ⟨idleWaitExpiry_of_idleWait h, pollFrameSent_of_ne (by simp [h]),
      badAnswerFrame_of_ne hne, pollWindowExpiry_of_ne hne, outputFrameEnd_of_ne (by simp [h]),
      nil_of_ne hne _ _ _⟩
  case screen =>
    rw [← Form.code_eq]
    rfl
  case attention =>
    intro story flag
    cases b with
    | refused q c n d => cases n <;> cases d <;> rfl
    | _ => rfl

end Sys2Proof.Machine
end


section
/-! SUPPORT. LOAD TERMINAL (R81, R82): its checks, and the one record that a taken order writes. -/

namespace Sys2Proof.Machine

/-! ### Clearing a terminal's record (R82, R104) -/

/-- Whatever record stood before, the reset value that is written over it leaves no trace. -/
theorem putTerminal_initial (s : State) (t : Nat) (r : Terminal) :
    (s.putTerminal t r).putTerminal t Terminal.initial = s.putTerminal t Terminal.initial := by
  by_cases hr : r = Terminal.initial
  · subst hr
    simp [State.putTerminal, Table.put, List.filter_filter]
  · exact putTerminal_putTerminal s t _ hr

theorem discardFrames_all (s : State) (t : Nat) :
    s.discardFrames t (fun _ => true) =
      { s.putTerminal t { s.terminal t with outbound := [] } with
        freeBlocks := s.freeBlocks + ((s.terminal t).outbound.map OutFrame.blocks).sum } := by
  simp [State.discardFrames, framesBlocks]

/-- A terminal that is unconfigured has its reset record, and its frames' blocks return (R82). -/
theorem discardAll_putTerminal_initial (s : State) (t : Nat) :
    (s.discardFrames t (fun _ => true)).putTerminal t Terminal.initial =
      { s.putTerminal t Terminal.initial with
        freeBlocks := s.freeBlocks + ((s.terminal t).outbound.map OutFrame.blocks).sum } := by
  rw [discardFrames_all]
  exact congrArg (fun u : State => { u with
    freeBlocks := s.freeBlocks + ((s.terminal t).outbound.map OutFrame.blocks).sum })
    (putTerminal_initial s t _)

/-! ### The role byte (R193) -/

theorem readRole_isNone_iff (r : Byte) : (readRole r).isNone = true ↔ 2 < r.toNat := by
  unfold readRole
  split
  · subst_vars; decide
  · split
    · subst_vars; decide
    · split
      · subst_vars; decide
      · exact iff_of_true rfl (by bv_omega)

/-- The role that a legal byte names. -/
theorem readRole_getD {r : Byte} (h : ¬ 2 < r.toNat) :
    (readRole r).getD .writer = if r = 0 then .writer else if r = 1 then .editor else .chief := by
  unfold readRole
  by_cases hzero : r = 0
  · rw [if_pos hzero, if_pos hzero]; rfl
  · by_cases hone : r = 1
    · rw [if_neg hzero, if_neg hzero, if_pos hone, if_pos hone]; rfl
    · rw [if_neg hzero, if_neg hzero, if_neg hone, if_neg hone, if_pos (by bv_omega)]; rfl

/-! ### The order (R81, R82) -/

theorem takeLoadTerminal_eq (s : State) (x : TerminalLoad) :
    s.takeLoadTerminal x =
      let old := s.terminal x.terminal
      if x.configured = false then
        { s.putTerminal x.terminal Terminal.initial with
          freeBlocks := s.freeBlocks + (old.outbound.map OutFrame.blocks).sum }
      else if old.liveness = .absent then
        s.putTerminal x.terminal
          { Terminal.initial with
            configured := true, desk := x.desk, role := x.role.getD .writer, liveness := .waking }
      else s.putTerminal x.terminal { old with desk := x.desk, role := x.role.getD .writer } := by
  unfold State.takeLoadTerminal
  cases hconf : x.configured with
  | false => exact discardAll_putTerminal_initial s x.terminal
  | true => rfl

theorem exec_loadTerminal_of_listening {s : State} (h : s.listening) (t c d r : Byte)
    (x : TerminalLoad) (hx : x = ⟨t.toNat, readFlag c, d.toNat, readRole r⟩) :
    exec (.loadTerminal [t, c, d, r]) s = .next
      (s.heard.judge Kind.loadTerminal (some x.terminal) (s.heard.loadTerminalChecks x)
        (s.heard.takeLoadTerminal x)) := by
  subst hx
  exact congrArg Host.Outcome.next (takeFrame_of_listening s h _ _ (by simp) _)

theorem readFlag_eq_false_iff (b : Byte) : readFlag b = false ↔ b = 0 := bne_eq_false_iff_eq

/-- Settles O38: the checks decide in their order, and a taken order writes one record. -/
theorem loadTerminalWritesTheRecord : Obligations.LoadTerminalWritesTheRecord := by
  unfold Obligations.LoadTerminalWritesTheRecord
  intro s t c d r hlisten k me role fresh refuse
  rw [exec_loadTerminal_of_listening hlisten t c d r _ rfl]
  refine congrArg Host.Outcome.next ?_
  simp only [State.loadTerminalChecks, judge_cons, judge_nil, heard_refuseOrder, Bool.or_eq_true,
    Bool.and_eq_true, Bool.not_eq_true', decide_eq_true_eq, readRole_isNone_iff, or_assoc,
    List.isEmpty_eq_false_iff, ← Bool.not_eq_false (readFlag c), readFlag_eq_false_iff, desk_heard,
    takeLoadTerminal_eq]
  refine ite_congr rfl (fun _ => rfl) fun hrange => ite_congr rfl (fun _ => rfl) fun _ =>
    ite_congr rfl (fun _ => rfl) fun _ => ?_
  rw [readRole_getD (not_or.1 (not_or.1 hrange).2).2]
  rfl

end Sys2Proof.Machine
end


section
/-! SUPPORT. The liveness update of an answer (R89, R91, R111): a terminal's record is written over in steps,
and what is offered between them does not read it. -/

namespace Sys2Proof.Machine

/-! ### Offers and a terminal's record -/

theorem startNotice_putTerminal (s : State) (t : Nat) (r : Terminal) :
    (s.putTerminal t r).startNotice = s.startNotice.putTerminal t r := by
  unfold State.startNotice
  dsimp only [State.putTerminal_sending, State.putTerminal_restartPending, State.putTerminal_queue]
  split <;> rfl

/-- A notice does not depend on the terminal records, and leaves them as they are. -/
theorem offer_putTerminal (s : State) (t : Nat) (r : Terminal) (n : Notice) :
    (s.putTerminal t r).offer n = (s.offer n).putTerminal t r := by
  have hadmit : (s.putTerminal t r).admitNotice n = (s.admitNotice n).putTerminal t r :=
    startNotice_putTerminal { s with queue := s.queue ++ [n] } t r
  have hfree : (s.putTerminal t r).noticeFree = s.noticeFree := rfl
  unfold State.offer
  rw [hadmit, hfree, State.putTerminal_reporting]
  split
  · split <;> rfl
  · split
    · split <;> rfl
    · rfl
  · split <;> rfl
  · rfl

theorem noticeFree_pos_iff (s : State) : 0 < s.noticeFree ↔ s.queue.length < 64 := by
  rw [Nat.pos_iff_ne_zero, ne_eq, noticeFree_eq_zero_iff, not_le]

theorem ne_initial_of_present {r : Terminal} (h : r.liveness ≠ .absent) : r ≠ Terminal.initial :=
  fun heq => h (congrArg Terminal.liveness heq)

/-! ### The steps of a record that has just been written (R91, R111) -/

theorem reofferRefresh_of_quiet {s : State} {t : Nat}
    (h : (s.terminal t).refreshOwed = none ∨ ¬ s.queue.length < 64) : s.reofferRefresh t = s := by
  unfold State.reofferRefresh
  split
  · rfl
  · rename_i why howed
    refine if_neg ((noticeFree_pos_iff s).not.2 (h.resolve_left ?_))
    rw [howed]
    nofun

section
variable (s : State) (t : Nat) {r : Terminal} (h : r.liveness ≠ .absent)
include h

/-- An owed REFRESH WANTED takes a free entry, and its mark is cleared (R91, R111). -/
theorem reofferRefresh_putTerminal {why : RefreshReason} (howed : r.refreshOwed = some why)
    (hroom : s.queue.length < 64) :
    (s.putTerminal t r).reofferRefresh t =
      (s.offer (.refreshWanted t why)).putTerminal t { r with refreshOwed := none } := by
  have hfree : 0 < (s.putTerminal t r).noticeFree := (noticeFree_pos_iff s).2 hroom
  simp only [State.reofferRefresh, State.terminal_putTerminal, if_true, howed, hfree, offer_putTerminal,
    putTerminal_putTerminal _ _ _ (ne_initial_of_present h)]

/-- A REFRESH WANTED is offered where none is owed and an entry is free; where none is free its mark is set, and
where one is owed the mark stays (R111). -/
theorem wantRefresh_putTerminal (why : RefreshReason) :
    (s.putTerminal t r).wantRefresh t why =
      let asks := r.refreshOwed = none ∧ s.queue.length < 64
      (if asks then s.offer (.refreshWanted t why) else s).putTerminal t
        { r with refreshOwed := if asks then none else some (r.refreshOwed.getD why) } := by
  have hkept : ∀ owed, r.refreshOwed = owed → { r with refreshOwed := owed } = r := by
    rintro _ rfl; rfl
  have hfree := noticeFree_pos_iff (s.putTerminal t r)
  rw [State.putTerminal_queue] at hfree
  cases howed : r.refreshOwed with
  | some reason => simp [State.wantRefresh, howed, hkept _ howed]
  | none =>
    by_cases hroom : s.queue.length < 64
    · simp [State.wantRefresh, howed, hfree, hroom, offer_putTerminal, hkept _ howed]
    · simp [State.wantRefresh, howed, hfree, hroom,
        putTerminal_putTerminal _ _ _ (ne_initial_of_present h)]

end

/-- An attention to a terminal that is neither ABSENT nor DARK joins the record that has just been written. -/
theorem attend_putTerminal (s : State) (t : Nat) {r : Terminal} (h : r.liveness = .live)
    (b : AttentionBody) :
    (s.putTerminal t r).attend t b =
      s.putTerminal t { r with attentions := joinAttention r.attentions b } := by
  have hpresent : r.liveness ≠ .absent := by rw [h]; decide
  have hawake : ¬ (r.liveness = .absent ∨ r.liveness = .dark) := by rw [h]; decide
  rw [State.attend, State.terminal_putTerminal, if_pos rfl, if_neg hawake,
    putTerminal_putTerminal _ _ _ (ne_initial_of_present hpresent)]

/-- A terminal that returns from darkness is told so, and so is the store processor (R91). -/
theorem reconnect_putTerminal (s : State) (t : Nat) {r : Terminal} (h : r.liveness = .live) :
    (s.putTerminal t r).reconnect t =
      if r.wasDark = true then
        (s.offer (.terminalEvent t true r.desk r.role 0)).putTerminal t
          { r with wasDark := false, attentions := joinAttention r.attentions .reconnected }
      else s.putTerminal t r := by
  have hpresent : ∀ q, ({ r with attentions := q } : Terminal).liveness ≠ .absent := fun _ => by
    rw [h]; decide
  unfold State.reconnect
  rw [State.terminal_putTerminal, if_pos rfl]
  refine ite_congr rfl (fun _ => ?_) fun _ => rfl
  dsimp only
  rw [offer_putTerminal, attend_putTerminal _ t h, State.terminal_putTerminal, if_pos rfl,
    putTerminal_putTerminal _ _ _ (ne_initial_of_present (hpresent _))]

/-! ### The update in each liveness (R89) -/

section
variable {s : State} {t : Nat}

theorem answerLiveness_of_absent (h : (s.terminal t).liveness = .absent) :
    s.answerLiveness t = s := by
  simp only [State.answerLiveness, h]

theorem answerLiveness_of_faint (h : (s.terminal t).liveness = .faint) :
    s.answerLiveness t =
      s.putTerminal t { s.terminal t with missCount := 0, liveness := .live } := by
  simp only [State.answerLiveness, h]

theorem answerLiveness_of_live (h : (s.terminal t).liveness = .live) :
    s.answerLiveness t =
      (s.putTerminal t { s.terminal t with missCount := 0 }).reofferRefresh t := by
  simp only [State.answerLiveness, h]

/-- The record of a WAKING or DARK terminal once an answer has been counted for it (R89). -/
def Terminal.answeredOnce (r : Terminal) : Terminal :=
  { r with missCount := 0, wakeCount := if r.liveness = .waking then r.wakeCount + 1 else 1 }

theorem answerLiveness_of_sleeping
    (h : (s.terminal t).liveness = .waking ∨ (s.terminal t).liveness = .dark) :
    s.answerLiveness t = s.countAnswer t (s.terminal t).answeredOnce := by
  rcases h with h | h <;> simp [State.answerLiveness, Terminal.answeredOnce, h]

/-- A terminal that reaches its wake count: LIVE, its REFRESH WANTED offered or owed, and its return from
darkness told (R89, R91, R111). -/
theorem goLive_putTerminal (s : State) (t : Nat) {r : Terminal} (h : r.liveness ≠ .absent) :
    (s.putTerminal t r).goLive t =
      let asks := r.refreshOwed = none ∧ s.queue.length < 64
      let asked := if asks then s.offer (.refreshWanted t .live) else s
      let owed := if asks then none else some (r.refreshOwed.getD RefreshReason.live)
      let live := { r with liveness := .live, refreshOwed := owed }
      if r.wasDark = true then
        (asked.offer (.terminalEvent t true r.desk r.role 0)).putTerminal t
          { live with wasDark := false, attentions := joinAttention r.attentions .reconnected }
      else asked.putTerminal t live := by
  rw [State.goLive, State.terminal_putTerminal, if_pos rfl,
    putTerminal_putTerminal _ _ _ (ne_initial_of_present h), wantRefresh_putTerminal _ _ (by simp)]
  exact reconnect_putTerminal _ t rfl

end

/-- Settles O42: the update in each liveness, a LIVE terminal's by what it is owed. -/
theorem answersBringATerminalLive : Obligations.AnswersBringATerminalLive := by
  unfold Obligations.AnswersBringATerminalLive
  intro s x me needed w sleeping counted t room
  have hcounted : (s.terminal x).answeredOnce = counted := rfl
  refine ⟨answerLiveness_of_absent, answerLiveness_of_faint, fun hlive => ?live,
    fun hsleep hshort => ?waking, fun hsleep hreach => ?reached⟩
  case live =>
    refine ⟨fun hquiet => ?_, fun why howed hroom => ?_⟩
    · refine (answerLiveness_of_live hlive).trans (reofferRefresh_of_quiet ?_)
      rwa [State.terminal_putTerminal, if_pos rfl]
    · have hpresent : ({ me with missCount := 0 } : Terminal).liveness ≠ .absent :=
        fun h => absurd (hlive.symm.trans h) (by decide)
      exact (answerLiveness_of_live hlive).trans (reofferRefresh_putTerminal s x hpresent howed hroom)
  case waking =>
    refine (answerLiveness_of_sleeping hsleep).trans ?_
    rw [hcounted]
    exact if_neg (Nat.not_le.2 hshort)
  case reached =>
    intro asks asked owed live
    have hpresent : counted.liveness ≠ .absent := by
      rcases hsleep with h | h <;> rw [show counted.liveness = _ from h] <;> decide
    have hgone : t = (s.putTerminal x counted).goLive x :=
      (answerLiveness_of_sleeping hsleep).trans (if_pos hreach)
    rw [goLive_putTerminal s x hpresent] at hgone
    refine ⟨fun hdark => hgone.trans (if_neg ?_), fun hdark => hgone.trans (if_pos hdark)⟩
    rw [show counted.wasDark = false from hdark]
    decide

end Sys2Proof.Machine
end


section
/-! SUPPORT. The line turn (R83, R93 to R96): the arbiter's order of the drops, the drop an output turn serves,
and the drop a poll turn polls. -/

namespace Sys2Proof.Machine

/-! ### The arbiter's order (R95) -/

/-- How many drops stand between the last output drop and drop `d`, wrapping (R95). -/
def dropsBetween (last d : Nat) : Nat := (d + 23 - last) % 24

theorem mem_dropOrder {last : Nat} (h : last ≤ 23) (d : Nat) : d ∈ dropOrder last ↔ d < 24 := by
  simp only [dropOrder, List.mem_append, List.mem_range'_1, List.mem_range]
  omega

theorem dropOrder_sorted {last : Nat} (h : last ≤ 23) :
    (dropOrder last).Pairwise fun d e => dropsBetween last d < dropsBetween last e := by
  unfold dropOrder dropsBetween
  refine List.pairwise_append.2 ⟨?_, ?_, fun d hd e he => ?_⟩
  · refine (List.pairwise_lt_range' (s := last + 1) (n := 23 - last)).imp_of_mem
      fun {d e} hd he hlt => ?_
    rw [List.mem_range'_1] at hd he
    omega
  · refine (List.pairwise_lt_range (n := last + 1)).imp_of_mem fun {d e} hd he hlt => ?_
    rw [List.mem_range] at hd he
    omega
  · rw [List.mem_range'_1] at hd
    rw [List.mem_range] at he
    omega

/-- The first element of a sorted list with a property is the least of those that have it. -/
theorem head?_filter_of_least {l : List Nat} {f : Nat → Nat} (hsorted : l.Pairwise (f · < f ·))
    {p : Nat → Bool} {d : Nat} (hd : d ∈ l) (hp : p d = true)
    (hleast : ∀ e ∈ l, p e = true → f d ≤ f e) : (l.filter p).head? = some d := by
  have hmem : d ∈ l.filter p := List.mem_filter.2 ⟨hd, hp⟩
  have hfiltered := hsorted.filter p
  cases heq : l.filter p with
  | nil => rw [heq] at hmem; cases hmem
  | cons e rest =>
    rw [heq] at hmem hfiltered
    rcases List.mem_cons.1 hmem with rfl | hrest
    · rfl
    · obtain ⟨hel, hpe⟩ := List.mem_filter.1 (heq ▸ List.mem_cons_self (a := e) (l := rest))
      exact absurd ((List.pairwise_cons.1 hfiltered).1 d hrest) (Nat.not_lt.2 (hleast e hel hpe))

/-! ### The drop an output turn serves (R93, R95) -/

theorem pendingOutput_iff (r : Terminal) :
    r.pendingOutput = true ↔
      r.attentions ≠ [] ∨ ∃ f rest, r.outbound = f :: rest ∧ f.isOpen = false := by
  unfold Terminal.pendingOutput
  cases r.attentions <;> cases r.outbound <;> simp

section
variable {s : State} {l : LineId}

theorem mem_pendingDrops (h : (s.line l).lastOutput ≤ 23) (d : Nat) :
    d ∈ s.pendingDrops l ↔ d < 24 ∧ (s.terminal (terminalOf l d)).configured = true ∧
      ((s.terminal (terminalOf l d)).attentions ≠ [] ∨
        ∃ f rest, (s.terminal (terminalOf l d)).outbound = f :: rest ∧ f.isOpen = false) := by
  rw [State.pendingDrops, List.mem_filter, mem_dropOrder h, Bool.and_eq_true, pendingOutput_iff]

theorem outputDrop_eq (s : State) (l : LineId) :
    s.outputDrop l = (s.surgeDrops l).head?.or (s.pendingDrops l).head? := by
  unfold State.outputDrop
  cases s.surgeDrops l <;> rfl

/-- Of the pending drops whose desk is in surge, if there are any, or else of all, the first is served. -/
theorem outputDrop_eq_some (h : (s.line l).lastOutput ≤ 23) {d : Nat} (hd : d ∈ s.pendingDrops l)
    (surging : Nat → Prop)
    (hsurging : ∀ e, s.inSurge (s.terminal (terminalOf l e)).desk = true ↔ surging e)
    (htier : surging d ∨ ∀ e ∈ s.pendingDrops l, ¬ surging e)
    (hfirst : ∀ e ∈ s.pendingDrops l, (surging e ↔ surging d) →
      dropsBetween (s.line l).lastOutput d ≤ dropsBetween (s.line l).lastOutput e) :
    s.outputDrop l = some d := by
  rw [outputDrop_eq]
  by_cases hup : surging d
  · have hhead : (s.surgeDrops l).head? = some d :=
      head?_filter_of_least ((dropOrder_sorted h).filter _) hd ((hsurging d).2 hup)
        fun e he hin => hfirst e he (iff_of_true ((hsurging e).1 hin) hup)
    rw [hhead]
    rfl
  · have hcalm := htier.resolve_left hup
    have hnil : s.surgeDrops l = [] :=
      List.filter_eq_nil_iff.2 fun e he hin => hcalm e he ((hsurging e).1 hin)
    obtain ⟨horder, hpending⟩ := List.mem_filter.1 hd
    have hhead : (s.pendingDrops l).head? = some d :=
      head?_filter_of_least (dropOrder_sorted h) horder hpending fun e he hout =>
        have hmem := List.mem_filter.2 ⟨he, hout⟩
        hfirst e hmem (iff_of_false (hcalm e hmem) hup)
    rw [hnil, hhead]
    rfl

theorem outputDrop_eq_none (h : ∀ d, d ∉ s.pendingDrops l) : s.outputDrop l = none := by
  have hnil : s.pendingDrops l = [] := List.eq_nil_iff_forall_not_mem.2 h
  rw [outputDrop_eq, State.surgeDrops, hnil]
  rfl

/-! ### The drop a poll turn polls (R83) -/

theorem eligible_iff (r : Terminal) (c : Nat) :
    r.eligible c = true ↔ r.configured = true ∧ (r.liveness ≠ .dark ∨ c = 0) := by
  simp [Terminal.eligible]

theorem nextStart_le_iff (x : Line) (d : Nat) :
    x.nextStart ≤ d ↔ ∀ p, x.position = some p → p < d := by
  unfold Line.nextStart
  cases x.position <;> simp

/-- Drop `d` is one of the line's that may be polled in cycle `c` (R83). -/
def State.polls (s : State) (l : LineId) (c d : Nat) : Prop :=
  d < 24 ∧ (s.terminal (terminalOf l d)).eligible c = true

theorem eligibleDrop_eq_some {c start d : Nat} (hd : s.polls l c d) (hstart : start ≤ d)
    (hlow : ∀ e, s.polls l c e → start ≤ e → d ≤ e) : s.eligibleDrop l c start = some d := by
  obtain ⟨hlt, heligible⟩ := hd
  refine lowestFrom_eq_some _ _ start d hstart (by omega) heligible fun e hse hed => ?_
  exact Bool.eq_false_iff.2 fun he => Nat.not_le.2 hed (hlow e ⟨hed.trans hlt, he⟩ hse)

theorem eligibleDrop_eq_none {c start : Nat} (h : ∀ d, s.polls l c d → ¬ start ≤ d) :
    s.eligibleDrop l c start = none :=
  (lowestFrom_eq_none _ _ _).2 fun d hstart hlt =>
    Bool.eq_false_iff.2 fun he => h d ⟨by omega, he⟩ hstart

/-! ### The turn (R94) -/

theorem lineTurn_of_output (hcount : (s.line l).outputCount < (s.line l).allowance) {d : Nat}
    (hd : s.outputDrop l = some d) : s.lineTurn l = s.beginOutput l d := by
  rw [State.lineTurn, if_pos hcount, hd]

theorem lineTurn_of_poll
    (h : (s.line l).allowance ≤ (s.line l).outputCount ∨ s.outputDrop l = none) :
    s.lineTurn l = s.pollTurn l := by
  unfold State.lineTurn
  split
  · rename_i hcount
    rw [h.resolve_left (Nat.not_le.2 hcount)]
  · rfl

theorem pollTurn_of_above {d : Nat}
    (h : s.eligibleDrop l (s.line l).cycle (s.line l).nextStart = some d) :
    s.pollTurn l = s.beginPoll l (s.line l).cycle d := by
  rw [State.pollTurn, h]

theorem pollTurn_of_none (h : s.eligibleDrop l (s.line l).cycle (s.line l).nextStart = none) :
    s.pollTurn l = s.beginCycle l (((s.line l).cycle + 1) % 8) := by
  rw [State.pollTurn, h]

/-- A drop's oldest attention is served, or with none its first outbound frame (R94 to R96). -/
theorem beginOutput_of_nextOutput {d : Nat} {what : LineFrame} {left : Terminal}
    (h : (s.terminal (terminalOf l d)).nextOutput = some (what, left)) :
    s.beginOutput l d = (s.putTerminal (terminalOf l d) left).putLine l
      { s.line l with
        outputCount := (s.line l).outputCount + 1, lastOutput := d,
        activity := .output (terminalOf l d) what } := by
  rw [State.beginOutput, h]

theorem nextOutput_of_attention {r : Terminal} {a : Attention} {rest : List Attention}
    (h : r.attentions = a :: rest) :
    r.nextOutput = some (.attention a, { r with attentions := rest }) := by
  rw [Terminal.nextOutput, h]

theorem nextOutput_of_frame {r : Terminal} {f : OutFrame} {rest : List OutFrame}
    (hnone : r.attentions = []) (h : r.outbound = f :: rest) :
    r.nextOutput = some (.frame f, { r with outbound := rest }) := by
  rw [Terminal.nextOutput, hnone, h]

end

/-- Settles O39: the drop that is served, or polled, is the one the arbiter's order or the cycle names. -/
theorem lineTurnServesOrPolls : Obligations.LineTurnServesOrPolls := by
  unfold Obligations.LineTurnServesOrPolls
  intro s l hlast x drop pending surging far eligible above c
  have hpending : ∀ d, d ∈ s.pendingDrops l ↔ pending d := mem_pendingDrops hlast
  have hpolls : ∀ k d, s.polls l k d ↔ eligible k d := fun k d =>
    and_congr_right fun _ => eligible_iff _ _
  have habove : ∀ d, x.nextStart ≤ d ↔ above d := nextStart_le_iff x
  refine ⟨fun d hcount hd htier hfirst => ?output, fun hpoll => ?poll⟩
  case output =>
    intro serve
    have hdrop : s.outputDrop l = some d :=
      outputDrop_eq_some hlast ((hpending d).2 hd) surging (fun e => inSurge_iff s (drop e).desk)
        (htier.imp_right fun h e he => h e ((hpending e).1 he))
        fun e he => hfirst e ((hpending e).1 he)
    have hturn := lineTurn_of_output hcount hdrop
    exact ⟨fun a rest ha => hturn.trans (beginOutput_of_nextOutput (nextOutput_of_attention ha)),
      fun f rest hnone hf =>
        hturn.trans (beginOutput_of_nextOutput (nextOutput_of_frame hnone hf))⟩
  case poll =>
    have hturn : s.lineTurn l = s.pollTurn l := lineTurn_of_poll (hpoll.imp_right fun h =>
      outputDrop_eq_none fun d hd => h d ((hpending d).1 hd))
    rw [hturn]
    refine ⟨fun d hd hup hlow => ?_, fun hnone => ?_⟩
    · exact pollTurn_of_above (eligibleDrop_eq_some ((hpolls _ d).2 hd) ((habove d).2 hup)
        fun e he hstart => hlow e ((hpolls _ e).1 he) ((habove e).1 hstart))
    · have hnext := pollTurn_of_none (eligibleDrop_eq_none fun d hd hstart =>
        hnone d ((hpolls _ d).1 hd) ((habove d).1 hstart))
      rw [hnext, State.beginCycle]
      refine ⟨fun d hd hlow => ?_, fun hempty => ?_⟩
      · rw [eligibleDrop_eq_some (d := d) ((hpolls _ d).2 hd) (Nat.zero_le d)
          fun e he _ => hlow e ((hpolls _ e).1 he)]
        rfl
      · rw [eligibleDrop_eq_none fun d hd _ => hempty d ((hpolls _ d).1 hd)]

end Sys2Proof.Machine
end


section
/-! SUPPORT. What an answer carries (R87, R88): it is acted on in the state its liveness update leaves, and
only for a terminal that the update leaves LIVE; a request is turned away while the part is LOADING, and one
that needs the store processor while that is lost (R29, R114, R115). -/

namespace Sys2Proof.Machine

/-! ### Every command that arrives in an answer (R85, R87) -/

/-- A command that arrives in an answer is taken as an answer of its body's size. -/
theorem exec_of_answer {i : Instr} {l : LineId} {drop : Nat} {kind : Byte} {body : List Byte}
    (h : i.answer? = some (l, drop, kind, body)) :
    ∃ content, ∀ s, exec i s = .next (s.takeAnswer l drop body.length content) := by
  cases i <;> cases h <;> exact ⟨_, fun _ => rfl⟩

section
variable {s : State} {l : LineId} {drop t : Nat}

/-- An answer leaves a terminal asleep that is WAKING and does not reach its wake count (R89). -/
theorem answerLiveness_of_short (hwaking : (s.terminal t).liveness = .waking)
    (hshort : (s.terminal t).wakeCount + 1 < (s.line (lineOf t)).wakeNeeded) :
    ((s.answerLiveness t).terminal t).liveness = .waking := by
  have hcount : ¬ (s.line (lineOf t)).wakeNeeded ≤ (s.terminal t).answeredOnce.wakeCount := by
    simpa [Terminal.answeredOnce, hwaking] using hshort
  rw [answerLiveness_of_sleeping (.inl hwaking), State.countAnswer, if_neg hcount,
    State.terminal_putTerminal, if_pos rfl]

/-- Of a terminal that was ABSENT or DARK, or that stays WAKING, the content is not acted on (R86, R87). -/
theorem applyAnswer_of_asleep
    (h : (s.terminal t).liveness = .absent ∨ (s.terminal t).liveness = .dark ∨
      ((s.terminal t).liveness = .waking ∧
        (s.terminal t).wakeCount + 1 < (s.line (lineOf t)).wakeNeeded))
    (content : State → State) : s.applyAnswer t content = s.answerLiveness t := by
  refine if_neg fun ⟨habsent, hdark, hlive⟩ => ?_
  rcases h with h | h | ⟨hwaking, hshort⟩
  · exact habsent h
  · exact hdark h
  · rw [answerLiveness_of_short hwaking hshort] at hlive
    cases hlive

theorem takeAnswer_of_hears (h : s.hears l drop) {size : Nat} (hsize : size ≤ 80)
    (content : State → State) :
    s.takeAnswer l drop size content = (content (s.answered l drop)).lineTurn l := by
  obtain ⟨⟨due, f, hactivity⟩, hwakes⟩ := h
  rw [takeAnswer_of_awaiting hactivity, if_neg (Nat.not_lt.2 hsize), if_pos rfl,
    applyAnswer_of_wakes hwakes]
  rfl

/-! ### KEYS (R88) -/

theorem takeKeys_eq (u : State) (t : Nat) (bytes : List Byte) :
    u.takeKeys t bytes =
      if bytes = [] ∨ 64 < bytes.length then u.attend t (.refused .keys .length none none)
      else if u.queue.length < 64 then u.offer (.keys t bytes)
      else u.attend t (.refused .keys .busy none none) :=
  ite_congr (by rw [List.length_eq_zero_iff]) (fun _ => rfl) fun _ =>
    ite_congr (propext (noticeFree_pos_iff u)) (fun _ => rfl) fun _ => rfl

/-! ### Requests that are not handed on (R88, R193) -/

/-- A byte from 1 to 12 is the code of the request kind in its place. -/
theorem readRequestKind_of_listed {k : Byte} (hlow : 1 ≤ k.toNat) (hhigh : k.toNat ≤ 12) :
    readRequestKind k = some (requestKinds.getD (k.toNat - 1) .get) := by
  have hcode : ∀ n : Fin 12, readRequestKind (BitVec.ofNat 8 (n + 1)) =
      some (requestKinds.getD n .get) := by decide
  have hk : BitVec.ofNat 8 (k.toNat - 1 + 1) = k := by rw [Nat.sub_add_cancel hlow]; simp
  have hlisted := hcode ⟨k.toNat - 1, by omega⟩
  rwa [hk] at hlisted

theorem readRequestKind_of_unlisted {k : Byte} (h : k.toNat = 0 ∨ 12 < k.toNat) :
    readRequestKind k = none := by
  have hne : ∀ b : Byte, 1 ≤ b.toNat → b.toNat ≤ 12 → k ≠ b := by
    rintro b hlow hhigh rfl
    omega
  simp [readRequestKind, hne]

theorem refuseUnknown_eq (u : State) (t : Nat) (body : List Byte) :
    u.refuseUnknown t body =
      let b := (body.getD 0 0).toNat
      u.attend t (.refused
        (if body = [] ∨ b = 0 ∨ 12 < b then unlistedKind body else requestKinds.getD (b - 1) .get)
        (if body = [] ∨ (1 ≤ b ∧ b ≤ 11) then .length else .unknown) none none) := by
  cases body with
  | nil => rfl
  | cons k rest =>
    simp only [State.refuseUnknown, List.getD_cons_zero, reduceCtorEq, false_or]
    by_cases hlisted : k.toNat = 0 ∨ 12 < k.toNat
    · rw [readRequestKind_of_unlisted hlisted, if_pos hlisted, if_neg (by omega)]
      rfl
    · rw [readRequestKind_of_listed (by omega) (by omega), if_neg hlisted]
      by_cases hkeys : k.toNat = 12
      · rw [hkeys]
        rfl
      · have hne : requestKinds.getD (k.toNat - 1) .get ≠ .keys := by
          have hplace : ∀ n : Fin 11, requestKinds.getD n .get ≠ .keys := by decide
          exact hplace ⟨k.toNat - 1, by omega⟩
        rw [if_pos (by omega)]
        split
        · rename_i heq; cases heq
        · rename_i heq; exact absurd (Option.some.inj heq) hne
        · rename_i heq; rw [Option.some.inj heq]; rfl

end

/-! ### The terminal's view stack at an answer (R113) -/

theorem views_reofferRefresh (s : State) (t : Nat) :
    ((s.reofferRefresh t).terminal t).views = (s.terminal t).views := by
  unfold State.reofferRefresh
  split
  · rfl
  · split
    · rw [State.terminal_putTerminal, if_pos rfl]
    · rfl

/-- The liveness update of an answer that is acted on leaves the view stack as it is. -/
theorem views_answerLiveness {s : State} {t : Nat} (h : s.wakes t) :
    ((s.answerLiveness t).terminal t).views = (s.terminal t).views := by
  rcases h with hlive | hfaint | ⟨hwaking, hcount⟩
  · rw [answerLiveness_of_live hlive, views_reofferRefresh, State.terminal_putTerminal, if_pos rfl]
  · rw [answerLiveness_of_faint hfaint, State.terminal_putTerminal, if_pos rfl]
  · have hreach : (s.line (lineOf t)).wakeNeeded ≤ (s.terminal t).answeredOnce.wakeCount := by
      simpa [Terminal.answeredOnce, hwaking] using hcount
    have hpresent : (s.terminal t).answeredOnce.liveness ≠ .absent := fun h =>
      absurd (hwaking.symm.trans h) (by decide)
    rw [answerLiveness_of_sleeping (.inl hwaking), State.countAnswer, if_pos hreach,
      goLive_putTerminal _ _ hpresent]
    dsimp only
    split
    · rw [State.terminal_putTerminal, if_pos rfl]; rfl
    · rw [State.terminal_putTerminal, if_pos rfl]; rfl

/-! ### The story a refused request has known (R30, R120, log 12) -/

/-- The number that the bytes after a request kind carry, FFFFh being none (R193, R200). -/
def carriedNumber (body : List Byte) : Option Nat :=
  let num := (body.getD 1 0).toNat * 256 + (body.getD 2 0).toNat
  if num = 65535 then none else some num

/-- The story that a request refused at its first checks has known: the one it acts on or names, by its
kind, when that is a story number. -/
def State.requestKnown (s : State) (t : Nat) (body : List Byte) : Option Nat :=
  let b := (body.getD 0 0).toNat
  let num := (body.getD 1 0).toNat * 256 + (body.getD 2 0).toNat
  let subject := if b ∈ [1, 5, 6, 7, 8] ∧ num = 65535 then (s.terminal t).views.head?
    else carriedNumber body
  if b ∈ [1, 3, 5, 6, 7, 8, 10, 11] then subject.filter (· ≤ 1023) else none

theorem readOption2_eq_carriedNumber (k hi lo : Byte) (rest : List Byte) :
    readOption2 hi lo = carriedNumber (k :: hi :: lo :: rest) := by
  refine if_congr ?_ rfl rfl
  change hi = 0xFF ∧ lo = 0xFF ↔ hi.toNat * 256 + lo.toNat = 65535
  bv_omega

/-- A copy request has known the story it acts on (R29, R30). -/
theorem knownStory_answered {s : State} {l : LineId} {drop : Nat} (h : s.hears l drop) {k : Byte}
    (hk : k.toNat ∈ [1, 5, 6, 7, 8]) (hi lo : Byte) (rest : List Byte) :
    (s.answered l drop).knownStory (terminalOf l drop) (readOption2 hi lo) =
      s.requestKnown (terminalOf l drop) (k :: hi :: lo :: rest) := by
  have hviews : ((s.answered l drop).terminal (terminalOf l drop)).views =
      (s.terminal (terminalOf l drop)).views := views_answerLiveness h.2
  have hmem : k.toNat ∈ [1, 3, 5, 6, 7, 8, 10, 11] := by
    simp only [List.mem_cons, List.not_mem_nil, or_false] at hk ⊢; omega
  unfold State.knownStory State.subject State.requestKnown
  rw [readOption2_eq_carriedNumber k hi lo rest, hviews]
  simp only [List.getD_cons_zero, List.getD_cons_succ, hk, hmem, true_and, if_true, carriedNumber]
  by_cases hnum : hi.toNat * 256 + lo.toNat = 65535 <;> simp [hnum]

/-- A view or watch request has known the number it carries. -/
theorem carriedStory_eq_requestKnown (s : State) (t : Nat) {k : Byte} (hk : k.toNat ∈ [3, 10, 11])
    (hi lo : Byte) (rest : List Byte) :
    carriedStory (readOption2 hi lo) = s.requestKnown t (k :: hi :: lo :: rest) := by
  have hmem : k.toNat ∈ [1, 3, 5, 6, 7, 8, 10, 11] := by
    simp only [List.mem_cons, List.not_mem_nil, or_false] at hk ⊢; omega
  have hnot : ¬ k.toNat ∈ [1, 5, 6, 7, 8] := by
    simp only [List.mem_cons, List.not_mem_nil, or_false] at hk ⊢; omega
  unfold carriedStory State.requestKnown
  rw [readOption2_eq_carriedNumber k hi lo rest]
  simp only [List.getD_cons_zero, hnot, hmem, false_and, if_true, if_false]

/-- GET NEXT, BACK and LIST have no story known. -/
theorem requestKnown_eq_none (s : State) (t : Nat) {k : Byte} (hk : k.toNat ∈ [2, 4, 9])
    (rest : List Byte) : s.requestKnown t (k :: rest) = none := by
  refine if_neg ?_
  simp only [List.getD_cons_zero, List.mem_cons, List.not_mem_nil, or_false] at hk ⊢
  omega

theorem getNextKnown_of_turnedAway {u : State} (h : u.part = .loading ∨ u.storeLost = true)
    (t : Nat) : u.getNextKnown t = none := by
  refine if_neg ?_
  cases hpart : u.part with
  | loading => simp [State.getNextChecks, firstRefusal, hpart]
  | running =>
    have hstore := h.resolve_left (by rw [hpart]; decide)
    simp [State.getNextChecks, firstRefusal, hpart, hstore]

/-! ### Requests turned away (R29, R114, R115) -/

/-- A request is refused NOT_READY while the part is LOADING and, where it `needs` the store processor,
STORE_LOST while that is lost: in the state its answer's liveness update leaves, with a line turn. -/
def State.turnsAway (s : State) (l : LineId) (drop : Nat) (q : RequestKind) (known : Option Nat)
    (needs : Prop) (a : Answer) : Prop :=
  let refuse := fun code => a = .next (((s.answered l drop).attend (terminalOf l drop)
    (.refused q code known none)).lineTurn l)
  (s.part = .loading → refuse .notReady) ∧
    (s.part = .running → s.storeLost = true → needs → refuse .storeLost)

section
variable {s : State} {l : LineId} {drop : Nat} {q : RequestKind} {known k full : Option Nat}
  {needs : Prop} {rest : List (Bool × Code)} {taken : State} {a : Answer}

theorem turnsAway_of_checks
    (ha : a = .next (((s.answered l drop).judgeRequest (terminalOf l drop) q k full
      (((s.answered l drop).part == .loading, .notReady) :: rest) taken).lineTurn l))
    (hk : s.part = .loading ∨ s.storeLost = true → k = known)
    (hneeds : needs → ∃ more, rest = ((s.answered l drop).storeLost, .storeLost) :: more) :
    s.turnsAway l drop q known needs a := by
  rw [part_answered, judgeRequest_cons] at ha
  refine ⟨fun hload => ?_, fun hrun hstore hneed => ?_⟩
  · rw [ha, hk (.inl hload), if_pos (by rw [hload]; rfl)]
    rfl
  · obtain ⟨more, rfl⟩ := hneeds hneed
    rw [ha, hk (.inr hstore), if_neg (by rw [hrun]; decide), judgeRequest_cons, storeLost_answered,
      if_pos hstore]
    rfl

end

/-- Only GET, GET NEXT, VIEW and BACK need the store processor. -/
theorem not_needsStore {q : RequestKind} (hq : q.code.toNat ∉ [1, 2, 3, 4]) (args : List Byte) :
    ((q.code :: args).getD 0 0).toNat ∉ [1, 2, 3, 4] := hq

theorem length_of_fits {d n : Nat} {args : List Byte}
    (h : (dropFits d && args.length == n) = true) : args.length = n :=
  beq_iff_eq.1 (Bool.and_eq_true_iff.1 h).2

section
variable {s : State} {l : LineId} {drop : Nat} (h : s.hears l drop)
include h

theorem exec_view_of_hears (hi lo : Byte) :
    exec (.view l drop [hi, lo]) s = .next
      (((s.answered l drop).judgeRequest (terminalOf l drop) .view (carriedStory (readOption2 hi lo))
        none ((s.answered l drop).viewChecks (readOption2 hi lo))
        (((s.answered l drop).pushView (terminalOf l drop) ((readOption2 hi lo).getD 0)).textWanted
          (terminalOf l drop) ((readOption2 hi lo).getD 0) .view)).lineTurn l) :=
  congrArg Host.Outcome.next
    (takeRequest_of_hears (args := [hi, lo]) (x := readOption2 hi lo) h (by simp) rfl _)

theorem exec_back_of_hears :
    exec (.back l drop []) s = .next
      (((s.answered l drop).judgeRequest (terminalOf l drop) .back none none
        ((s.answered l drop).backChecks (terminalOf l drop))
        ((s.answered l drop).takeBack (terminalOf l drop))).lineTurn l) :=
  congrArg Host.Outcome.next (takeRequest_of_hears (args := []) (x := ()) h (by simp) rfl _)

theorem exec_list_of_hears (desk start : Byte) :
    exec (.list l drop [desk, start]) s = .next
      (((s.answered l drop).judgeRequest (terminalOf l drop) .list none none
        ((s.answered l drop).listChecks desk.toNat start.toNat)
        ((s.answered l drop).appendFrame (terminalOf l drop)
          (.listing ((s.answered l drop).listingOf desk.toNat start.toNat)))).lineTurn l) :=
  congrArg Host.Outcome.next
    (takeRequest_of_hears (args := [desk, start]) (x := (desk.toNat, start.toNat)) h (by simp) rfl _)

theorem exec_watch_of_hears (hi lo : Byte) :
    exec (.watch l drop [hi, lo]) s = .next
      (((s.answered l drop).judgeRequest (terminalOf l drop) .watch (carriedStory (readOption2 hi lo))
        none ((s.answered l drop).watchChecks (terminalOf l drop) (readOption2 hi lo))
        ((s.answered l drop).takeWatch (terminalOf l drop) ((readOption2 hi lo).getD 0))).lineTurn l) :=
  congrArg Host.Outcome.next
    (takeRequest_of_hears (args := [hi, lo]) (x := readOption2 hi lo) h (by simp) rfl _)

theorem exec_unwatch_of_hears (hi lo : Byte) :
    exec (.unwatch l drop [hi, lo]) s = .next
      (((s.answered l drop).judgeRequest (terminalOf l drop) .unwatch
        (carriedStory (readOption2 hi lo)) none
        ((s.answered l drop).unwatchChecks (terminalOf l drop) (readOption2 hi lo))
        ((s.answered l drop).takeUnwatch (terminalOf l drop)
          ((readOption2 hi lo).getD 0))).lineTurn l) :=
  congrArg Host.Outcome.next
    (takeRequest_of_hears (args := [hi, lo]) (x := readOption2 hi lo) h (by simp) rfl _)

/-- Every known request is turned away while the part is LOADING, and the first four while store-lost. -/
theorem request_turnsAway {i : Instr} {body : List Byte}
    (hanswer : i.answer? = some (l, drop, requestKind, body)) (hfits : i.wellFormed = true)
    (hknown : ∀ r, i ≠ .unknownRequest l drop r) :
    s.turnsAway l drop (requestKinds.getD ((body.getD 0 0).toNat - 1) .get)
      (s.requestKnown (terminalOf l drop) body) ((body.getD 0 0).toNat ∈ [1, 2, 3, 4])
      (exec i s) := by
  cases i with
  | get _ _ args =>
    cases hanswer
    obtain ⟨hi, lo, rfl⟩ := List.length_eq_two.1 (length_of_fits hfits)
    exact turnsAway_of_checks (exec_get_of_hears h rfl rfl hi lo)
      (fun _ => knownStory_answered h (by decide) hi lo []) fun _ => ⟨_, rfl⟩
  | getNext _ _ args =>
    cases hanswer
    obtain rfl := List.length_eq_zero_iff.1 (length_of_fits hfits)
    refine turnsAway_of_checks (exec_getNext_of_hears h rfl rfl) (fun haway => ?_) fun _ => ⟨_, rfl⟩
    rw [requestKnown_eq_none s _ (by decide)]
    exact getNextKnown_of_turnedAway (by rwa [part_answered, storeLost_answered]) _
  | view _ _ args =>
    cases hanswer
    obtain ⟨hi, lo, rfl⟩ := List.length_eq_two.1 (length_of_fits hfits)
    exact turnsAway_of_checks (exec_view_of_hears h hi lo)
      (fun _ => carriedStory_eq_requestKnown s _ (by decide) hi lo []) fun _ => ⟨_, rfl⟩
  | back _ _ args =>
    cases hanswer
    obtain rfl := List.length_eq_zero_iff.1 (length_of_fits hfits)
    exact turnsAway_of_checks (exec_back_of_hears h)
      (fun _ => (requestKnown_eq_none s _ (by decide) []).symm) fun _ => ⟨_, rfl⟩
  | send _ _ args =>
    cases hanswer
    obtain ⟨hi, lo, desk, flash, rfl⟩ := List.length_eq_four.1 (length_of_fits hfits)
    exact turnsAway_of_checks (exec_send_of_hears h rfl rfl hi lo desk flash)
      (fun _ => knownStory_answered h (by decide) hi lo _) (absurd · (not_needsStore (by decide) _))
  | returnStory _ _ args =>
    cases hanswer
    obtain ⟨hi, lo, rfl⟩ := List.length_eq_two.1 (length_of_fits hfits)
    exact turnsAway_of_checks (exec_return_of_hears h rfl rfl hi lo)
      (fun _ => knownStory_answered h (by decide) hi lo []) (absurd · (not_needsStore (by decide) _))
  | spike _ _ args =>
    cases hanswer
    obtain ⟨hi, lo, rfl⟩ := List.length_eq_two.1 (length_of_fits hfits)
    exact turnsAway_of_checks (exec_spike_of_hears h rfl rfl hi lo)
      (fun _ => knownStory_answered h (by decide) hi lo []) (absurd · (not_needsStore (by decide) _))
  | pullRequest _ _ args =>
    cases hanswer
    obtain ⟨hi, lo, flash, rfl⟩ := List.length_eq_three.1 (length_of_fits hfits)
    exact turnsAway_of_checks (exec_pullRequest_of_hears h rfl rfl hi lo flash)
      (fun _ => knownStory_answered h (by decide) hi lo _) (absurd · (not_needsStore (by decide) _))
  | list _ _ args =>
    cases hanswer
    obtain ⟨desk, start, rfl⟩ := List.length_eq_two.1 (length_of_fits hfits)
    exact turnsAway_of_checks (exec_list_of_hears h desk start)
      (fun _ => (requestKnown_eq_none s _ (by decide) _).symm) (absurd · (not_needsStore (by decide) _))
  | watch _ _ args =>
    cases hanswer
    obtain ⟨hi, lo, rfl⟩ := List.length_eq_two.1 (length_of_fits hfits)
    exact turnsAway_of_checks (exec_watch_of_hears h hi lo)
      (fun _ => carriedStory_eq_requestKnown s _ (by decide) hi lo [])
      (absurd · (not_needsStore (by decide) _))
  | unwatch _ _ args =>
    cases hanswer
    obtain ⟨hi, lo, rfl⟩ := List.length_eq_two.1 (length_of_fits hfits)
    exact turnsAway_of_checks (exec_unwatch_of_hears h hi lo)
      (fun _ => carriedStory_eq_requestKnown s _ (by decide) hi lo [])
      (absurd · (not_needsStore (by decide) _))
  | unknownRequest _ _ r =>
    cases hanswer
    exact absurd rfl (hknown _)
  | nil _ _ k _ =>
    cases hanswer
    simp [Instr.wellFormed] at hfits
  | keys _ _ _ =>
    have hkind : keysKind = requestKind := congrArg (·.2.2.1) (Option.some.inj hanswer)
    exact absurd hkind (by decide)
  | _ => cases hanswer

end

/-- Settles O43: whether a terminal's answer is acted on, and what each answer draws that is. -/
theorem answersAreActedOnWhileLive : Obligations.AnswersAreActedOnWhileLive := by
  unfold Obligations.AnswersAreActedOnWhileLive
  intro s i l drop kind body hanswer hsize t u me turn b shown num carried subject known
  obtain ⟨content, hexec⟩ := exec_of_answer hanswer
  refine ⟨fun due f hactivity hasleep => ?asleep, fun hears => ⟨fun hi => ?keys, fun hi => ?unknown,
    fun hfits hkind hknown => ?known⟩⟩
  case asleep =>
    refine (hexec s).trans (congrArg Host.Outcome.next ?_)
    rw [takeAnswer_of_awaiting hactivity, if_neg (Nat.not_lt.2 hsize), if_pos rfl,
      applyAnswer_of_asleep hasleep]
  case keys =>
    subst hi
    have htaken := takeAnswer_of_hears hears hsize fun v => v.takeKeys t body
    rw [takeKeys_eq] at htaken
    exact congrArg Host.Outcome.next htaken
  case unknown =>
    subst hi
    have htaken := takeAnswer_of_hears hears hsize fun v => v.refuseUnknown t body
    rw [refuseUnknown_eq] at htaken
    exact congrArg Host.Outcome.next htaken
  case known =>
    subst hkind
    exact request_turnsAway hears hanswer hfits hknown

end Sys2Proof.Machine
end


section
/-! SUPPORT. Misses and darkness (R86, R89, R90): what the release of each held story leaves of the stories, of
every terminal's record and of the notice queue, and what a list of releases does. -/

namespace Sys2Proof.Machine

/-! ### The stories a dark terminal held (R18, R48, R54) -/

/-- A story's record once it has been released in place: its count is kept, and while RUNNING and not overdue it
is scheduled at that count (R48, R54). -/
def State.releasedStory (s : State) (st : Story) : Story :=
  { st with
    state := .filed, holder := none,
    nudgeDue :=
      if s.part = .running ∧ st.overdue = false then
        some (s.now + 1000 * min ((s.desk st.desk).t * (s.desk st.desk).m ^ st.nudgeCount) 3600)
      else none }

theorem releasedStory_releasedStory (s : State) (st : Story) :
    s.releasedStory (s.releasedStory st) = s.releasedStory st := rfl

theorem storyAt_releaseInPlace (s : State) (n m : Nat) :
    (s.releaseInPlace n).story? m =
      if m = n then (s.story? n).map s.releasedStory else s.story? m := by
  cases h : s.story? n with
  | none =>
    have hfree : s.releaseInPlace n = s := by
      simp [State.releaseInPlace, State.nudgeRelease, State.modStory, h]
    rw [hfree]
    split
    · subst_vars; exact h
    · rfl
  | some st =>
    rw [State.releaseInPlace, modStory_of_live h, State.nudgeRelease,
      modStory_of_live (storyAt_putStory_self _ _ _), putStory_putStory, State.storyAt_putStory]
    simp [State.releasedStory, State.nudgeDueFor, State.after, nudgeInterval, Nat.mul_comm 1000]
    rfl

/-- Story `n` has been released in place and has left terminal `x`'s hold list, and the change is still to
be told. -/
def State.unheld (s : State) (x n : Nat) : State := (s.releaseInPlace n).dropHold x n

theorem releaseHeld_eq (c : CopyCause) (x : Nat) (s : State) (n : Nat) :
    State.releaseHeld c x s n = (s.unheld x n).tellChange .released n c := rfl

section
variable (s : State) (x n : Nat)

theorem storyAt_unheld (m : Nat) :
    (s.unheld x n).story? m = if m = n then (s.story? n).map s.releasedStory else s.story? m :=
  storyAt_releaseInPlace s n m

theorem story_unheld :
    ((s.unheld x n).story n).state = .filed ∧ ((s.unheld x n).story n).desk = (s.story n).desk ∧
      ((s.unheld x n).story n).revision = (s.story n).revision := by
  unfold State.story
  rw [storyAt_unheld, if_pos rfl]
  cases s.story? n <;> exact ⟨rfl, rfl, rfl⟩

theorem copyEventOf_unheld (c : CopyCause) :
    (s.unheld x n).copyEventOf .released n c =
      .copyEvent .released n .filed (s.story n).desk (s.story n).revision c [] none := by
  obtain ⟨hstate, hdesk, hrevision⟩ := story_unheld s x n
  simp [State.copyEventOf, hstate, hdesk, hrevision]

theorem terminal_unheld (y : Nat) :
    (s.unheld x n).terminal y =
      if y = x then
        { s.terminal x with holds := (s.terminal x).holds.filter (fun m => !(m == n)) }
      else s.terminal y := by
  have hterminal : ∀ z, (s.releaseInPlace n).terminal z = s.terminal z := fun z =>
    congrArg (Table.get Terminal.initial · z)
      (onlyChanges_releaseInPlace s n .terminals (by decide)).symm
  rw [State.unheld, State.dropHold, State.terminal_putTerminal, hterminal, hterminal]

theorem canonical_unheld (h : Table.wf Terminal.initial s.terminals = true) :
    Table.wf Terminal.initial (s.unheld x n).terminals = true :=
  Table.wf_put _ _ _ _ (onlyChanges_releaseInPlace s n .terminals (by decide) ▸ h)

theorem onlyChanges_unheld : s.onlyChanges [.stories, .terminals] (s.unheld x n) :=
  ((onlyChanges_releaseInPlace s n).mono (by decide)).trans
    ((onlyChanges_dropHold _ x n).mono (by decide))

end

section
variable (c : CopyCause) (x : Nat) (s : State)

theorem storyAt_releaseHeld (n m : Nat) :
    (State.releaseHeld c x s n).story? m =
      if m = n then (s.story? n).map s.releasedStory else s.story? m :=
  (storyAt_tellChange ..).trans (storyAt_unheld s x n m)

/-- A release keeps the desk and revision of every story. -/
theorem story_releaseHeld (n m : Nat) :
    ((State.releaseHeld c x s n).story m).desk = (s.story m).desk ∧
      ((State.releaseHeld c x s n).story m).revision = (s.story m).revision := by
  unfold State.story
  rw [storyAt_releaseHeld]
  split
  · subst_vars
    cases s.story? m <;> exact ⟨rfl, rfl⟩
  · exact ⟨rfl, rfl⟩

/-- What a release may touch: the stories, the terminals, and the notice queue. -/
def releaseFields : List Field := [.stories] ++ tellFields

theorem releaseHeld_onlyChanges (n : Nat) : s.onlyChanges releaseFields (State.releaseHeld c x s n) :=
  ((onlyChanges_unheld s x n).mono (by decide)).trans
    ((onlyChanges_tellChange _ _ _ _).mono (by decide))

theorem releaseAll_onlyChanges (ns : List Nat) :
    s.onlyChanges releaseFields (ns.foldl (State.releaseHeld c x) s) :=
  .foldl _ (releaseHeld_onlyChanges c x) ns s

theorem releasedStory_releaseHeld (n : Nat) :
    (State.releaseHeld c x s n).releasedStory = s.releasedStory := by
  have hframe := releaseHeld_onlyChanges c x s n
  have hpart : s.part = _ := hframe .part (by decide)
  have hnow : s.now = _ := hframe .now (by decide)
  have hdesks : s.desks = _ := hframe .desks (by decide)
  unfold State.releasedStory State.desk
  rw [← hpart, ← hnow, ← hdesks]

theorem storyAt_releaseAll (ns : List Nat) (m : Nat) :
    (ns.foldl (State.releaseHeld c x) s).story? m =
      if m ∈ ns then (s.story? m).map s.releasedStory else s.story? m := by
  induction ns generalizing s with
  | nil => simp
  | cons n rest ih =>
    rw [List.foldl_cons, ih, releasedStory_releaseHeld, storyAt_releaseHeld]
    by_cases hm : m = n
    · subst hm
      cases s.story? m <;> simp [releasedStory_releasedStory]
    · simp [hm]

end

/-! ### The terminal that goes DARK (R90) -/

theorem terminal_attendAll_of_dark {s : State} {x : Nat} (h : (s.terminal x).liveness = .dark)
    (ts : List Nat) (b : AttentionBody) : (s.attendAll ts b).terminal x = s.terminal x := by
  unfold State.attendAll
  induction ts generalizing s with
  | nil => rfl
  | cons t rest ih =>
    have hkeep : (s.attend t b).terminal x = s.terminal x := by
      rw [terminal_attend]
      split
      · exact if_neg fun hawake => hawake.2 h
      · rfl
    rw [List.foldl_cons, ih (hkeep ▸ h), hkeep]

/-- A release takes its story off the DARK terminal's hold list, and the terminal is not told (R4, R120). -/
theorem terminal_releaseHeld_self {s : State} {x : Nat} (h : (s.terminal x).liveness = .dark)
    (c : CopyCause) (n : Nat) :
    (State.releaseHeld c x s n).terminal x =
      { s.terminal x with holds := (s.terminal x).holds.filter (fun m => !(m == n)) } := by
  have hself := (terminal_unheld s x n x).trans (if_pos rfl)
  rw [releaseHeld_eq, terminal_tellChange, State.tellWatchers,
    if_pos ((Change.toldToWatchers_iff _).2 (by decide)),
    terminal_attendAll_of_dark (by rw [hself]; exact h), hself]

theorem terminal_releaseAll_self {s : State} {x : Nat} (h : (s.terminal x).liveness = .dark)
    (c : CopyCause) (ns : List Nat) :
    (ns.foldl (State.releaseHeld c x) s).terminal x =
      { s.terminal x with holds := (s.terminal x).holds.filter (· ∉ ns) } := by
  induction ns generalizing s with
  | nil => simp
  | cons n rest ih =>
    have hstep := terminal_releaseHeld_self h c n
    rw [List.foldl_cons, ih (by rw [hstep]; exact h), hstep]
    simp [List.filter_filter, Bool.and_comm, beq_eq_decide]

/-! ### The terminals that watch (R14, R119, R120) -/

/-- A terminal's record once the release of story `n` has been told to it, if it is a watcher (R14). -/
def Terminal.toldRelease (r : Terminal) (n desk revision : Nat) : Terminal :=
  if r.configured = true ∧ n ∈ r.watches then r.attended (.watch .released n desk revision) else r

/-- A release told leaves all of a record but its attentions. -/
theorem toldRelease_eq (r : Terminal) (n desk revision : Nat) :
    r.toldRelease n desk revision =
      { r with
        attentions :=
          if r.liveness = .absent ∨ r.liveness = .dark ∨ r.configured = false ∨ n ∉ r.watches then
            r.attentions
          else joinAttention r.attentions (.watch .released n desk revision) } := by
  unfold Terminal.toldRelease Terminal.attended
  by_cases hwatch : r.configured = true ∧ n ∈ r.watches
  · by_cases hawake : r.liveness ≠ .absent ∧ r.liveness ≠ .dark
    · rw [if_pos hwatch, if_pos hawake, if_neg]
      rintro (h | h | h | h)
      · exact hawake.1 h
      · exact hawake.2 h
      · rw [h] at hwatch; exact absurd hwatch.1 (by decide)
      · exact h hwatch.2
    · rw [if_pos hwatch, if_neg hawake, if_pos]
      by_contra hnot
      exact hawake ⟨fun h => hnot (.inl h), fun h => hnot (.inr (.inl h))⟩
  · rw [if_neg hwatch, if_pos]
    by_contra hnot
    simp only [not_or, not_not, Bool.not_eq_false] at hnot
    obtain ⟨-, -, hconfigured, hn⟩ := hnot
    exact hwatch ⟨hconfigured, hn⟩

/-- A terminal's record once the releases of a list of stories have been told to it, in order. -/
theorem foldl_toldRelease (ns : List Nat) (desk revision : Nat → Nat) (r : Terminal) :
    ns.foldl (fun q n => q.toldRelease n (desk n) (revision n)) r =
      { r with
        attentions :=
          if r.liveness = .absent ∨ r.liveness = .dark ∨ r.configured = false then r.attentions
          else (ns.filter (fun n => r.watches.contains n)).foldl
            (fun q n => joinAttention q (.watch .released n (desk n) (revision n)))
            r.attentions } := by
  induction ns generalizing r with
  | nil => simp
  | cons n rest ih =>
    rw [List.foldl_cons, ih, toldRelease_eq]
    by_cases hdeaf : r.liveness = .absent ∨ r.liveness = .dark ∨ r.configured = false
    · have hout : r.liveness = .absent ∨ r.liveness = .dark ∨ r.configured = false ∨
          n ∉ r.watches := by
        rcases hdeaf with h | h | h <;> simp [h]
      simp only [hdeaf, hout, if_true]
    · by_cases hn : n ∈ r.watches
      · simp [hdeaf, hn]
      · simp [hdeaf, hn]

/-- The record of another terminal, in a canonical table, after a release. -/
theorem terminal_releaseHeld_of_ne {s : State} (hwf : Table.wf Terminal.initial s.terminals = true)
    {x y : Nat} (hy : y ≠ x) (n : Nat) :
    (State.releaseHeld .darkness x s n).terminal y =
      (s.terminal y).toldRelease n (s.story n).desk (s.story n).revision := by
  have hkept := (terminal_unheld s x n y).trans (if_neg hy)
  obtain ⟨-, hdesk, hrevision⟩ := story_unheld s x n
  rw [releaseHeld_eq, terminal_tellChange, terminal_tellWatchers (canonical_unheld s x n hwf), hdesk,
    hrevision]
  exact if_congr (by simp [State.isTold, hkept]) (by rw [hkept]) hkept

theorem canonical_releaseHeld {s : State} (hwf : Table.wf Terminal.initial s.terminals = true)
    (c : CopyCause) (x n : Nat) :
    Table.wf Terminal.initial (State.releaseHeld c x s n).terminals = true :=
  (moves_tellChange _ _ _ _).canonical (canonical_unheld s x n hwf)

/-- The record of another terminal, in a canonical table, after the releases of a list of stories. -/
theorem terminal_releaseAll_of_ne {x y : Nat} (hy : y ≠ x) (ns : List Nat) {s : State}
    (hwf : Table.wf Terminal.initial s.terminals = true) :
    (ns.foldl (State.releaseHeld .darkness x) s).terminal y =
      ns.foldl (fun q n => q.toldRelease n (s.story n).desk (s.story n).revision)
        (s.terminal y) := by
  induction ns generalizing s with
  | nil => rfl
  | cons n rest ih =>
    have hstory := fun m => story_releaseHeld .darkness x s n m
    rw [List.foldl_cons, ih (canonical_releaseHeld hwf _ x n), List.foldl_cons,
      terminal_releaseHeld_of_ne hwf hy]
    simp only [(hstory _).1, (hstory _).2]

/-! ### The notices (R16, R54, R90, R180) -/

/-- COPY and TERMINAL reports are enabled, a notice is being sent, and the next `k` reports find room: each
leaves the 8 entries that the next one needs (R180, R181). -/
structure State.darkRoom (s : State) (k : Nat) : Prop where
  copy : s.reporting.copy = true
  terminal : s.reporting.terminal = true
  busy : s.sending.isSome = true
  room : s.queue.length + k + 7 ≤ 64

/-- A COPY or TERMINAL report that finds room joins the queue, and nothing else changes. -/
theorem State.darkRoom.offer {s : State} {k : Nat} (h : s.darkRoom (k + 1)) {n : Notice}
    (hn : n.noticeClass = .report .copy ∨ n.noticeClass = .report .terminal) :
    s.offer n = { s with queue := s.queue ++ [n] } := by
  obtain ⟨hcopy, hterminal, hbusy, hroom⟩ := h
  obtain ⟨m, hm⟩ := Option.isSome_iff_exists.1 hbusy
  have hfree : Config.reportReserve ≤ s.noticeFree := by
    simp only [State.noticeFree, Config.reportReserve, Config.noticeEntries]; omega
  rcases hn with hn | hn <;>
    simp only [State.offer, hn, Reporting.enabled, hcopy, hterminal, if_true, hfree,
      State.admitNotice, State.startNotice, hm]

theorem State.darkRoom.after {s t : State} {fs : List Field} {k : Nat} (h : s.darkRoom k)
    (hframe : s.onlyChanges fs t) (hreads : ∀ f ∈ [Field.queue, .sending, .reporting], f ∉ fs) :
    t.darkRoom k := by
  have hqueue : s.queue = t.queue := hframe .queue (hreads _ (by decide))
  have hsending : s.sending = t.sending := hframe .sending (hreads _ (by decide))
  have hreporting : s.reporting = t.reporting := hframe .reporting (hreads _ (by decide))
  exact ⟨hreporting ▸ h.copy, hreporting ▸ h.terminal, hsending ▸ h.busy, hqueue ▸ h.room⟩

/-- A release has its COPY EVENT join the queue, and keeps the room for what follows (R16). -/
theorem State.darkRoom.releaseHeld {s : State} {k : Nat} (h : s.darkRoom (k + 1)) (x n : Nat) :
    (State.releaseHeld .darkness x s n).queue = s.queue ++
        [.copyEvent .released n .filed (s.story n).desk (s.story n).revision .darkness [] none] ∧
      (State.releaseHeld .darkness x s n).darkRoom k := by
  have hframe : s.onlyChanges [.stories, .terminals]
      ((s.unheld x n).tellWatchers .released n .darkness) :=
    (onlyChanges_unheld s x n).trans ((onlyChanges_tellWatchers _ _ _ _).mono (by decide))
  have hroom := h.after hframe (by decide)
  have hqueue : s.queue = _ := hframe .queue (by decide)
  have hoffer := hroom.offer (n := (s.unheld x n).copyEventOf .released n .darkness) (.inl rfl)
  rw [releaseHeld_eq, State.tellChange, copyEventOf_tellWatchers, hoffer, copyEventOf_unheld, ← hqueue]
  refine ⟨rfl, hroom.copy, hroom.terminal, hroom.busy, ?_⟩
  have := h.room
  rw [List.length_append]
  simp only [List.length_singleton]
  omega

/-- The releases of a list of stories have their COPY EVENTs join the queue in order. -/
theorem State.darkRoom.releaseAll (x : Nat) (ns : List Nat) {s : State} {k : Nat}
    (h : s.darkRoom (k + ns.length)) :
    (ns.foldl (State.releaseHeld .darkness x) s).queue = s.queue ++
        ns.map (fun n => .copyEvent .released n .filed (s.story n).desk (s.story n).revision
          .darkness [] none) ∧
      (ns.foldl (State.releaseHeld .darkness x) s).darkRoom k := by
  induction ns generalizing s with
  | nil => exact ⟨(List.append_nil _).symm, h⟩
  | cons n rest ih =>
    have hstory := fun m => story_releaseHeld .darkness x s n m
    obtain ⟨hqueue, hroom⟩ := State.darkRoom.releaseHeld h x n
    obtain ⟨hrest, hkept⟩ := ih hroom
    refine ⟨?_, hkept⟩
    simp only [List.foldl_cons, hrest, hqueue, (hstory _).1, (hstory _).2, List.map_cons,
      List.append_assoc, List.singleton_append]

/-! ### Going DARK (R90) -/

/-- The state in which a terminal, whose record was `r`, is DARK and every story it held has been released. -/
def State.darkening (s : State) (x : Nat) (r : Terminal) : State :=
  r.holds.foldl (State.releaseHeld .darkness x) (s.putTerminal x r.darkened)

/-- The state in which its frames have been discarded too, and the darkness has been told. -/
def State.wentDark (s : State) (x : Nat) (r : Terminal) : State :=
  ((s.darkening x r).discardFrames x (fun _ => true)).offer
    (.terminalEvent x false r.desk r.role r.holds.length)

theorem goDark_putTerminal (s : State) (x : Nat) {r : Terminal} (h : r.liveness ≠ .absent) :
    (s.putTerminal x r).goDark x = s.wentDark x r := by
  unfold State.goDark
  rw [State.terminal_putTerminal, if_pos rfl]
  dsimp only
  rw [putTerminal_putTerminal _ _ _ (ne_initial_of_present h)]
  rfl

section
variable (s : State) (x : Nat) (r : Terminal)

theorem darkening_onlyChanges : s.onlyChanges releaseFields (s.darkening x r) :=
  ((onlyChanges_putTerminal s x _).mono (by decide)).trans (releaseAll_onlyChanges _ x _ r.holds)

theorem terminal_darkening_self :
    (s.darkening x r).terminal x = { r.darkened with holds := [] } := by
  have hdark : (s.putTerminal x r.darkened).terminal x = r.darkened :=
    (State.terminal_putTerminal ..).trans (if_pos rfl)
  rw [State.darkening, terminal_releaseAll_self (by rw [hdark]; rfl), hdark]
  have hnone : r.darkened.holds.filter (· ∉ r.holds) = [] :=
    List.filter_eq_nil_iff.2 fun n hn => by simpa using (show n ∈ r.holds from hn)
  rw [hnone]

/-- A terminal enters DARK with nothing in hand (R90). -/
theorem terminal_wentDark_self :
    (s.wentDark x r).terminal x = { r.darkened with holds := [], outbound := [] } := by
  rw [State.wentDark, terminal_offer, discardFrames_all]
  refine (State.terminal_putTerminal ..).trans ((if_pos rfl).trans ?_)
  rw [terminal_darkening_self]

theorem terminal_wentDark_of_ne (hwf : Table.wf Terminal.initial s.terminals = true) {y : Nat}
    (hy : y ≠ x) :
    (s.wentDark x r).terminal y =
      r.holds.foldl (fun q n => q.toldRelease n (s.story n).desk (s.story n).revision)
        (s.terminal y) := by
  rw [State.wentDark, terminal_offer, discardFrames_all]
  refine (State.terminal_putTerminal ..).trans ((if_neg hy).trans ?_)
  refine (terminal_releaseAll_of_ne hy r.holds (Table.wf_put _ _ _ _ hwf)).trans ?_
  simp only [State.story_putTerminal_frame, State.terminal_putTerminal, if_neg hy]

theorem freeBlocks_wentDark :
    (s.wentDark x r).freeBlocks = s.freeBlocks + (r.outbound.map OutFrame.blocks).sum := by
  have hoffer := onlyChanges_offer ((s.darkening x r).discardFrames x (fun _ => true))
    (.terminalEvent x false r.desk r.role r.holds.length) .freeBlocks (by decide)
  have hfree : s.freeBlocks = (s.darkening x r).freeBlocks :=
    darkening_onlyChanges s x r .freeBlocks (by decide)
  refine hoffer.symm.trans ?_
  rw [discardFrames_all, ← hfree, terminal_darkening_self]
  rfl

theorem storyAt_wentDark (n : Nat) :
    (s.wentDark x r).story? n =
      if n ∈ r.holds then (s.story? n).map s.releasedStory else s.story? n :=
  (storyAt_offer _ _ n).trans (storyAt_releaseAll .darkness x (s.putTerminal x r.darkened) r.holds n)

/-- The queue gains a COPY EVENT for each hold in order, and then the TERMINAL EVENT (R16, R92). -/
theorem queue_wentDark (h : s.darkRoom (r.holds.length + 1)) :
    (s.wentDark x r).queue = s.queue ++
      r.holds.map (fun n => .copyEvent .released n .filed (s.story n).desk (s.story n).revision
        .darkness [] none) ++
      [.terminalEvent x false r.desk r.role r.holds.length] := by
  have hdark : (s.putTerminal x r.darkened).darkRoom (1 + r.holds.length) :=
    Nat.add_comm r.holds.length 1 ▸ ⟨h.copy, h.terminal, h.busy, h.room⟩
  obtain ⟨hqueue, hroom⟩ := hdark.releaseAll x r.holds
  have hdiscard : ((s.darkening x r).discardFrames x (fun _ => true)).darkRoom (0 + 1) :=
    hroom.after (onlyChanges_discardFrames _ x _) (by decide)
  rw [State.wentDark, hdiscard.offer (.inr rfl)]
  exact congrArg (· ++ [Notice.terminalEvent x false r.desk r.role r.holds.length]) hqueue

end

/-! ### A miss (R86, R89) -/

/-- The record of a terminal that is neither ABSENT nor DARK once a miss has been counted against it (R89). -/
def Terminal.missed (r : Terminal) : Terminal :=
  { r with
    missCount := if r.liveness = .live then 1 else r.missCount + 1,
    wakeCount := if r.liveness = .waking then 0 else r.wakeCount }

/-- Below the dark limit a WAKING terminal stays WAKING and its wake count starts again; another turns FAINT. -/
theorem missed_fallen (r : Terminal) :
    { r.missed with liveness := if r.liveness = .waking then .waking else .faint } =
      let m := if r.liveness = .live then 1 else r.missCount + 1
      if r.liveness = .waking then { r with missCount := m, wakeCount := 0 }
      else { r with missCount := m, liveness := .faint } := by
  by_cases hwaking : r.liveness = .waking <;> simp [Terminal.missed, hwaking]

section
variable {s : State} {x : Nat}

theorem miss_of_asleep
    (h : (s.terminal x).liveness = .absent ∨ (s.terminal x).liveness = .dark) : s.miss x = s := by
  rcases h with h | h <;> simp only [State.miss, h]

theorem miss_of_awake (habsent : (s.terminal x).liveness ≠ .absent)
    (hdark : (s.terminal x).liveness ≠ .dark) :
    s.miss x = s.countMiss x (s.terminal x).missed
      (if (s.terminal x).liveness = .waking then .waking else .faint) := by
  unfold State.miss Terminal.missed
  cases h : (s.terminal x).liveness with
  | absent => exact absurd h habsent
  | dark => exact absurd h hdark
  | waking => simp [h]
  | live => simp [h]
  | faint => simp [h]

end

/-- Settles O41: a miss below the limit writes one record, and one that reaches it releases each hold in
turn. -/
theorem missesTakeATerminalDark : Obligations.MissesTakeATerminalDark := by
  unfold Obligations.MissesTakeATerminalDark
  intro s x me limit m queued t
  refine ⟨miss_of_asleep, fun habsent hdark hbelow => ?below, fun habsent hdark hlimit => ?dark⟩
  case below =>
    exact (miss_of_awake habsent hdark).trans ((if_neg (Nat.not_le.2 hbelow)).trans
      (congrArg (s.putTerminal x) (missed_fallen me)))
  case dark =>
    have ht : t = s.wentDark x me.missed :=
      (miss_of_awake habsent hdark).trans ((if_pos hlimit).trans (goDark_putTerminal s x habsent))
    rw [ht]
    refine ⟨terminal_wentDark_self s x _, freeBlocks_wentDark s x _, ?_, fun hwf y hy => ?_,
      fun hnodup hfew hagree => ⟨fun n => ?_, fun hcopy hterminal hbusy hroom => ?_⟩⟩
    · exact ht ▸ (onlyChanges_miss s x).mono (by decide)
    · exact (terminal_wentDark_of_ne s x _ hwf hy).trans (foldl_toldRelease me.holds _ _ _)
    · rw [storyAt_wentDark]
      cases hst : s.story? n with
      | none => exact ite_self _
      | some st =>
        have hheld : n ∈ me.holds ↔ st.holder = some x := by
          rw [hagree, hst]
          simp
        refine (if_congr hheld rfl rfl).trans ?_
        by_cases hholder : st.holder = some x
        · simp only [hholder, if_true, Option.map_some]
          rfl
        · simp only [hholder, if_false, Option.map_some]
    · refine queue_wentDark s x me.missed ⟨hcopy, hterminal, hbusy, ?_⟩
      change s.queue.length + (me.holds.length + 1) + 7 ≤ 64
      omega

end Sys2Proof.Machine
end


section
/-! SUPPORT. The frame store (R80, R103, R104): the sums that count its blocks, over the terminal
table and over the lines, and the relation of two states between which no block is lost or used
twice. What the shared operations do to it is said here, once for each. -/

namespace Sys2Proof.Machine

/-! ### A sum over a canonical table -/

section
variable {α : Type}

/-- What the values that a table lists add up to, each measured by `g`. -/
def Table.total (g : α → Nat) (tab : Table α) : Nat := (tab.map fun e => g e.2).sum

theorem Table.total_cons (g : α → Nat) (e : Nat × α) (rest : Table α) :
    Table.total g (e :: rest) = g e.2 + Table.total g rest := by
  simp [Table.total]

theorem Table.get_of_below (d : α) {tab : Table α} {k : Nat} (h : ∀ e ∈ tab, k < e.1) :
    Table.get d tab k = d :=
  Table.get_of_not_mem d tab k fun hk => by
    obtain ⟨e, he, rfl⟩ := List.mem_map.1 hk
    exact Nat.lt_irrefl _ (h e he)

variable [DecidableEq α] {d : α} {g : α → Nat}

theorem Table.total_insert (hd : g d = 0) {tab : Table α} (h : Table.wf d tab = true) (k : Nat)
    (v : α) :
    Table.total g (Table.insert k v tab) + g (Table.get d tab k) = Table.total g tab + g v := by
  induction tab with
  | nil => simp [Table.insert, Table.total, hd]
  | cons e rest ih =>
    obtain ⟨j, w⟩ := e
    obtain ⟨-, hlt, hrest⟩ := (Table.wf_cons d j w rest).1 h
    have hrec := ih hrest
    unfold Table.insert Table.get
    by_cases heq : k = j
    · simp only [if_pos heq, Table.total_cons]
      omega
    · simp only [if_neg heq]
      split
      · rename_i hbelow
        rw [Table.get_of_below d fun e he => Nat.lt_trans hbelow (hlt e he), hd]
        simp only [Table.total_cons]
        omega
      · simp only [Table.total_cons]
        omega

theorem Table.total_remove (hd : g d = 0) {tab : Table α} (h : Table.wf d tab = true) (k : Nat) :
    Table.total g (tab.filter fun e => !(e.1 == k)) + g (Table.get d tab k) =
      Table.total g tab := by
  induction tab with
  | nil => simp [Table.total, hd]
  | cons e rest ih =>
    obtain ⟨j, w⟩ := e
    obtain ⟨-, hlt, hrest⟩ := (Table.wf_cons d j w rest).1 h
    have hrec := ih hrest
    unfold Table.get
    by_cases heq : k = j
    · subst heq
      rw [Table.get_of_below d hlt, hd] at hrec
      simp only [List.filter_cons, beq_self_eq_true, Bool.not_true, Bool.false_eq_true, if_false,
        if_true, Table.total_cons]
      omega
    · simp only [List.filter_cons, beq_eq_false_iff_ne.2 (Ne.symm heq), Bool.not_false, if_true,
        if_neg heq, Table.total_cons]
      omega

/-- A write moves the sum by the difference of the value it writes and the value that stood there.
-/
theorem Table.total_put (hd : g d = 0) {tab : Table α} (h : Table.wf d tab = true) (k : Nat)
    (v : α) :
    Table.total g (Table.put d tab k v) + g (Table.get d tab k) = Table.total g tab + g v := by
  unfold Table.put
  split
  · subst_vars
    rw [Table.total_remove hd h, hd, Nat.add_zero]
  · exact Table.total_insert hd h k v

/-- A rewriting that keeps every value's measure keeps the sum. -/
theorem Table.total_update (hd : g d = 0) {f : α → α} (hf : ∀ v, g (f v) = g v) (ks : List Nat)
    {tab : Table α} (h : Table.wf d tab = true) :
    Table.total g (Table.update d f ks tab) = Table.total g tab := by
  unfold Table.update
  induction ks generalizing tab with
  | nil => rfl
  | cons k rest ih =>
    have hput := Table.total_put hd h k (f (Table.get d tab k))
    rw [hf] at hput
    exact (ih (Table.wf_put d tab k _ h)).trans (Nat.add_right_cancel hput)

theorem Table.total_eq_zero {tab : Table α} (h : Table.wf d tab = true)
    (hzero : ∀ k, g (Table.get d tab k) = 0) : Table.total g tab = 0 := by
  refine List.sum_eq_zero_iff.2 fun n hn => ?_
  obtain ⟨⟨k, v⟩, hmem, rfl⟩ := List.mem_map.1 hn
  rw [← hzero k, Table.get_of_mem h hmem]

end

/-! ### The blocks of waiting frames, and of frames on the lines (R103, R104) -/

theorem framesBlocks_cons (f : OutFrame) (fs : List OutFrame) :
    framesBlocks (f :: fs) = f.blocks + framesBlocks fs := List.sum_cons

theorem framesBlocks_append (fs gs : List OutFrame) :
    framesBlocks (fs ++ gs) = framesBlocks fs + framesBlocks gs := by
  simp [framesBlocks]

/-- The frames that are dropped and those that are kept have the blocks of all. -/
theorem framesBlocks_filter (drop : OutFrame → Bool) (fs : List OutFrame) :
    framesBlocks (fs.filter drop) + framesBlocks (fs.filter fun f => !drop f) =
      framesBlocks fs := by
  induction fs with
  | nil => rfl
  | cons f rest ih =>
    cases hf : drop f <;>
      simp only [List.filter_cons, hf, Bool.not_false, Bool.not_true, Bool.false_eq_true, if_true,
        if_false, framesBlocks_cons] <;> omega

/-- The frame that takes the place of the open one brings its own blocks for that one's. -/
theorem framesBlocks_replaceOpen {f : OutFrame} (g : OutFrame) {fs : List OutFrame}
    (h : fs.find? OutFrame.isOpen = some f) :
    framesBlocks (replaceOpen g fs) + f.blocks = framesBlocks fs + g.blocks := by
  induction fs with
  | nil => cases h
  | cons e rest ih =>
    unfold replaceOpen
    cases he : e.isOpen with
    | true =>
      rw [List.find?_cons_of_pos he] at h
      cases h
      simp only [if_true, framesBlocks_cons]
      omega
    | false =>
      rw [List.find?_cons_of_neg (by simp [he])] at h
      have hrec := ih h
      simp only [Bool.false_eq_true, if_false, framesBlocks_cons]
      omega

theorem blocksFor_mono {m n : Nat} (h : m ≤ n) : blocksFor m ≤ blocksFor n := by
  unfold blocksFor
  split <;> split <;> omega

theorem blocks_le_extend (f : OutFrame) (text : List Byte) (more : Bool) :
    f.blocks ≤ (f.extend text more).blocks := by
  cases f with
  | screen form old _ => exact blocksFor_mono (by simp [OutFrame.size, OutFrame.extend])
  | listing l => exact Nat.le_refl _

/-- The blocks of a terminal's waiting frames (R104). -/
def Terminal.blocks (r : Terminal) : Nat := framesBlocks r.outbound

theorem blocksWaiting_eq_total (s : State) :
    s.blocksWaiting = Table.total Terminal.blocks s.terminals := rfl

theorem blocksWaiting_putTerminal {s : State} (h : Table.wf Terminal.initial s.terminals = true)
    (t : Nat) (r : Terminal) :
    (s.putTerminal t r).blocksWaiting + framesBlocks (s.terminal t).outbound =
      s.blocksWaiting + framesBlocks r.outbound :=
  Table.total_put (g := Terminal.blocks) rfl h t r

theorem blocksWaiting_putLine (s : State) (l : LineId) (x : Line) :
    (s.putLine l x).blocksWaiting = s.blocksWaiting := by
  cases l <;> rfl

theorem blocksOnLines_eq_sum (s : State) :
    s.blocksOnLines = (allLines.map fun l => (s.line l).activity.blocks).sum := by
  simp only [allLines, List.map_cons, List.map_nil, List.sum_cons, List.sum_nil,
    State.blocksOnLines, State.line]
  omega

theorem blocksOnLines_congr {s t : State} (h : ∀ l, (t.line l).activity = (s.line l).activity) :
    t.blocksOnLines = s.blocksOnLines := by
  simp only [blocksOnLines_eq_sum, h]

theorem blocksOnLines_putLine (s : State) (l : LineId) (x : Line) :
    (s.putLine l x).blocksOnLines + (s.line l).activity.blocks =
      s.blocksOnLines + x.activity.blocks := by
  cases l <;> simp only [State.blocksOnLines, State.putLine, State.line] <;> omega

/-! ### The account of the blocks -/

/-- What the frame store asks of a terminal's record (R80): it is configured exactly when it is not
ABSENT, and has no frame waiting when it is. -/
structure Terminal.stored (r : Terminal) : Prop where
  sound : r.sound
  absent : r.liveness = .absent → r.outbound = []

theorem Terminal.stored.present {r : Terminal} (h : r.stored) (hf : r.outbound ≠ []) :
    r.liveness ≠ .absent := fun habsent => hf (h.absent habsent)

/-- A record of a terminal that is configured, and not ABSENT. -/
theorem Terminal.stored_of_present {r : Terminal} (hc : r.configured = true)
    (hl : r.liveness ≠ .absent) : r.stored :=
  ⟨iff_of_true hc hl, fun habsent => absurd habsent hl⟩

theorem Terminal.stored_initial : Terminal.initial.stored := ⟨by decide, fun _ => rfl⟩

/-- The free blocks, those of waiting frames and those on the lines add up to `n`. In the handling
of an end of a frame, whose blocks are free again while its line still names it, `n` is above 256
(R96, R104). -/
structure State.storeHolds (n : Nat) (s : State) : Prop where
  canonical : Table.wf Terminal.initial s.terminals = true
  total : s.freeBlocks + s.blocksWaiting + s.blocksOnLines = n
  terminal : ∀ x, (s.terminal x).stored

theorem frameStoreWhole_iff (s : State) : s.frameStoreWhole ↔ s.storeHolds 256 :=
  ⟨fun ⟨hwf, htotal, hconf, habsent⟩ => ⟨hwf, htotal, fun x => ⟨hconf x, habsent x⟩⟩,
    fun ⟨hwf, htotal, hterm⟩ => ⟨hwf, htotal, fun x => (hterm x).sound, fun x => (hterm x).absent⟩⟩

/-- Between two states the lines do as they did, and no block is lost or used twice. -/
structure State.balances (s t : State) : Prop where
  lines : ∀ l, (t.line l).activity = (s.line l).activity
  store : ∀ {n}, s.storeHolds n → t.storeHolds n

theorem State.balances.refl (s : State) : s.balances s := ⟨fun _ => rfl, id⟩

/-- A composition of two operations, from the last one back to the first. -/
theorem State.balances.after {s t u : State} (k : t.balances u) (h : s.balances t) : s.balances u :=
  ⟨fun l => (k.lines l).trans (h.lines l), k.store ∘ h.store⟩

theorem State.balances.foldl {β : Type} (g : State → β → State)
    (h : ∀ (s : State) (b : β), s.balances (g s b)) (l : List β) (s : State) :
    s.balances (l.foldl g s) := by
  induction l generalizing s with
  | nil => exact .refl s
  | cons b rest ih => exact (ih (g s b)).after (h s b)

/-! ### Writes -/

/-- The fields in which the blocks are counted. -/
def storeFields : List Field := [.terminals, .freeBlocks, .lines]

theorem State.storeHolds.of_tables {n : Nat} {s t : State} (h : s.storeHolds n)
    (ht : t.terminals = s.terminals := by rfl) (hf : t.freeBlocks = s.freeBlocks := by rfl)
    (hl : ∀ l, (t.line l).activity = (s.line l).activity := by exact fun _ => rfl) :
    t.storeHolds n := by
  obtain ⟨hwf, htotal, hterm⟩ := h
  refine ⟨ht ▸ hwf, ?_, fun x => ?_⟩
  · rwa [State.blocksWaiting, blocksOnLines_congr hl, ht, hf]
  · rw [State.terminal, ht]
    exact hterm x

/-- Two states that share what the blocks are counted in. -/
theorem balances_of_tables {s t : State} (ht : t.terminals = s.terminals := by rfl)
    (hf : t.freeBlocks = s.freeBlocks := by rfl)
    (hl : ∀ l, (t.line l).activity = (s.line l).activity := by exact fun _ => rfl) :
    s.balances t :=
  ⟨hl, fun h => h.of_tables ht hf hl⟩

theorem balances_of_frame {fs : List Field} {s t : State} (h : s.onlyChanges fs t)
    (hd : ∀ f ∈ storeFields, f ∉ fs := by decide) : s.balances t :=
  have hlines : s.lines = t.lines := h .lines (hd _ (by decide))
  balances_of_tables (h .terminals (hd _ (by decide))).symm (h .freeBlocks (hd _ (by decide))).symm
    fun l => by cases l <;> simp only [State.line, hlines]

/-- A terminal's record is written, and blocks move between its list and the free ones. -/
theorem balances_putOutbound {s : State} {t free : Nat} {r : Terminal}
    (hstored : (s.terminal t).stored → r.stored)
    (hblocks : (s.terminal t).stored →
      free + framesBlocks r.outbound = s.freeBlocks + framesBlocks (s.terminal t).outbound) :
    s.balances { s.putTerminal t r with freeBlocks := free } := by
  refine ⟨fun _ => rfl, fun ⟨hwf, htotal, hterm⟩ => ⟨Table.wf_put _ _ _ _ hwf, ?_, fun x => ?_⟩⟩
  · have hmoved := hblocks (hterm t)
    have hwaiting := blocksWaiting_putTerminal hwf t r
    change free + (s.putTerminal t r).blocksWaiting + s.blocksOnLines = _
    omega
  · change ((s.putTerminal t r).terminal x).stored
    rw [State.terminal_putTerminal]
    split
    · exact hstored (hterm t)
    · exact hterm x

theorem balances_putTerminal {s : State} {t : Nat} {r : Terminal}
    (hstored : (s.terminal t).stored → r.stored)
    (hout : (s.terminal t).stored → r.outbound = (s.terminal t).outbound) :
    s.balances (s.putTerminal t r) :=
  balances_putOutbound (free := s.freeBlocks) hstored fun h => by rw [hout h]

/-- A terminal's record is written with its frames, its liveness and whether it is configured kept.
-/
theorem balances_putTerminal_same {s : State} {t : Nat} {r : Terminal}
    (hout : r.outbound = (s.terminal t).outbound := by rfl)
    (hconf : r.configured = (s.terminal t).configured := by rfl)
    (hlive : r.liveness = (s.terminal t).liveness := by rfl) : s.balances (s.putTerminal t r) := by
  refine balances_putTerminal (fun ⟨hsound, habsent⟩ => ⟨?_, ?_⟩) fun _ => hout
  · rwa [Terminal.sound, hconf, hlive]
  · rwa [hout, hlive]

/-- A terminal that is not ABSENT stays so. -/
theorem balances_putTerminal_present {s : State} {t : Nat} {r : Terminal}
    (hpresent : (s.terminal t).liveness ≠ .absent) (hlive : r.liveness ≠ .absent)
    (hout : r.outbound = (s.terminal t).outbound := by rfl)
    (hconf : r.configured = (s.terminal t).configured := by rfl) :
    s.balances (s.putTerminal t r) :=
  balances_putTerminal (fun h => Terminal.stored_of_present (hconf ▸ h.sound.2 hpresent) hlive)
    fun _ => hout

section
variable (s : State)

theorem balances_offer (n : Notice) : s.balances (s.offer n) :=
  balances_of_frame (onlyChanges_offer s n)

theorem balances_modStory (n : Nat) (f : Story → Story) : s.balances (s.modStory n f) :=
  balances_of_frame (onlyChanges_modStory s n f)

theorem balances_reach (due : Nat) : s.balances (s.reach due) := balances_of_tables

theorem balances_refuseOrder (k : Byte) (c : Code) (i : Option Nat) :
    s.balances (s.refuseOrder k c i) := balances_offer s _

theorem balances_attend (t : Nat) (b : AttentionBody) : s.balances (s.attend t b) := by
  unfold State.attend
  dsimp only
  split
  · exact .refl s
  · exact balances_putTerminal_same

/-- Whatever the page unit and the typesetter unit do leaves the frame store alone. -/
theorem State.pageWork.balances {s t : State} (h : s.pageWork t) : s.balances t := by
  induction h with
  | refl => exact .refl s
  | tail _ hlast ih =>
    refine State.balances.after ?_ ih
    cases hlast with
    | page | edition | typesetter | ready => exact balances_of_tables
    | lift n => exact balances_modStory _ n _
    | offer n _ => exact balances_offer _ n
    | attend t b => exact balances_attend _ t b

theorem balances_attendAll (ts : List Nat) (b : AttentionBody) : s.balances (s.attendAll ts b) :=
  (pageWork_attendAll s ts b).balances

theorem balances_tellChange (k : Change) (n : Nat) (c : CopyCause) :
    s.balances (s.tellChange k n c) := (pageWork_tellChange s k n c).balances

theorem balances_startTest : s.balances s.startTest := (pageWork_startTest s).balances

/-! ### Outbound lists (R104, R107, R108, R110, R116) -/

theorem balances_discardFrames (t : Nat) (p : OutFrame → Bool) :
    s.balances (s.discardFrames t p) := by
  refine balances_putOutbound (fun ⟨hsound, habsent⟩ => ⟨hsound, fun h => ?_⟩) fun _ => ?_
  · exact List.filter_eq_nil_iff.2 fun f hf => absurd (habsent h ▸ hf) List.not_mem_nil
  · have hall := framesBlocks_filter p (s.terminal t).outbound
    dsimp only
    omega

/-- A frame joins the list of a terminal that is not ABSENT, where its blocks are free. -/
theorem balances_appendFrame {s : State} {t : Nat} {f : OutFrame}
    (hpresent : (s.terminal t).stored → (s.terminal t).liveness ≠ .absent)
    (hroom : f.blocks ≤ s.freeBlocks) : s.balances (s.appendFrame t f) := by
  refine balances_putOutbound (fun h => ⟨h.sound, fun habsent => absurd habsent (hpresent h)⟩)
    fun _ => ?_
  rw [framesBlocks_append, framesBlocks_cons]
  change s.freeBlocks - f.blocks + (framesBlocks _ + (f.blocks + 0)) = _
  omega

/-- The open frame gains text, where the blocks it needs more are free (R107). -/
theorem balances_extendOpen {s : State} {t : Nat} {f : OutFrame} {text : List Byte} {more : Bool}
    (hopen : (s.terminal t).openFrame = some f)
    (hroom : (f.extend text more).blocks - f.blocks ≤ s.freeBlocks) :
    s.balances (s.extendOpen t f (f.extend text more)) := by
  have hne : (s.terminal t).outbound ≠ [] :=
    List.ne_nil_of_mem (List.mem_of_find?_eq_some hopen)
  refine balances_putOutbound (fun h => ⟨h.sound, fun habsent => absurd habsent (h.present hne)⟩)
    fun _ => ?_
  have hmoved := framesBlocks_replaceOpen (f.extend text more) hopen
  have hgrown := blocks_le_extend f text more
  dsimp only
  omega

/-! ### Liveness (R89 to R91) -/

theorem balances_wantRefresh (t : Nat) (r : RefreshReason) : s.balances (s.wantRefresh t r) := by
  unfold State.wantRefresh
  dsimp only
  split
  · exact .refl s
  · split
    · exact balances_offer s _
    · exact balances_putTerminal_same

theorem balances_reofferRefresh (t : Nat) : s.balances (s.reofferRefresh t) := by
  unfold State.reofferRefresh
  split
  · exact .refl s
  · split
    · refine State.balances.after (balances_putTerminal_same ?_ ?_ ?_) (balances_offer s _) <;>
        rw [terminal_offer]
    · exact .refl s

theorem balances_reconnect (t : Nat) : s.balances (s.reconnect t) := by
  unfold State.reconnect
  dsimp only
  split
  · exact State.balances.after balances_putTerminal_same
      ((balances_attend _ _ _).after (balances_offer s _))
  · exact .refl s

theorem balances_goLive {s : State} {t : Nat} (h : (s.terminal t).liveness ≠ .absent) :
    s.balances (s.goLive t) :=
  (balances_reconnect _ _).after ((balances_wantRefresh _ _ _).after
    (balances_putTerminal_present h (by nofun)))

theorem balances_countAnswer {s : State} {t : Nat} {r : Terminal}
    (hpresent : (s.terminal t).liveness ≠ .absent)
    (hout : r.outbound = (s.terminal t).outbound) (hconf : r.configured = (s.terminal t).configured)
    (hlive : r.liveness = (s.terminal t).liveness) : s.balances (s.countAnswer t r) := by
  unfold State.countAnswer
  split
  · refine State.balances.after (balances_goLive ?_) (balances_putTerminal_same hout hconf hlive)
    rwa [State.terminal_putTerminal, if_pos rfl, hlive]
  · exact balances_putTerminal_present hpresent (by nofun) hout hconf

theorem balances_answerLiveness (t : Nat) : s.balances (s.answerLiveness t) := by
  unfold State.answerLiveness
  dsimp only
  split
  case h_1 => exact .refl s
  case h_2 hw => exact balances_countAnswer (by rw [hw]; decide) rfl rfl rfl
  case h_3 => exact (balances_reofferRefresh _ _).after balances_putTerminal_same
  case h_4 hf => exact balances_putTerminal_present (by rw [hf]; decide) (by nofun)
  case h_5 hd => exact balances_countAnswer (by rw [hd]; decide) rfl rfl rfl

theorem balances_dropHold (t n : Nat) : s.balances (s.dropHold t n) := balances_putTerminal_same

theorem balances_releaseHeld (c : CopyCause) (t n : Nat) :
    s.balances (State.releaseHeld c t s n) :=
  (balances_tellChange _ _ _ _).after ((balances_dropHold _ _ _).after
    (balances_of_frame (onlyChanges_releaseInPlace s n)))

theorem balances_goDark {s : State} {t : Nat} (h : (s.terminal t).liveness ≠ .absent) :
    s.balances (s.goDark t) := by
  unfold State.goDark
  exact (balances_offer _ _).after ((balances_discardFrames _ _ _).after
    ((State.balances.foldl _ (fun u n => balances_releaseHeld u .darkness t n) _ _).after
      (balances_putTerminal_present h (by nofun))))

theorem balances_countMiss {s : State} {t : Nat} {r : Terminal} {fallback : Liveness}
    (hpresent : (s.terminal t).liveness ≠ .absent) (hfall : fallback ≠ .absent)
    (hout : r.outbound = (s.terminal t).outbound) (hconf : r.configured = (s.terminal t).configured)
    (hlive : r.liveness = (s.terminal t).liveness) : s.balances (s.countMiss t r fallback) := by
  unfold State.countMiss
  split
  · refine State.balances.after (balances_goDark ?_) (balances_putTerminal_same hout hconf hlive)
    rwa [State.terminal_putTerminal, if_pos rfl, hlive]
  · exact balances_putTerminal_present hpresent hfall hout hconf

theorem balances_miss (t : Nat) : s.balances (s.miss t) := by
  unfold State.miss
  dsimp only
  split
  case h_1 => exact .refl s
  case h_2 hw => exact balances_countMiss (by rw [hw]; decide) (by decide) rfl rfl rfl
  case h_3 hl => exact balances_countMiss (by rw [hl]; decide) (by decide) rfl rfl rfl
  case h_4 hf => exact balances_countMiss (by rw [hf]; decide) (by decide) rfl rfl rfl
  case h_5 => exact .refl s

end

/-! ### The line turn (R94 to R96) -/

section
variable {n : Nat} {s : State} {l : LineId}

/-- A line goes on to something else: the blocks it named count for what it names then. -/
theorem storeHolds_putLine {x : Line} (hwf : Table.wf Terminal.initial s.terminals = true)
    (hterm : ∀ y, (s.terminal y).stored)
    (htotal : s.freeBlocks + s.blocksWaiting + s.blocksOnLines + x.activity.blocks =
      n + (s.line l).activity.blocks) : (s.putLine l x).storeHolds n := by
  have hframe := onlyChanges_putLine s l x
  have hfree : s.freeBlocks = (s.putLine l x).freeBlocks := hframe .freeBlocks (by decide)
  have htab : s.terminals = (s.putLine l x).terminals := hframe .terminals (by decide)
  refine ⟨htab ▸ hwf, ?_, fun y => by rw [State.terminal_putLine_frame]; exact hterm y⟩
  have hlines := blocksOnLines_putLine s l x
  rw [← hfree, blocksWaiting_putLine]
  omega

/-- A line goes on to something that has no blocks. -/
theorem State.storeHolds.putLine (h : s.storeHolds (n + (s.line l).activity.blocks)) {x : Line}
    (hx : x.activity.blocks = 0) : (s.putLine l x).storeHolds n :=
  storeHolds_putLine h.canonical h.terminal (by rw [hx]; exact h.total)

theorem State.storeHolds.beginCycle (h : s.storeHolds (n + (s.line l).activity.blocks)) (c : Nat) :
    (s.beginCycle l c).storeHolds n := by
  unfold State.beginCycle
  split
  · exact h.putLine rfl
  · exact h.putLine rfl

theorem State.storeHolds.pollTurn (h : s.storeHolds (n + (s.line l).activity.blocks)) :
    (s.pollTurn l).storeHolds n := by
  unfold State.pollTurn
  dsimp only
  split
  · exact h.putLine rfl
  · exact h.beginCycle _

/-- An output turn takes a frame with its blocks off the list, or an attention, which has none. -/
theorem nextOutput_blocks {r q : Terminal} {w : LineFrame} (h : r.nextOutput = some (w, q)) :
    framesBlocks q.outbound + w.blocks = framesBlocks r.outbound ∧ (r.stored → q.stored) := by
  unfold Terminal.nextOutput at h
  split at h
  · cases h
    exact ⟨rfl, fun ⟨hsound, habsent⟩ => ⟨hsound, habsent⟩⟩
  · rename_i hout
    cases h
    refine ⟨by rw [hout, framesBlocks_cons, Nat.add_comm]; rfl, fun hr => ⟨hr.sound, fun hq => ?_⟩⟩
    exact absurd hq (hr.present (by rw [hout]; nofun))
  · cases h

/-- The drop an output turn serves has output. -/
theorem nextOutput_of_outputDrop {d : Nat} (h : s.outputDrop l = some d) :
    ∃ w q, (s.terminal (terminalOf l d)).nextOutput = some (w, q) := by
  have hmem : d ∈ s.pendingDrops l := by
    rw [outputDrop_eq] at h
    rcases Option.or_eq_some_iff.1 h with h | ⟨-, h⟩
    · exact List.mem_of_mem_filter (List.mem_of_head? h)
    · exact List.mem_of_head? h
  have hpending := (Bool.and_eq_true_iff.1 (List.mem_filter.1 hmem).2).2
  rcases (pendingOutput_iff _).1 hpending with hatt | ⟨f, rest, hout, -⟩
  · obtain ⟨a, rest, hatt⟩ := List.exists_cons_of_ne_nil hatt
    exact ⟨_, _, nextOutput_of_attention hatt⟩
  · by_cases hatt : (s.terminal (terminalOf l d)).attentions = []
    · exact ⟨_, _, nextOutput_of_frame hatt hout⟩
    · obtain ⟨a, rest, hatt⟩ := List.exists_cons_of_ne_nil hatt
      exact ⟨_, _, nextOutput_of_attention hatt⟩

/-- An output frame takes its blocks from the list to the line. -/
theorem State.storeHolds.beginOutput (h : s.storeHolds (n + (s.line l).activity.blocks)) {d : Nat}
    {w : LineFrame} {q : Terminal}
    (hnext : (s.terminal (terminalOf l d)).nextOutput = some (w, q)) :
    (s.beginOutput l d).storeHolds n := by
  obtain ⟨hwf, htotal, hterm⟩ := h
  obtain ⟨hblocks, hstored⟩ := nextOutput_blocks hnext
  rw [beginOutput_of_nextOutput hnext]
  refine storeHolds_putLine (Table.wf_put _ _ _ _ hwf) (fun y => ?_) ?_
  · rw [State.terminal_putTerminal]
    split
    · exact hstored (hterm _)
    · exact hterm y
  · have hwaiting := blocksWaiting_putTerminal hwf (terminalOf l d) q
    rw [State.line_putTerminal_frame]
    change s.freeBlocks + _ + s.blocksOnLines + w.blocks = _
    omega

/-- A line turn ends what its line was doing. -/
theorem State.storeHolds.lineTurn (h : s.storeHolds (n + (s.line l).activity.blocks)) :
    (s.lineTurn l).storeHolds n := by
  unfold State.lineTurn
  split
  · split
    · rename_i hdrop
      obtain ⟨w, q, hnext⟩ := nextOutput_of_outputDrop hdrop
      exact h.beginOutput hnext
    · exact h.pollTurn
  · exact h.pollTurn

/-- The same, of a line that was sending no frame. -/
theorem State.storeHolds.lineTurn_quiet (h : s.storeHolds n) (hl : (s.line l).activity.blocks = 0) :
    (s.lineTurn l).storeHolds n :=
  State.storeHolds.lineTurn (by rwa [hl])

/-! ### Restarts (R99, R100, R122, R191) -/

theorem line_beginCycle_of_ne (s : State) (c : Nat) {m : LineId} (h : m ≠ l) :
    (s.beginCycle l c).line m = s.line m := by
  unfold State.beginCycle
  split
  · exact (State.line_putLine _ _ _ _).trans (if_neg h)
  · exact (State.line_putLine _ _ _ _).trans (if_neg h)

/-- A fresh cycle on each line of a list ends what those lines were doing. -/
theorem State.storeHolds.beginCycles {ls : List LineId} (hls : ls.Nodup)
    (h : s.storeHolds (n + (ls.map fun l => (s.line l).activity.blocks).sum)) :
    (ls.foldl (fun u l => u.beginCycle l 0) s).storeHolds n := by
  induction ls generalizing s with
  | nil => exact h
  | cons l rest ih =>
    obtain ⟨hnew, hrest⟩ := List.nodup_cons.1 hls
    refine ih hrest (State.storeHolds.beginCycle ?_ 0)
    have hsame : (rest.map fun m => ((s.beginCycle l 0).line m).activity.blocks) =
        rest.map fun m => (s.line m).activity.blocks :=
      List.map_congr_left fun m hm => by
        rw [line_beginCycle_of_ne s 0 (ne_of_mem_of_not_mem hm hnew)]
    rwa [hsame, Nat.add_assoc, Nat.add_comm _ (s.line l).activity.blocks, ← List.sum_cons,
      ← List.map_cons (f := fun m => (s.line m).activity.blocks)]

theorem State.storeHolds.restartLines (h : s.storeHolds (n + s.blocksOnLines)) :
    s.restartLines.storeHolds n := by
  rw [blocksOnLines_eq_sum] at h
  exact (pageWork_tsLine _).balances.store (State.storeHolds.beginCycles (by decide) h)

theorem balances_relink (s : State) (cause : RestartCause) : s.balances (s.relink cause) :=
  State.balances.after (balances_offer _ _) balances_of_tables

/-- A cold reset leaves an empty frame store (R191). -/
theorem storeHolds_coldRestart (s : State) (cause : RestartCause) :
    (s.coldRestart cause).storeHolds 256 := by
  refine State.storeHolds.restartLines ?_
  rw [blocksOnLines_congr (balances_relink _ cause).lines]
  exact (balances_relink _ cause).store ⟨rfl, rfl, fun _ => Terminal.stored_initial⟩

theorem Terminal.stored_afterWarm (r : Terminal) : r.afterWarm.stored := by
  unfold Terminal.afterWarm
  split
  · exact Terminal.stored_of_present rfl (by nofun)
  · exact Terminal.stored_initial

theorem Terminal.outbound_afterWarm (r : Terminal) : r.afterWarm.outbound = [] := by
  unfold Terminal.afterWarm
  split <;> rfl

/-- A warm restart empties the frame store, whatever the lines were sending (R99, R122). -/
theorem storeHolds_warmBlocks (h : s.storeHolds n) :
    s.warmBlocks.storeHolds (256 + s.warmBlocks.blocksOnLines) := by
  have hwf : Table.wf Terminal.initial s.warmBlocks.terminals = true :=
    Table.wf_update _ _ _ _ ((pageWork_abandonSend s .restart).balances.store h).canonical
  have hterm : ∀ x, s.warmBlocks.terminal x = ((s.abandonSend .restart).terminal x).afterWarm :=
    Table.get_update_keys Terminal.initial Terminal.afterWarm Terminal.afterWarm_afterWarm rfl _
  have hnone : s.warmBlocks.blocksWaiting = 0 :=
    Table.total_eq_zero (g := Terminal.blocks) hwf fun x => by
      change (s.warmBlocks.terminal x).blocks = 0
      rw [hterm, Terminal.blocks, Terminal.outbound_afterWarm]
      rfl
  refine ⟨hwf, ?_, fun x => ?_⟩
  · rw [hnone]
    rfl
  · rw [hterm]
    exact Terminal.stored_afterWarm _

theorem storeHolds_warmRestart (h : s.storeHolds n) : s.warmRestart.storeHolds 256 := by
  have hlinked := balances_relink s.warmBlocks .warmOrder
  have hrestart : ∀ {u : State}, s.warmBlocks.balances u → u.restartLines.storeHolds 256 :=
    fun {u} hu => State.storeHolds.restartLines (by
      rw [blocksOnLines_congr hu.lines]
      exact hu.store (storeHolds_warmBlocks h))
  unfold State.warmRestart
  dsimp only
  split
  · exact hrestart ((pageWork_afterSend _ _).balances.after hlinked)
  · exact hrestart hlinked

theorem storeHolds_orderedRestart (h : s.storeHolds n) (k : RestartKind) :
    (s.orderedRestart k).storeHolds 256 := by
  cases k with
  | full => exact storeHolds_coldRestart s .fullOrder
  | warm => exact storeHolds_warmRestart h

end

end Sys2Proof.Machine
end


section
/-! SUPPORT. Every command, and so every step, keeps the frame store whole: no block is lost or used
twice (R82, R96, R97, R103 to R110, R116). -/

namespace Sys2Proof.Machine

/-! ### Judging -/

/-- Whatever state a meaning answers, the frame store is whole there. -/
def Answer.whole (a : Answer) : Prop := ∀ t, a = .next t → t.storeHolds 256

theorem whole_next {t : State} (h : t.storeHolds 256) : Answer.whole (.next t) := by
  rintro _ ⟨⟩
  exact h

theorem balances_judge {s : State} {kind : Byte} {ident : Option Nat} {checks : List (Bool × Code)}
    {taken : State} (htaken : firstRefusal checks = none → s.balances taken) :
    s.balances (s.judge kind ident checks taken) := by
  unfold State.judge
  split
  · exact balances_refuseOrder _ _ _ _
  · exact htaken ‹_›

theorem balances_judgeRequest {s : State} {t : Nat} {q : RequestKind} {known full : Option Nat}
    {checks : List (Bool × Code)} {taken : State}
    (htaken : firstRefusal checks = none → s.balances taken) :
    s.balances (s.judgeRequest t q known full checks taken) := by
  unfold State.judgeRequest
  split
  · exact balances_attend _ _ _
  · exact htaken ‹_›

theorem balances_hearFrame (s : State) : s.balances s.hearFrame := by
  unfold State.hearFrame State.endStoreLost
  split
  · exact (balances_startTest _).after ((balances_attendAll _ _ _).after balances_of_tables)
  · exact balances_of_tables

theorem balances_failFrame (s : State) (kind : Byte) (code : Code) :
    s.balances (s.failFrame kind code) :=
  State.balances.after (balances_refuseOrder _ _ _ _) balances_of_tables

section
variable {s : State} (h : s.storeHolds 256)
include h

theorem State.storeHolds.takeFrame (kind : Byte) (body : List Byte) {judge : State → State}
    (hjudge : ∀ u : State, u.storeHolds 256 → (judge u).storeHolds 256) :
    (s.takeFrame kind body judge).storeHolds 256 := by
  unfold State.takeFrame
  split
  · exact (balances_failFrame s _ _).store h
  · split
    · exact (balances_hearFrame s).store h
    · exact hjudge _ ((balances_hearFrame s).store h)

/-- An order keeps the frame store whole when its judging of a body that has been read does. -/
theorem whole_order {α : Type} {kind : Byte} {body : List Byte} {ident : Option Nat}
    {fields : Option α} {judge : State → α → State}
    (hjudge : ∀ (u : State) (x : α), u.storeHolds 256 → (judge u x).storeHolds 256) :
    Answer.whole
      (.next (s.takeFrame kind body fun u => u.readBody kind ident fields (judge u))) := by
  refine whole_next (h.takeFrame kind body fun u hu => ?_)
  unfold State.readBody
  split
  · exact (balances_refuseOrder _ _ _ _).store hu
  · exact hjudge u _ hu

/-- The same, of an order that is no restart. -/
theorem whole_balanced {α : Type} {kind : Byte} {body : List Byte} {ident : Option Nat}
    {fields : Option α} {judge : State → α → State}
    (hjudge : ∀ (u : State) (x : α), u.balances (judge u x)) :
    Answer.whole (.next (s.takeFrame kind body fun u => u.readBody kind ident fields (judge u))) :=
  whole_order h fun u x hu => (hjudge u x).store hu

/-- After what a line does that sends no frame, its turn keeps the frame store whole. -/
theorem State.storeHolds.turned {u : State} (l : LineId) (hu : s.balances u)
    (hquiet : (s.line l).activity.blocks = 0) : (u.lineTurn l).storeHolds 256 :=
  (hu.store h).lineTurn_quiet (by rwa [hu.lines])

/-- The content of an answer is acted on while its terminal is LIVE and its line sends no frame, and
the line turn follows (R85, R87). -/
theorem whole_answer (l : LineId) (drop size : Nat) {content : State → State}
    (hcontent : ∀ u : State, (u.terminal (terminalOf l drop)).liveness = .live →
      u.balances (content u)) :
    Answer.whole (.next (s.takeAnswer l drop size content)) := by
  refine whole_next ?_
  unfold State.takeAnswer
  split
  case h_1 hact =>
    have hquiet : (s.line l).activity.blocks = 0 := by rw [hact]; rfl
    split
    · exact h.turned l (balances_miss s _) hquiet
    · split
      · refine h.turned l ?_ hquiet
        unfold State.applyAnswer
        dsimp only
        split
        · rename_i hlive
          exact (hcontent _ hlive.2.2).after (balances_answerLiveness s _)
        · exact balances_answerLiveness s _
      · exact h
  all_goals exact h

theorem whole_request {α : Type} {l : LineId} {drop : Nat} {q : RequestKind} {args : List Byte}
    {read : List Byte → Option α} {judge : State → Nat → α → State}
    (hjudge : ∀ (u : State) (x : α), (u.terminal (terminalOf l drop)).liveness = .live →
      u.balances (judge u (terminalOf l drop) x)) :
    Answer.whole (.next (s.takeRequest l drop q args read judge)) := by
  refine whole_answer h l drop _ fun u hlive => ?_
  split
  · exact balances_attend _ _ _
  · exact hjudge u _ hlive

end

/-! ### LOAD TERMINAL (R81, R82) -/

theorem balances_takeLoadTerminal (s : State) (x : TerminalLoad) :
    s.balances (s.takeLoadTerminal x) := by
  rw [takeLoadTerminal_eq]
  dsimp only
  split
  · exact balances_putOutbound (fun _ => Terminal.stored_initial) fun _ => rfl
  · split
    · rename_i habsent
      exact balances_putTerminal (fun _ => Terminal.stored_of_present rfl (by nofun))
        fun h => (h.absent habsent).symm
    · exact balances_putTerminal_same

/-! ### Screens (R106 to R110) -/

theorem balances_continueScreen (s : State) (x : ScreenOrder) :
    s.balances (s.continueScreen x) := by
  unfold State.continueScreen
  split
  · exact balances_refuseOrder _ _ _ _
  · split
    · exact (balances_refuseOrder _ _ _ _).after (balances_discardFrames _ _ _)
    · split
      · exact (balances_refuseOrder _ _ _ _).after (balances_discardFrames _ _ _)
      · exact balances_extendOpen ‹_› (Nat.not_lt.1 ‹_›)

theorem balances_roomForScreen {s : State} {x : ScreenOrder} (form : Form)
    (hconf : (s.terminal x.terminal).configured = true) : s.balances (s.roomForScreen x form) := by
  unfold State.roomForScreen
  split
  · exact balances_refuseOrder _ _ _ _
  · exact balances_appendFrame (fun h => h.sound.1 hconf) (Nat.not_lt.1 ‹_›)

theorem balances_newScreen {s : State} {x : ScreenOrder} (form : Form)
    (hconf : (s.terminal x.terminal).configured = true) : s.balances (s.newScreen x form) := by
  have hcleared := balances_discardFrames s x.terminal (supersededBy form)
  have hstill : ((s.discardFrames x.terminal (supersededBy form)).terminal
      x.terminal).configured = true := by
    change ((s.putTerminal x.terminal _).terminal x.terminal).configured = true
    rw [State.terminal_putTerminal, if_pos rfl]
    exact hconf
  unfold State.newScreen
  dsimp only
  split
  · exact (balances_wantRefresh _ _ _).after ((balances_discardFrames _ _ _).after hcleared)
  · exact (balances_roomForScreen form hstill).after hcleared

/-- A screen goes to a terminal that is configured: the order's checks have looked (R106). -/
theorem balances_judgeScreen (s : State) (x : ScreenOrder) : s.balances (s.judgeScreen x) := by
  refine balances_judge fun hchecks => ?_
  simp only [State.screenChecks, firstRefusal_cons, Bool.not_eq_false'] at hchecks
  obtain ⟨-, hconf, -⟩ := hchecks
  unfold State.takeScreen
  split
  · exact balances_continueScreen s x
  · split
    · exact .refl s
    · exact balances_newScreen _ hconf

/-! ### The orders and requests on stories (R7 to R11, R32 to R43) -/

section
variable (s : State)

theorem balances_fileAt (n d : Nat) (flash : Bool) : s.balances (s.fileAt n d flash) :=
  balances_of_frame (onlyChanges_fileAt s n d flash)

theorem balances_leaveBasket (d n : Nat) : s.balances (s.leaveBasket d n) :=
  balances_of_frame (onlyChanges_leaveBasket s d n)

theorem balances_createStory (n d c : Nat) (flash : Bool) (slug : List Byte) :
    s.balances (s.createStory n d c flash slug) :=
  (balances_tellChange _ _ _ _).after ((balances_modStory _ n _).after balances_of_tables)

theorem balances_takeRevise (n : Nat) (slug : List Byte) : s.balances (s.takeRevise n slug) :=
  (balances_startTest _).after ((pageWork_storyRevised _ n).balances.after
    ((balances_tellChange _ _ _ _).after (balances_modStory s n _)))

/-- A story that is forgotten leaves view stacks and watch lists, and no outbound list (R11). -/
theorem balances_forgetStory (n : Nat) : s.balances (s.forgetStory n) := by
  have hforget : (s.forgetStory n).terminals = Table.update Terminal.initial (·.forget n)
      (Table.keys s.terminals) s.terminals := rfl
  refine ⟨fun _ => rfl, fun ⟨hwf, htotal, hterm⟩ => ⟨?_, ?_, fun x => ?_⟩⟩
  · rw [hforget]
    exact Table.wf_update _ _ _ _ hwf
  · have hwaiting : (s.forgetStory n).blocksWaiting = s.blocksWaiting := by
      rw [blocksWaiting_eq_total, hforget]
      exact Table.total_update (g := Terminal.blocks) (f := (·.forget n)) rfl (fun _ => rfl) _ hwf
    rw [hwaiting]
    exact htotal
  · rw [terminal_forgetStory]
    exact ⟨(hterm x).sound, (hterm x).absent⟩

theorem balances_takePurge (n : Nat) : s.balances (s.takePurge n) := by
  have hleft : s.balances (s.unbasketed n) := by
    unfold State.unbasketed
    split
    · exact balances_leaveBasket s _ n
    · exact .refl s
  rw [takePurge_eq]
  exact State.balances.after balances_of_tables
    ((balances_forgetStory _ n).after ((balances_tellChange _ _ _ _).after hleft))

theorem balances_takeMove (n d : Nat) (flash : Bool) : s.balances (s.takeMove n d flash) :=
  (balances_tellChange _ _ _ _).after
    ((balances_fileAt _ n d flash).after (balances_leaveBasket s _ n))

theorem balances_takePull (n d : Nat) (flash : Bool) (cause : CopyCause) :
    s.balances (s.takePull n d flash cause) :=
  (balances_startTest _).after ((pageWork_storyPulled _ n).balances.after
    ((balances_tellChange _ _ _ _).after (balances_fileAt s n d flash)))

theorem balances_takePlace (n r : Nat) : s.balances (s.takePlace n r) :=
  (balances_startTest _).after ((pageWork_pageAfterPlace _ r _).balances.after
    ((balances_tellChange _ _ _ _).after ((balances_modStory _ n _).after
      (pageWork_putPage s r _).balances)))

theorem balances_holdStory (t n : Nat) (q : RequestKind) : s.balances (s.holdStory t n q) :=
  (balances_tellChange _ _ _ _).after ((balances_offer _ _).after
    (State.balances.after balances_putTerminal_same (State.balances.after balances_putTerminal_same
      ((balances_modStory _ n _).after (balances_modStory s n _)))))

theorem balances_takeSend (t n : Nat) (known desk : Option Nat) (flash : Bool) :
    s.balances (s.takeSend t n known desk flash) := by
  unfold State.takeSend
  split
  · exact balances_attend _ _ _
  · exact (balances_startTest _).after ((pageWork_storySet _ n).balances.after
      ((balances_tellChange _ _ _ _).after ((balances_attend _ _ _).after
        ((balances_dropHold _ t n).after
          ((balances_modStory _ n _).after (balances_leaveBasket s _ n))))))
  · exact (balances_tellChange _ _ _ _).after ((balances_attend _ _ _).after
      ((balances_dropHold _ t n).after
        ((balances_fileAt _ n _ flash).after (balances_leaveBasket s _ n))))

theorem balances_takeReturn (t n : Nat) : s.balances (s.takeReturn t n) :=
  (balances_tellChange _ _ _ _).after ((balances_attend _ _ _).after
    ((balances_dropHold _ t n).after (balances_of_frame (onlyChanges_releaseInPlace s n))))

theorem balances_takeSpike (t n : Nat) : s.balances (s.takeSpike t n) :=
  (balances_tellChange _ _ _ _).after ((balances_attend _ _ _).after
    ((balances_dropHold _ t n).after ((balances_modStory _ n _).after
      ((balances_modStory _ n _).after (balances_leaveBasket s _ n)))))

/-! ### Views, listings and watches (R114 to R118) -/

theorem balances_takeView (t n : Nat) (q : RequestKind) :
    s.balances ((s.pushView t n).textWanted t n q) :=
  State.balances.after (balances_offer _ _) balances_putTerminal_same

theorem balances_takeBack (t : Nat) : s.balances (s.takeBack t) := by
  unfold State.takeBack
  exact State.balances.after (balances_offer _ _) balances_putTerminal_same

/-- A listing is made for a terminal that is LIVE, where its blocks are free (R116). -/
theorem balances_takeList {s : State} {t desk start : Nat} (hlive : (s.terminal t).liveness = .live)
    (hchecks : firstRefusal (s.listChecks desk start) = none) :
    s.balances (s.appendFrame t (.listing (s.listingOf desk start))) := by
  simp only [State.listChecks, firstRefusal_cons, decide_eq_false_iff_not, Nat.not_lt] at hchecks
  obtain ⟨-, -, hroom, -⟩ := hchecks
  exact balances_appendFrame (fun _ => by rw [hlive]; decide) hroom

theorem balances_takeWatch (t n : Nat) : s.balances (s.takeWatch t n) :=
  State.balances.after (balances_attend _ _ _) balances_putTerminal_same

theorem balances_takeUnwatch (t n : Nat) : s.balances (s.takeUnwatch t n) :=
  State.balances.after (balances_attend _ _ _) balances_putTerminal_same

/-! ### What else an answer or an event does (R50, R88, R188) -/

theorem balances_takeKeys (t : Nat) (bytes : List Byte) : s.balances (s.takeKeys t bytes) := by
  unfold State.takeKeys
  split
  · exact balances_attend _ _ _
  · split
    · exact balances_offer s _
    · exact balances_attend _ _ _

theorem balances_refuseUnknown (t : Nat) (body : List Byte) :
    s.balances (s.refuseUnknown t body) := by
  unfold State.refuseUnknown
  split
  · exact balances_attend _ _ _
  · split <;> exact balances_attend _ _ _

theorem balances_nudge (n : Nat) : s.balances (s.nudge n) := by
  have hafter : ∀ u : State, u.balances (u.afterNudge n) := by
    intro u
    unfold State.afterNudge
    dsimp only
    split
    · exact (balances_tellChange _ _ _ _).after (balances_modStory u n _)
    · exact balances_modStory u n _
  unfold State.nudge
  exact (hafter _).after ((balances_attendAll _ _ _).after (balances_modStory s n _))

theorem balances_enterStoreLost : s.balances s.enterStoreLost := by
  unfold State.enterStoreLost
  exact (pageWork_abandon _ _).balances.after
    ((State.balances.foldl _ (fun u t => balances_discardFrames u t OutFrame.isOpen) _ _).after
      ((balances_attendAll _ _ _).after balances_of_tables))

theorem balances_judgeRead (table hi lo : Byte) (count : Nat) :
    s.balances (s.judgeRead table hi lo count) := by
  unfold State.judgeRead
  split
  · exact balances_refuseOrder _ _ _ _
  · exact balances_of_frame (onlyChanges_answerStatus s)
  · exact balances_judge fun _ => balances_offer s _

end

/-! ### Commands with cases of their own -/

section
variable {s : State} (h : s.storeHolds 256) (l : LineId)
include h

theorem whole_restart (b : List Byte) : Answer.whole (execRestart b s) := by
  refine whole_order h fun u _ hu => ?_
  split
  · exact (balances_refuseOrder _ _ _ _).store hu
  · unfold State.takeRestart
    split
    · exact storeHolds_orderedRestart hu _
    · exact hu.of_tables

theorem whole_typesetMode (b : List Byte) : Answer.whole (execTypesetMode b s) := by
  refine whole_balanced h fun u _ => ?_
  split
  · exact balances_refuseOrder _ _ _ _
  · exact (balances_startTest _).after (pageWork_putTypesetter u _).balances

theorem whole_announce (b : List Byte) : Answer.whole (execAnnounce b s) := by
  refine whole_balanced h fun u _ => balances_judge fun _ => ?_
  unfold State.takeAnnounce
  split
  · exact .refl u
  · exact balances_createStory u _ _ _ _ _

theorem whole_fullRestart : Answer.whole (execFullRestart s) := by
  refine whole_next ?_
  split
  · exact storeHolds_orderedRestart h _
  · exact h

theorem whole_warmRestart : Answer.whole (execWarmRestart s) := by
  refine whole_next ?_
  split
  · exact storeHolds_orderedRestart h _
  · exact h

theorem whole_noticeFrameEnd : Answer.whole (execNoticeFrameEnd s) := by
  refine whole_next ?_
  split
  · exact h
  · split
    · exact storeHolds_orderedRestart h _
    · exact (balances_of_frame (onlyChanges_startNotice _)).store h.of_tables

theorem whole_pageCallOwedOffered : Answer.whole (execPageCallOwedOffered s) := by
  refine whole_next ?_
  split
  · exact h
  · split
    · exact (pageWork_offerCall s).balances.store h
    · exact h

theorem whole_storeSilenceExpiry : Answer.whole (execStoreSilenceExpiry s) := by
  refine whole_next ?_
  split
  · exact h
  · exact ((balances_enterStoreLost _).after (balances_reach s _)).store h

theorem whole_samplePeriod : Answer.whole (execSamplePeriod s) := by
  refine whole_next ?_
  split
  · exact h
  · exact ((balances_of_frame (onlyChanges_stream _)).after
      ((balances_of_frame (State.onlyChanges.foldl _ onlyChanges_periodAtDesk _ _)).after
        balances_of_tables)).store h

theorem whole_dataTimerExpiry : Answer.whole (execDataTimerExpiry s) := by
  refine whole_next ?_
  split
  · exact h
  · exact ((pageWork_abandon _ _).balances.after (balances_reach s _)).store h

theorem whole_waitTimerExpiry : Answer.whole (execWaitTimerExpiry s) := by
  refine whole_next ?_
  split
  · exact h
  · exact ((pageWork_stall _).balances.after (balances_reach s _)).store h

theorem whole_nudgeExpiry (n : Nat) : Answer.whole (execNudgeExpiry n s) := by
  refine whole_next ?_
  split
  · exact h
  · exact ((balances_nudge _ n).after (balances_reach s _)).store h

/-! ### Events of the terminal lines (R84 to R86, R96) -/

theorem whole_pollFrameSent : Answer.whole (execPollFrameSent l s) := by
  refine whole_next ?_
  split
  · rename_i hact
    exact State.storeHolds.putLine (by rw [hact]; exact h) rfl
  all_goals exact h

theorem whole_badAnswerFrame : Answer.whole (execBadAnswerFrame l s) := by
  refine whole_next ?_
  split
  · rename_i hact
    exact h.turned l (balances_miss s _) (by rw [hact]; rfl)
  all_goals exact h

theorem whole_pollWindowExpiry : Answer.whole (execPollWindowExpiry l s) := by
  refine whole_next ?_
  split
  · rename_i hact
    exact h.turned l ((balances_miss _ _).after (balances_reach s _)) (by rw [hact]; rfl)
  all_goals exact h

theorem whole_idleWaitExpiry : Answer.whole (execIdleWaitExpiry l s) := by
  refine whole_next ?_
  split
  · rename_i hact
    exact h.turned l (balances_reach s _) (by rw [hact]; rfl)
  all_goals exact h

/-- The frame's blocks are free again, and the line that sent it goes on (R96, R104). -/
theorem whole_outputFrameEnd : Answer.whole (execOutputFrameEnd l s) := by
  refine whole_next ?_
  split
  · rename_i w hact
    refine State.storeHolds.lineTurn ⟨h.canonical, ?_, h.terminal⟩
    have htotal := h.total
    have hblocks : (s.line l).activity.blocks = w.blocks := by rw [hact]; rfl
    change s.freeBlocks + w.blocks + s.blocksWaiting + s.blocksOnLines =
      256 + (s.line l).activity.blocks
    omega
  all_goals exact h

theorem storeHolds_idleStep : s.idleStep.storeHolds 256 := by
  unfold State.idleStep
  split
  · exact h.of_tables
  · rename_i m b rest _ _
    have hrest : ({ s with lnrx := rest } : State).storeHolds 256 := h.of_tables
    unfold State.takeLineByte
    split
    · rename_i hact
      exact (State.storeHolds.putLine (n := 256) (by rw [hact]; exact hrest) rfl).of_tables
    all_goals exact hrest
  · exact h.of_tables

end

/-! ### Every command, and every step -/

/-- Every command keeps the frame store whole. -/
theorem whole_exec {s : State} (h : s.storeHolds 256) (c : Instr) : Answer.whole (exec c s) := by
  cases c with
  | idle b =>
    exact whole_balanced h fun _ _ => balances_judge fun _ => balances_of_tables
  | run b =>
    exact whole_balanced h fun _ _ => balances_judge fun _ =>
      (balances_startTest _).after balances_of_tables
  | restart b => exact whole_restart h b
  | ackRestart b => exact whole_balanced h fun _ _ => balances_of_tables
  | loadDesk b =>
    exact whole_balanced h fun _ _ => balances_judge fun _ =>
      (balances_of_frame (onlyChanges_deskTurns _ _ _ _)).after balances_of_tables
  | loadRoute b | loadDiversion b | setPressure b =>
    exact whole_balanced h fun _ _ => balances_judge fun _ => balances_of_tables
  | loadTerminal b =>
    exact whole_balanced h fun u x => balances_judge fun _ => balances_takeLoadTerminal u x
  | reseed b =>
    exact whole_balanced h fun u x => balances_judge fun _ =>
      balances_of_frame (onlyChanges_takeReseed u x.toNat)
  | setTiming b =>
    exact whole_balanced h fun _ _ => balances_of_tables (hl := fun l => by cases l <;> rfl)
  | setReporting b => exact whole_balanced h fun _ _ => balances_of_tables
  | read b => exact whole_balanced h fun u _ => balances_judgeRead u _ _ _ _
  | readStatus b =>
    exact whole_balanced h fun u _ => balances_of_frame (onlyChanges_answerStatus u)
  | announce b => exact whole_announce h b
  | revise b =>
    exact whole_balanced h fun u x => balances_judge fun _ => balances_takeRevise u x.1 x.2
  | purge b => exact whole_balanced h fun u n => balances_judge fun _ => balances_takePurge u n
  | move b => exact whole_balanced h fun u _ => balances_judge fun _ => balances_takeMove u _ _ _
  | pull b => exact whole_balanced h fun u _ => balances_judge fun _ => balances_takePull u _ _ _ _
  | screen b | screenContinuation b => exact whole_balanced h balances_judgeScreen
  | planEdition b =>
    exact whole_balanced h fun u _ => balances_judge fun _ => (pageWork_putEdition u _ _).balances
  | startEdition b =>
    exact whole_balanced h fun u x => balances_judge fun _ =>
      (pageWork_takeStart u x.toNat).balances
  | closeEdition b =>
    exact whole_balanced h fun u x => balances_judge fun _ =>
      (pageWork_takeClose u x.toNat).balances
  | sealEdition b =>
    exact whole_balanced h fun u x => balances_judge fun _ => (pageWork_takeSeal u x.toNat).balances
  | makePage b =>
    exact whole_balanced h fun u x => balances_judge fun _ =>
      (pageWork_takeMakePage u x.1 x.2).balances
  | place b =>
    exact whole_balanced h fun u x => balances_judge fun _ => balances_takePlace u x.1 x.2
  | lift b =>
    exact whole_balanced h fun u n => balances_judge fun _ => (pageWork_takeLift u n).balances
  | release b =>
    exact whole_balanced h fun u x => balances_judge fun _ =>
      (pageWork_takeRelease u x.toNat).balances
  | replate b =>
    exact whole_balanced h fun u x => balances_judge fun _ =>
      (pageWork_takeReplate u x.toNat).balances
  | dropPage b =>
    exact whole_balanced h fun u x => balances_judge fun _ =>
      (pageWork_takeDropPage u x.toNat).balances
  | typesetMode b => exact whole_typesetMode h b
  | abortSend b =>
    exact whole_balanced h fun u _ =>
      ((pageWork_abandon _ _).after (pageWork_putTypesetter u _)).balances
  | pageData b =>
    exact whole_balanced h fun u x => balances_judge fun _ => (pageWork_takePageData u x).balances
  | unknownOrder k b =>
    exact whole_next (h.takeFrame k b fun u hu => (balances_refuseOrder u _ _ _).store hu)
  | frameLengthOver k | frameBadCheck k => exact whole_next ((balances_failFrame s k _).store h)
  | powerOn | rstinRelease => exact whole_next (storeHolds_coldRestart s _)
  | fullRestart => exact whole_fullRestart h
  | warmRestart => exact whole_warmRestart h
  | noticeFrameEnd => exact whole_noticeFrameEnd h
  | pageCallOwedOffered => exact whole_pageCallOwedOffered h
  | storeSilenceExpiry => exact whole_storeSilenceExpiry h
  | pollFrameSent l => exact whole_pollFrameSent h l
  | nil l d k b => exact whole_answer h l d _ fun u _ => .refl u
  | keys l d b => exact whole_answer h l d _ fun u _ => balances_takeKeys u _ b
  | get l d a =>
    exact whole_request h fun u _ _ => balances_judgeRequest fun _ => balances_holdStory u _ _ _
  | getNext l d a =>
    exact whole_request h fun u _ _ => balances_judgeRequest fun _ => balances_holdStory u _ _ _
  | send l d a =>
    exact whole_request h fun u _ _ => balances_judgeRequest fun _ => balances_takeSend u _ _ _ _ _
  | returnStory l d a =>
    exact whole_request h fun u _ _ => balances_judgeRequest fun _ => balances_takeReturn u _ _
  | spike l d a =>
    exact whole_request h fun u _ _ => balances_judgeRequest fun _ => balances_takeSpike u _ _
  | pullRequest l d a =>
    exact whole_request h fun u _ _ => balances_judgeRequest fun _ =>
      (balances_attend _ _ _).after (balances_takePull u _ _ _ _)
  | view l d a =>
    exact whole_request h fun u _ _ => balances_judgeRequest fun _ => balances_takeView u _ _ _
  | back l d a =>
    exact whole_request h fun u _ _ => balances_judgeRequest fun _ => balances_takeBack u _
  | list l d a =>
    exact whole_request h fun _ _ hlive => balances_judgeRequest (balances_takeList hlive)
  | watch l d a =>
    exact whole_request h fun u _ _ => balances_judgeRequest fun _ => balances_takeWatch u _ _
  | unwatch l d a =>
    exact whole_request h fun u _ _ => balances_judgeRequest fun _ => balances_takeUnwatch u _ _
  | badAnswerFrame l => exact whole_badAnswerFrame h l
  | pollWindowExpiry l => exact whole_pollWindowExpiry h l
  | idleWaitExpiry l => exact whole_idleWaitExpiry h l
  | outputFrameEnd l => exact whole_outputFrameEnd h l
  | nudgeExpiry n => exact whole_nudgeExpiry h n
  | samplePeriod => exact whole_samplePeriod h
  | tsrdyAsserted =>
    exact whole_next (((pageWork_tsProceed _).after (PageWrite.ready s _).work).balances.store h)
  | galleyBlockEnd r => exact whole_next ((pageWork_endBlock s r).balances.store h)
  | dataTimerExpiry => exact whole_dataTimerExpiry h
  | waitTimerExpiry => exact whole_waitTimerExpiry h
  | unknownRequest l d b => exact whole_answer h l d _ fun u _ => balances_refuseUnknown u _ b

/-- Settles O7: an idle step counts no block, and every command keeps the account. -/
theorem frameStoreStaysWhole : Obligations.FrameStoreStaysWhole := by
  unfold Obligations.FrameStoreStaysWhole
  intro s t h hstep
  rw [frameStoreWhole_iff] at h ⊢
  unfold step at hstep
  split at hstep
  · cases hstep
    exact storeHolds_idleStep h
  · exact whole_exec (s := { s with pending := _ }) h.of_tables _ t hstep

end Sys2Proof.Machine
end


section
/-! SUPPORT. The SCREEN order (R104 to R111): its checks, and the outbound list and the free blocks
that a taken one writes, once for a terminal, whatever it discards on the way. -/

namespace Sys2Proof.Machine

/-! ### Writing an outbound list (R104) -/

/-- Terminal `t`'s outbound list and the free blocks are written (R104). -/
def State.withOutbound (s : State) (t : Nat) (fs : List OutFrame) (free : Nat) : State :=
  { s.putTerminal t { s.terminal t with outbound := fs } with freeBlocks := free }

section
variable (s : State) (t : Nat) (fs : List OutFrame) (free : Nat)

theorem terminal_withOutbound :
    (s.withOutbound t fs free).terminal t = { s.terminal t with outbound := fs } :=
  (State.terminal_putTerminal s t _ t).trans (if_pos rfl)

/-- Of a configured terminal's record, the last write is the one that stands. -/
theorem putTerminal_withOutbound (h : (s.terminal t).configured = true) (r : Terminal) :
    (s.withOutbound t fs free).putTerminal t r =
      { s.putTerminal t r with freeBlocks := free } := by
  have hne : { s.terminal t with outbound := fs } ≠ Terminal.initial := fun heq =>
    Bool.false_ne_true ((congrArg Terminal.configured heq).symm.trans h)
  exact congrArg (fun u : State => { u with freeBlocks := free })
    (putTerminal_putTerminal s t r hne)

theorem withOutbound_withOutbound (h : (s.terminal t).configured = true) (gs : List OutFrame)
    (n : Nat) : (s.withOutbound t fs free).withOutbound t gs n = s.withOutbound t gs n := by
  have hput := putTerminal_withOutbound s t fs free h { s.terminal t with outbound := gs }
  rw [State.withOutbound, terminal_withOutbound, hput]
  rfl

theorem discardFrames_eq (drop : OutFrame → Bool) :
    s.discardFrames t drop = s.withOutbound t ((s.terminal t).outbound.filter fun f => !drop f)
      (s.freeBlocks + framesBlocks ((s.terminal t).outbound.filter drop)) := rfl

theorem appendFrame_eq (f : OutFrame) :
    s.appendFrame t f =
      s.withOutbound t ((s.terminal t).outbound ++ [f]) (s.freeBlocks - f.blocks) := rfl

theorem extendOpen_eq (f g : OutFrame) :
    s.extendOpen t f g = s.withOutbound t (replaceOpen g (s.terminal t).outbound)
      (s.freeBlocks - (g.blocks - f.blocks)) := rfl

end

/-! ### The checks (R106) -/

/-- The order that a SCREEN's body carries (R197). -/
def screenOrder (x f c m : Byte) (text : List Byte) : ScreenOrder :=
  { terminal := x.toNat, form := readForm f, continuation := readFlag c, more := readFlag m,
    text := text }

theorem exec_screen_of_listening {s : State} (h : s.listening) (x f c m : Byte) {hi lo : Byte}
    {text : List Byte} (hlen : text.length = hi.toNat * 256 + lo.toNat)
    (hmax : text.length ≤ 1024) :
    exec (.screen (x :: f :: c :: m :: hi :: lo :: text)) s =
      .next (s.heard.judgeScreen (screenOrder x f c m text)) := by
  have hread : readScreen (x :: f :: c :: m :: hi :: lo :: text) =
      some (screenOrder x f c m text) := if_pos ⟨hlen, hmax⟩
  have hfits : (x :: f :: c :: m :: hi :: lo :: text).length ≤ 1040 := by
    simp only [List.length_cons]
    omega
  refine congrArg Host.Outcome.next ((takeFrame_of_listening s h _ _ hfits _).trans ?_)
  rw [hread]
  rfl

/-- An order outside the terminals, or a new screen of no known form, is refused RANGE (R106). -/
abbrev ScreenOrder.outside (x : ScreenOrder) : Prop :=
  95 < x.terminal ∨ (x.continuation = false ∧ x.form = none)

section
variable {s : State} {x : ScreenOrder}

theorem judgeScreen_eq :
    s.judgeScreen x =
      if x.outside then s.refuseOrder Kind.screen .range (some x.terminal)
      else if (s.terminal x.terminal).configured = false then
        s.refuseOrder Kind.screen .noTerminal (some x.terminal)
      else if (s.terminal x.terminal).liveness = .dark then
        s.refuseOrder Kind.screen .dark (some x.terminal)
      else s.takeScreen x := by
  simp only [State.judgeScreen, State.screenChecks, judge_cons, judge_nil, Bool.or_eq_true,
    Bool.and_eq_true, Bool.not_eq_true', decide_eq_true_eq, beq_iff_eq, Option.isNone_iff_eq_none]

theorem judgeScreen_of_outside (h : x.outside) :
    s.judgeScreen x = s.refuseOrder Kind.screen .range (some x.terminal) := by
  rw [judgeScreen_eq, if_pos h]

variable (hin : ¬ x.outside)
include hin

theorem judgeScreen_of_unconfigured (h : (s.terminal x.terminal).configured = false) :
    s.judgeScreen x = s.refuseOrder Kind.screen .noTerminal (some x.terminal) := by
  rw [judgeScreen_eq, if_neg hin, if_pos h]

theorem judgeScreen_of_dark (hconf : (s.terminal x.terminal).configured = true)
    (h : (s.terminal x.terminal).liveness = .dark) :
    s.judgeScreen x = s.refuseOrder Kind.screen .dark (some x.terminal) := by
  rw [judgeScreen_eq, if_neg hin, if_neg (by rw [hconf]; decide), if_pos h]

theorem judgeScreen_of_passed (hconf : (s.terminal x.terminal).configured = true)
    (h : (s.terminal x.terminal).liveness ≠ .dark) : s.judgeScreen x = s.takeScreen x := by
  rw [judgeScreen_eq, if_neg hin, if_neg (by rw [hconf]; decide), if_neg h]

end

theorem readForm_eq_none_iff (f : Byte) : readForm f = none ↔ f ≠ 0 ∧ f ≠ 1 := by
  unfold readForm
  split
  · exact iff_of_false (by nofun) fun h => h.1 ‹_›
  · split
    · exact iff_of_false (by nofun) fun h => h.2 ‹_›
    · exact iff_of_true rfl ⟨‹_›, ‹_›⟩

/-! ### Continuations (R107) -/

theorem openFrame_eq_none {r : Terminal} (h : ∀ g ∈ r.outbound, g.isOpen = false) :
    r.openFrame = none :=
  List.find?_eq_none.2 fun g hg => by simp [h g hg]

section
variable {before after : List OutFrame} {f : OutFrame} (hf : f.isOpen = true)
  (hclosed : ∀ g ∈ before ++ after, g.isOpen = false)
include hf hclosed

/-- The one open frame is found where it stands. -/
theorem openFrame_of_split {r : Terminal} (h : r.outbound = before ++ f :: after) :
    r.openFrame = some f := by
  have hnone : before.find? OutFrame.isOpen = none :=
    List.find?_eq_none.2 fun g hg => by simp [hclosed g (List.mem_append_left _ hg)]
  rw [Terminal.openFrame, h, List.find?_append, hnone, List.find?_cons_of_pos hf]
  rfl

theorem filter_open_of_split : (before ++ f :: after).filter OutFrame.isOpen = [f] := by
  have hnone : (before ++ after).filter OutFrame.isOpen = [] :=
    List.filter_eq_nil_iff.2 fun g hg => by simp [hclosed g hg]
  rw [List.filter_append, List.append_eq_nil_iff] at hnone
  rw [List.filter_append, List.filter_cons_of_pos hf, hnone.1, hnone.2]
  rfl

theorem filter_closed_of_split :
    (before ++ f :: after).filter (fun g => !g.isOpen) = before ++ after := by
  have hall : (before ++ after).filter (fun g => !g.isOpen) = before ++ after :=
    List.filter_eq_self.2 fun g hg => by simp [hclosed g hg]
  rw [← hall, List.filter_append, List.filter_append, List.filter_cons_of_neg (by simp [hf])]

theorem replaceOpen_of_split (g : OutFrame) :
    replaceOpen g (before ++ f :: after) = before ++ g :: after := by
  induction before with
  | nil => exact if_pos hf
  | cons e rest ih =>
    have he : e.isOpen = false := hclosed e List.mem_cons_self
    have hrec := ih fun g hg => hclosed g (List.mem_cons_of_mem _ hg)
    simp [replaceOpen, he, hrec]

end

/-- A continuation of the one open frame: refused, with that frame discarded, or its text. -/
theorem continueScreen_of_open {s : State} {x : ScreenOrder} {before after : List OutFrame}
    {form : Form} {old : List Byte}
    (hout : (s.terminal x.terminal).outbound = before ++ .screen form old true :: after)
    (hclosed : ∀ g ∈ before ++ after, g.isOpen = false) :
    s.continueScreen x =
      let cut := fun code => (s.withOutbound x.terminal (before ++ after)
        (s.freeBlocks + blocksFor old.length)).refuseOrder Kind.screen code (some x.terminal)
      let more := blocksFor (old.length + x.text.length) - blocksFor old.length
      if 2048 < old.length + x.text.length then cut .length
      else if s.freeBlocks < more then cut .busy
      else s.withOutbound x.terminal (before ++ .screen form (old ++ x.text) x.more :: after)
        (s.freeBlocks - more) := by
  have hf : (OutFrame.screen form old true).isOpen = true := rfl
  have hcut : s.discardFrames x.terminal OutFrame.isOpen = s.withOutbound x.terminal
      (before ++ after) (s.freeBlocks + blocksFor old.length) := by
    rw [discardFrames_eq, hout, filter_closed_of_split hf hclosed, filter_open_of_split hf hclosed]
    rfl
  have hblocks : ((OutFrame.screen form old true).extend x.text x.more).blocks =
      blocksFor (old.length + x.text.length) := congrArg blocksFor List.length_append
  rw [State.continueScreen, openFrame_of_split hf hclosed hout]
  simp only [hcut, extendOpen_eq, hout, replaceOpen_of_split hf hclosed, hblocks]
  rfl

/-- Settles O47: the checks decide in their order, and the open frame is found where it stands. -/
theorem continuationExtendsTheOpenFrame : Obligations.ContinuationExtendsTheOpenFrame := by
  unfold Obligations.ContinuationExtendsTheOpenFrame
  intro s x f c m hi lo text hlisten hc hlen hmax k me refuse blocks answer
  set y := screenOrder x f c m text
  have hcont : y.continuation = true := bne_iff_ne.2 hc
  have hjudged : ∀ {v}, s.heard.judgeScreen y = v → answer v := fun heq =>
    (exec_screen_of_listening hlisten x f c m hlen hmax).trans (congrArg Host.Outcome.next heq)
  refine ⟨fun hrange => hjudged (judgeScreen_of_outside (.inl hrange)), fun hrange => ?_⟩
  have hin : ¬ y.outside :=
    not_or.2 ⟨Nat.not_lt.2 hrange, fun h => Bool.false_ne_true (h.1.symm.trans hcont)⟩
  refine ⟨fun hconf => hjudged (judgeScreen_of_unconfigured hin hconf),
    fun hconf hdark => hjudged (judgeScreen_of_dark hin hconf hdark), fun hconf hdark => ?_⟩
  have htake : s.heard.takeScreen y = s.heard.continueScreen y := if_pos hcont
  have htaken : ∀ {v}, s.heard.continueScreen y = v → answer v := fun heq =>
    hjudged ((judgeScreen_of_passed (s := s.heard) hin hconf hdark).trans (htake.trans heq))
  refine ⟨fun hclosed => htaken ?_, fun before after form old hout hclosed =>
    htaken (continueScreen_of_open (s := s.heard) hout hclosed)⟩
  rw [State.continueScreen, openFrame_eq_none (r := s.heard.terminal y.terminal) hclosed]
  rfl

/-! ### New screens (R108 to R111) -/

/-- The form that a listed form byte names (R193). -/
def formOf (f : Byte) : Form := if f = 0 then .refresh else .delta

theorem readForm_of_listed {f : Byte} (h : f = 0 ∨ f = 1) : readForm f = some (formOf f) := by
  rcases h with rfl | rfl <;> rfl

theorem formOf_beq_refresh (f : Byte) : (formOf f == .refresh) = (f == 0) := by
  unfold formOf
  split
  · subst_vars; rfl
  · exact (beq_eq_false_iff_ne.2 ‹f ≠ 0›).symm

theorem formOf_eq_delta_iff {f : Byte} (h : f = 0 ∨ f = 1) : formOf f = .delta ↔ f = 1 := by
  rcases h with rfl | rfl <;> decide

section
variable {s : State} {t free : Nat} {fs : List OutFrame}

/-- The low-water degrade applies, where `fs` is the list and `free` the free blocks (R109). -/
abbrev State.degradesWith (s : State) (t : Nat) (form : Form) (fs : List OutFrame) (free : Nat) :
    Prop :=
  free < s.timing.lowWater ∧ form = .delta ∧ s.inSurge (s.terminal t).desk = false ∧
    4 ≤ fs.countP OutFrame.isPendingScreen

theorem degrades_withOutbound (form : Form) :
    (s.withOutbound t fs free).degrades t form = true ↔ s.degradesWith t form fs free := by
  have hsurge : (s.withOutbound t fs free).inSurge (s.terminal t).desk =
      s.inSurge (s.terminal t).desk := rfl
  rw [State.degradesWith, List.countP_eq_length_filter]
  simp only [State.degrades, terminal_withOutbound, hsurge, Bool.and_eq_true, decide_eq_true_eq,
    beq_iff_eq, Bool.not_eq_true', and_assoc]
  rfl

/-- A REFRESH WANTED is drawn, or the mark set, with the list written in the same record (R111). -/
theorem wantRefresh_withOutbound (hconf : (s.terminal t).configured = true)
    (reason : RefreshReason) :
    (s.withOutbound t fs free).wantRefresh t reason =
      if (s.terminal t).refreshOwed.isSome then s.withOutbound t fs free
      else if s.queue.length < 64 then (s.withOutbound t fs free).offer (.refreshWanted t reason)
      else { s.putTerminal t { s.terminal t with outbound := fs, refreshOwed := some reason } with
        freeBlocks := free } := by
  unfold State.wantRefresh
  rw [terminal_withOutbound]
  dsimp only
  rw [putTerminal_withOutbound s t fs free hconf]
  exact ite_congr rfl (fun _ => rfl) fun _ =>
    ite_congr (propext (noticeFree_pos_iff _)) (fun _ => rfl) fun _ => rfl

theorem roomForScreen_withOutbound {x : ScreenOrder}
    (hconf : (s.terminal x.terminal).configured = true) (form : Form) :
    (s.withOutbound x.terminal fs free).roomForScreen x form =
      if free < blocksFor x.text.length then
        (s.withOutbound x.terminal fs free).refuseOrder Kind.screen .busy (some x.terminal)
      else s.withOutbound x.terminal (fs ++ [.screen form x.text x.more])
        (free - blocksFor x.text.length) := by
  rw [State.roomForScreen, appendFrame_eq, terminal_withOutbound,
    withOutbound_withOutbound s _ fs free hconf]
  rfl

/-- A new screen, once what it supersedes has left the list `fs` and the free blocks `free` (R108 to
R110). -/
theorem newScreen_of_cleared {x : ScreenOrder} {form : Form}
    (hconf : (s.terminal x.terminal).configured = true)
    (hcleared : s.discardFrames x.terminal (supersededBy form) =
      s.withOutbound x.terminal fs free) :
    s.newScreen x form =
      if s.degradesWith x.terminal form fs free then
        (s.withOutbound x.terminal (fs.filter fun g => !g.isPendingScreen)
          (free + framesBlocks (fs.filter OutFrame.isPendingScreen))).wantRefresh x.terminal
            .degrade
      else (s.withOutbound x.terminal fs free).roomForScreen x form := by
  rw [State.newScreen, hcleared]
  refine ite_congr (propext (degrades_withOutbound form)) (fun _ => ?_) fun _ => rfl
  rw [discardFrames_eq, terminal_withOutbound, withOutbound_withOutbound s _ fs free hconf]
  rfl

end

/-- Settles O46: the checks decide in their order, and what a taken screen writes is one record. -/
theorem newScreenTakesItsPlace : Obligations.NewScreenTakesItsPlace := by
  unfold Obligations.NewScreenTakesItsPlace
  intro s x f c m hi lo text hlisten hc hlen hmax k me isOpen isClosed gone kept sum free need
    degraded refuse cleared answer
  set y := screenOrder x f c m text
  have hcont : y.continuation = false := bne_eq_false_iff_eq.2 hc
  have hjudged : ∀ {v}, s.heard.judgeScreen y = v → answer v := fun heq =>
    (exec_screen_of_listening hlisten x f c m hlen hmax).trans (congrArg Host.Outcome.next heq)
  refine ⟨fun hout => hjudged (judgeScreen_of_outside
    (hout.imp_right fun hform => ⟨hcont, (readForm_eq_none_iff f).2 hform⟩)),
    fun hrange hform => ?_⟩
  have hread : y.form = some (formOf f) := readForm_of_listed hform
  have hin : ¬ y.outside :=
    not_or.2 ⟨Nat.not_lt.2 hrange, fun h => by rw [hread] at h; cases h.2⟩
  refine ⟨fun hconf => hjudged (judgeScreen_of_unconfigured hin hconf),
    fun hconf hdark => hjudged (judgeScreen_of_dark hin hconf hdark), fun hconf hdark => ?_⟩
  have hheard : (s.heard.terminal y.terminal).configured = true := hconf
  have htake : s.heard.takeScreen y = s.heard.newScreen y (formOf f) := by
    simp [State.takeScreen, hcont, hread]
  have hgone : gone = supersededBy (formOf f) := by
    funext g
    rw [supersededBy, formOf_beq_refresh]
    cases g <;> rfl
  have hclosed : isClosed = OutFrame.isPendingScreen := by
    funext g
    cases g <;> rfl
  have hcleared : s.heard.discardFrames k (supersededBy (formOf f)) =
      s.heard.withOutbound k kept free := by rw [← hgone]; rfl
  have hdegraded : degraded ↔ s.heard.degradesWith k (formOf f) kept free := by
    have hcalm := (inSurge_iff s me.desk).not
    rw [Bool.not_eq_true, not_or] at hcalm
    change (free < _ ∧ f = 1 ∧ _ ≠ _ ∧ _ ≠ _ ∧ 4 ≤ kept.countP isClosed) ↔ _
    rw [hclosed, ← and_assoc (b := _ ≠ SurgeState.easing)]
    exact and_congr_right fun _ =>
      and_congr (formOf_eq_delta_iff hform).symm (and_congr_left fun _ => hcalm.symm)
  have hnew : ∀ {v}, _ = v → answer v := fun {v} heq =>
    hjudged ((judgeScreen_of_passed hin hheard hdark).trans
      (htake.trans ((newScreen_of_cleared hheard hcleared).trans heq)))
  refine ⟨fun hdeg => hnew ?_, fun hdeg hfew => hnew ?_, fun hdeg hroom => hnew ?_⟩
  · refine (if_pos (hdegraded.1 hdeg)).trans ((wantRefresh_withOutbound hheard .degrade).trans ?_)
    rw [← hclosed]
    rfl
  · exact (if_neg (mt hdegraded.2 hdeg)).trans
      ((roomForScreen_withOutbound hheard (formOf f)).trans (if_pos hfew))
  · exact (if_neg (mt hdegraded.2 hdeg)).trans
      ((roomForScreen_withOutbound hheard (formOf f)).trans (if_neg (Nat.not_lt.2 hroom)))

end Sys2Proof.Machine
end


section
/-! SUPPORT. VIEW, BACK, LIST, WATCH and UNWATCH (R112 to R118): the checks of each, decided in
their order in the state the liveness update leaves, and the one record each writes. -/

namespace Sys2Proof.Machine

/-! ### The number a request carries (R193, R200, log 12) -/

/-- Two bytes carry no story number, or one that is read as they stand. -/
theorem readOption2_cases (hi lo : Byte) :
    ((hi == 0xFF && lo == 0xFF) = true ∧ readOption2 hi lo = none) ∨
      ((hi == 0xFF && lo == 0xFF) = false ∧
        readOption2 hi lo = some (hi.toNat * 256 + lo.toNat)) := by
  rw [readOption2_eq]
  cases hi == 0xFF && lo == 0xFF
  · exact .inr ⟨rfl, rfl⟩
  · exact .inl ⟨rfl, rfl⟩

theorem carriedStory_some (n : Nat) :
    carriedStory (some n) = if n ≤ 1023 then some n else none := by
  simp [carriedStory, Option.filter]

/-- A view or watch request that is refused has known the number it carries, if that is a story
number. -/
theorem carriedStory_readOption2 (hi lo : Byte) :
    carriedStory (readOption2 hi lo) =
      if (hi == 0xFF && lo == 0xFF) = false ∧ hi.toNat * 256 + lo.toNat ≤ 1023 then
        some (hi.toNat * 256 + lo.toNat)
      else none := by
  rcases readOption2_cases hi lo with ⟨hnone, hread⟩ | ⟨hnone, hread⟩
  · rw [hread, hnone]
    rfl
  · rw [hread, hnone, carriedStory_some]
    exact if_congr (and_iff_right rfl).symm rfl rfl

/-! ### The checks, while the part is RUNNING (R114 to R118) -/

section
variable {u : State} (hrun : u.part = .running) (t : Nat) (known : Option Nat) (taken : State)
include hrun

/-- A check of the part's state that a request passes while the part is RUNNING (R29). -/
theorem judgeRequest_of_running (q : RequestKind) (full : Option Nat) (rest : List (Bool × Code)) :
    u.judgeRequest t q known full ((u.part == .loading, .notReady) :: rest) taken =
      u.judgeRequest t q known full rest taken := by
  rw [judgeRequest_cons, hrun]
  rfl

/-- A request that must carry a story number carries none. -/
theorem judgeRequest_of_carries_none (q : RequestKind) (full : Option Nat)
    (rest : List (Bool × Code)) :
    u.judgeRequest t q known full
      ((u.part == .loading, .notReady) :: ((none : Option Nat).isNone, .noStory) :: rest) taken =
        u.refuseRequest t q .noStory known none :=
  judgeRequest_of_running hrun t known taken q full _

theorem judge_watch_some (n : Nat) :
    u.judgeRequest t .watch known none (u.watchChecks t (some n)) taken =
      if 1023 < n then u.refuseRequest t .watch .range known none
      else if u.story? n = none then u.refuseRequest t .watch .noStory known none
      else if n ∈ (u.terminal t).watches then u.refuseRequest t .watch .duplicate known none
      else if 4 ≤ (u.terminal t).watches.length then u.refuseRequest t .watch .limit known none
      else taken := by
  rw [State.watchChecks, judgeRequest_of_running hrun]
  simp only [judgeRequest_cons, judgeRequest_nil, storyOutside, State.namesFree, Option.isNone_some,
    Option.getD_some, isFree_iff, decide_eq_true_eq, List.contains_iff_mem, Bool.false_eq_true,
    if_false, reduceCtorEq]

theorem judge_unwatch_some (n : Nat) :
    u.judgeRequest t .unwatch known none (u.unwatchChecks t (some n)) taken =
      if 1023 < n then u.refuseRequest t .unwatch .range known none
      else if n ∉ (u.terminal t).watches then u.refuseRequest t .unwatch .noStory known none
      else taken := by
  rw [State.unwatchChecks, judgeRequest_of_running hrun]
  simp only [judgeRequest_cons, judgeRequest_nil, storyOutside, Option.isNone_some,
    Option.getD_some, decide_eq_true_eq, Bool.not_eq_true', ← Bool.not_eq_true,
    List.contains_iff_mem, Bool.false_eq_true, if_false, reduceCtorEq]

theorem judge_list (desk start : Nat) :
    u.judgeRequest t .list known none (u.listChecks desk start) taken =
      if 15 < desk ∨ 127 < start then u.refuseRequest t .list .range known none
      else if u.freeBlocks < (OutFrame.listing (u.listingOf desk start)).blocks then
        u.refuseRequest t .list .busy known none
      else taken := by
  rw [State.listChecks, judgeRequest_of_running hrun]
  simp only [judgeRequest_cons, judgeRequest_nil, Bool.or_eq_true, decide_eq_true_eq, reduceCtorEq,
    if_false]

variable (hstore : u.storeLost = false)
include hstore

/-- The checks of the part's state and of the store processor's, which VIEW and BACK begin with. -/
theorem judgeRequest_of_inService (q : RequestKind) (full : Option Nat)
    (rest : List (Bool × Code)) :
    u.judgeRequest t q known full
      ((u.part == .loading, .notReady) :: (u.storeLost, .storeLost) :: rest) taken =
        u.judgeRequest t q known full rest taken := by
  rw [judgeRequest_of_running hrun, judgeRequest_cons, hstore]
  rfl

theorem judge_view_none :
    u.judgeRequest t .view known none (u.viewChecks none) taken =
      u.refuseRequest t .view .noStory known none :=
  judgeRequest_of_inService hrun t known taken hstore .view none _

theorem judge_view_some (n : Nat) :
    u.judgeRequest t .view known none (u.viewChecks (some n)) taken =
      if 1023 < n then u.refuseRequest t .view .range known none
      else if u.story? n = none then u.refuseRequest t .view .noStory known none
      else if 64 ≤ u.queue.length then u.refuseRequest t .view .busy known none
      else taken := by
  rw [State.viewChecks, judgeRequest_of_inService hrun t known taken hstore]
  simp only [judgeRequest_cons, judgeRequest_nil, storyOutside, State.namesFree, Option.isNone_some,
    isFree_iff, decide_eq_true_eq, beq_iff_eq, noticeFree_eq_zero_iff, Bool.false_eq_true, if_false,
    reduceCtorEq]

theorem judge_back :
    u.judgeRequest t .back known none (u.backChecks t) taken =
      if (u.terminal t).views.length < 2 then u.refuseRequest t .back .noStory known none
      else if 64 ≤ u.queue.length then u.refuseRequest t .back .busy known none
      else taken := by
  rw [State.backChecks, judgeRequest_of_inService hrun t known taken hstore]
  simp only [judgeRequest_cons, judgeRequest_nil, decide_eq_true_eq, beq_iff_eq,
    noticeFree_eq_zero_iff, if_false, reduceCtorEq]

end

/-! ### What a taken request writes -/

section
variable (s : State) (l : LineId) (drop : Nat)

@[simp] theorem freeBlocks_answered : (s.answered l drop).freeBlocks = s.freeBlocks :=
  (onlyChanges_answered s l drop .freeBlocks (by decide)).symm

/-- A listing shows baskets and stories, which the liveness update leaves as they are (R116). -/
theorem listingOf_answered (desk start : Nat) :
    (s.answered l drop).listingOf desk start = s.listingOf desk start := by
  have hentry : (s.answered l drop).listEntry = s.listEntry := by
    funext n
    simp only [State.listEntry, story_answered]
  rw [State.listingOf, hentry, basket_answered]
  rfl

/-- A listing has bytes, and so the blocks of them, rounded up (R104, R116). -/
theorem listing_blocks (x : Listing) :
    (OutFrame.listing x).blocks = (4 + 16 * x.entries.length + 63) / 64 := by
  refine if_neg ?_
  change ¬ 4 + 16 * x.entries.length = 0
  omega

theorem takeView_answered (t n : Nat) :
    ((s.answered l drop).pushView t n).textWanted t n .view =
      ((s.answered l drop).putTerminal t { (s.answered l drop).terminal t with
        views := pushView ((s.answered l drop).terminal t).views n }).offer
          (.textWanted t n (s.story n).revision .view) := by
  rw [← story_answered s l drop n]
  rfl

theorem takeBack_answered {t top next : Nat} {rest : List Nat}
    (h : ((s.answered l drop).terminal t).views = top :: next :: rest) :
    (s.answered l drop).takeBack t =
      ((s.answered l drop).putTerminal t { (s.answered l drop).terminal t with
        views := next :: rest }).offer (.textWanted t next (s.story next).revision .back) := by
  rw [← story_answered s l drop next, State.takeBack, h]
  rfl

theorem takeWatch_answered (t n : Nat) :
    (s.answered l drop).takeWatch t n =
      ((s.answered l drop).putTerminal t { (s.answered l drop).terminal t with
        watches := ((s.answered l drop).terminal t).watches ++ [n] }).attend t
          (.done .watch n (s.story n).desk (s.story n).revision false) := by
  rw [← story_answered s l drop n]
  rfl

theorem takeUnwatch_answered (t n : Nat) :
    (s.answered l drop).takeUnwatch t n =
      ((s.answered l drop).putTerminal t { (s.answered l drop).terminal t with
        watches := ((s.answered l drop).terminal t).watches.filter fun m => m != n }).attend t
          (.done .unwatch n (s.story n).desk (s.story n).revision false) := by
  rw [← story_answered s l drop n]
  rfl

end

/-- Settles O45: each request's checks decide in their order, and a taken one writes the terminal's
record. -/
theorem viewsListsAndWatchesAreKept : Obligations.ViewsListsAndWatchesAreKept := by
  unfold Obligations.ViewsListsAndWatchesAreKept
  intro s l drop hi lo hears hrunning t u me none? n st mine refuse bare turn entries blocks
  have hrun : u.part = .running := (part_answered s l drop).trans hrunning
  have hfree : u.story? n = s.story? n := storyAt_answered s l drop n
  have hknown : carriedStory (readOption2 hi lo) =
      if none? = false ∧ n ≤ 1023 then some n else none :=
    carriedStory_readOption2 hi lo
  have hturn : ∀ {i v w}, exec i s = .next (v.lineTurn l) → v = w → turn i w := fun hexec heq =>
    heq ▸ hexec
  refine ⟨fun hstore => ?inService, ?list, ?watch, ?unwatch⟩
  case inService =>
    have hlost : u.storeLost = false := (storeLost_answered s l drop).trans hstore
    refine ⟨hturn (exec_view_of_hears hears hi lo) ?_, fun hshort => ?_,
      fun top next rest hviews => ?_⟩
    · rw [hknown]
      rcases readOption2_cases hi lo with ⟨hnone, hread⟩ | ⟨hnone, hread⟩
      · rw [hread, judge_view_none hrun t _ _ hlost]
        exact (if_pos hnone).symm
      · rw [hread, judge_view_some hrun t _ _ hlost, ← hfree]
        refine Eq.trans ?_ (if_neg (ne_true_of_eq_false hnone)).symm
        exact ite_congr rfl (fun _ => rfl) fun _ => ite_congr rfl (fun _ => rfl) fun _ =>
          ite_congr rfl (fun _ => rfl) fun _ => takeView_answered s l drop t n
    · exact hturn (exec_back_of_hears hears) ((judge_back hrun t _ _ hlost).trans (if_pos hshort))
    · refine hturn (exec_back_of_hears hears) ((judge_back hrun t _ _ hlost).trans ?_)
      rw [if_neg (by rw [hviews]; simp)]
      exact ite_congr rfl (fun _ => rfl) fun _ => takeBack_answered s l drop hviews
  case list =>
    refine hturn (exec_list_of_hears hears hi lo) ((judge_list hrun t _ _ _ _).trans ?_)
    rw [listingOf_answered, listing_blocks, freeBlocks_answered]
    refine ite_congr rfl (fun _ => rfl) fun _ => ite_congr rfl (fun _ => rfl) fun _ => ?_
    rw [appendFrame_eq, listing_blocks, freeBlocks_answered]
    rfl
  case watch =>
    refine hturn (exec_watch_of_hears hears hi lo) ?_
    rw [hknown]
    rcases readOption2_cases hi lo with ⟨hnone, hread⟩ | ⟨hnone, hread⟩
    · rw [hread]
      exact (judgeRequest_of_carries_none hrun t _ _ .watch none _).trans (if_pos hnone).symm
    · rw [hread, judge_watch_some hrun t, ← hfree]
      refine Eq.trans ?_ (if_neg (ne_true_of_eq_false hnone)).symm
      exact ite_congr rfl (fun _ => rfl) fun _ => ite_congr rfl (fun _ => rfl) fun _ =>
        ite_congr rfl (fun _ => rfl) fun _ => ite_congr rfl (fun _ => rfl) fun _ =>
          takeWatch_answered s l drop t n
  case unwatch =>
    refine hturn (exec_unwatch_of_hears hears hi lo) ?_
    rw [hknown]
    rcases readOption2_cases hi lo with ⟨hnone, hread⟩ | ⟨hnone, hread⟩
    · rw [hread]
      exact (judgeRequest_of_carries_none hrun t _ _ .unwatch none _).trans (if_pos hnone).symm
    · rw [hread, judge_unwatch_some hrun t]
      refine Eq.trans ?_ (if_neg (ne_true_of_eq_false hnone)).symm
      exact ite_congr rfl (fun _ => rfl) fun _ => ite_congr rfl (fun _ => rfl) fun _ =>
        takeUnwatch_answered s l drop t n

end Sys2Proof.Machine
end

section
/-! SUPPORT. What the page unit reads and writes (R125, R128, R136, R149, R155): the pages, editions, stories and
typesetter unit that each of its operations leaves, and the records of an edition and of a section, in order. -/

namespace Sys2Proof.Machine

/-! ### Reads through a frame -/

section
variable {fs : List Field} {s t : State} (h : s.onlyChanges fs t)
include h

theorem State.onlyChanges.pageAt (hd : Field.pages ∉ fs := by decide) (r : Nat) :
    t.page? r = s.page? r :=
  congrArg (Table.get none · r) (h .pages hd).symm

theorem State.onlyChanges.editionAt (hd : Field.editions ∉ fs := by decide) (e : Nat) :
    t.edition e = s.edition e :=
  congrArg (Table.get Edition.initial · e) (h .editions hd).symm

theorem State.onlyChanges.storyAt (hd : Field.stories ∉ fs := by decide) (n : Nat) :
    t.story? n = s.story? n :=
  congrArg (Table.get none · n) (h .stories hd).symm

theorem State.onlyChanges.queueOf (hd : Field.typesetter ∉ fs := by decide) :
    t.typesetter = s.typesetter := (h .typesetter hd).symm

theorem State.onlyChanges.pagesOf (hd : Field.pages ∉ fs := by decide) : t.pages = s.pages :=
  (h .pages hd).symm

end

/-! ### Orders (R177) -/

section
variable (s : State)

@[simp] theorem pageAt_heard (r : Nat) : s.heard.page? r = s.page? r := rfl

@[simp] theorem page_heard (r : Nat) : s.heard.page r = s.page r := rfl

@[simp] theorem edition_heard (e : Nat) : s.heard.edition e = s.edition e := rfl

@[simp] theorem story_heard (n : Nat) : s.heard.story n = s.story n := rfl

theorem heard_onlyChanges : s.onlyChanges frameFields s.heard := by
  intro f hf
  cases f <;> first | rfl | exact absurd (by decide) hf

end

/-- An edition number outside 1 to 8 (R125). -/
theorem editionOutside_iff (e : Nat) : editionOutside e = true ↔ e < 1 ∨ 8 < e := by
  simp [editionOutside]

/-- The nearest of 1, 2, 4 and 8 is the same for every size carried up to 2 (R127). -/
theorem sectionSize_eq (n : Nat) :
    sectionSize n = if n ≤ 1 then 1 else if n = 2 then 2 else if n ≤ 5 then 4 else 8 := by
  unfold sectionSize
  split
  · rfl
  · exact if_congr (by omega) rfl rfl

/-- Settles O48: the two checks decide in their order, and a taken order writes the one record. -/
theorem planEditionOpensAnEdition : Obligations.PlanEditionOpensAnEdition := by
  unfold Obligations.PlanEditionOpensAnEdition
  intro s e p n a hlisten old
  have hplan : exec (.planEdition [e, p, n, a]) s = .next
      (s.heard.judge Kind.planEdition (some e.toNat) (s.heard.planChecks e.toNat)
        (s.heard.putEdition e.toNat (plannedEdition p.toNat n.toNat a.toNat))) :=
    congrArg Host.Outcome.next (takeFrame_of_listening s hlisten _ _ (by simp) _)
  rw [hplan]
  simp only [State.planChecks, judge_cons, judge_nil, heard_refuseOrder, editionOutside_iff,
    Bool.not_eq_true', Bool.or_eq_false_iff, beq_eq_false_iff_ne, plannedEdition, sectionSize_eq,
    clamp_zero]
  rfl

/-! ### Writing a page and its slot (R149) -/

section
variable (s : State)

theorem writePage_onlyChanges (r : Nat) (p : Page) :
    s.onlyChanges [.pages, .editions] (s.writePage r p) :=
  ((onlyChanges_putPage _ _ _).mono (by decide)).trans ((onlyChanges_writeSlot _ _ _ _).mono (by decide))

/-- A page's move offers its one event, and writes its record and its slot. -/
theorem movePage_eq (r : Nat) (p : Page) (cause : PageCause) :
    s.movePage r p cause = (s.writePage r p).offer (pageEventOf r p cause) := rfl

/-- An edition with the slot of page `number` written (R149). -/
def Edition.withSlot (x : Edition) (number : Nat) (slot : Slot) : Edition :=
  { x with slots := x.slots.set (number - 1) slot }

/-- The slot that shows a page (R149). -/
def Page.slot (p : Page) : Slot := { code := p.state.slot, replates := p.replates }

theorem edition_writeSlot (e k : Nat) (slot : Slot) (d : Nat) :
    (s.writeSlot e k slot).edition d =
      if d = e then (s.edition d).withSlot k slot else s.edition d := by
  rw [State.writeSlot, State.edition_putEdition]
  split
  · subst_vars; rfl
  · rfl

@[simp] theorem pageAt_writePage (r : Nat) (p : Page) (k : Nat) :
    (s.writePage r p).page? k = if k = r then some p else s.page? k :=
  State.pageAt_putPage s r (some p) k

theorem edition_writePage (r : Nat) (p : Page) (d : Nat) :
    (s.writePage r p).edition d =
      if d = p.edition then (s.edition d).withSlot p.number p.slot else s.edition d :=
  edition_writeSlot _ _ _ _ _

@[simp] theorem pageAt_movePage (r : Nat) (p : Page) (c : PageCause) (k : Nat) :
    (s.movePage r p c).page? k = if k = r then some p else s.page? k := by
  rw [movePage_eq, (onlyChanges_offer _ _).pageAt, pageAt_writePage]

theorem edition_movePage (r : Nat) (p : Page) (c : PageCause) (d : Nat) :
    (s.movePage r p c).edition d =
      if d = p.edition then (s.edition d).withSlot p.number p.slot else s.edition d := by
  rw [movePage_eq, (onlyChanges_offer _ _).editionAt, edition_writePage]

theorem movePage_onlyChanges (r : Nat) (p : Page) (c : PageCause) :
    s.onlyChanges ([.pages, .editions] ++ noticeFields) (s.movePage r p c) :=
  ((writePage_onlyChanges s r p).mono (by decide)).trans ((onlyChanges_offer _ _).mono (by decide))

@[simp] theorem typesetter_movePage (r : Nat) (p : Page) (c : PageCause) :
    (s.movePage r p c).typesetter = s.typesetter := (movePage_onlyChanges s r p c).queueOf

@[simp] theorem storyAt_movePage (r : Nat) (p : Page) (c : PageCause) (n : Nat) :
    (s.movePage r p c).story? n = s.story? n := (movePage_onlyChanges s r p c).storyAt (by decide) n

theorem canonical_movePage {s : State} (h : Table.wf none s.pages = true) (r : Nat) (p : Page)
    (c : PageCause) : Table.wf none (s.movePage r p c).pages = true := by
  rw [movePage_eq, (onlyChanges_offer _ _).pagesOf]
  exact Table.wf_put none s.pages r (some p) h

theorem page_of_made {s : State} {r : Nat} {p : Page} (h : s.page? r = some p) : s.page r = p := by
  simp [State.page, h]

theorem pageFree_iff (r : Nat) : s.pageFree r = true ↔ s.page? r = none := by
  simp [State.pageFree]

end

/-! ### Records in order (R128, R136) -/

theorem Table.keys_sorted {α : Type} [DecidableEq α] {d : α} {tab : Table α}
    (h : Table.wf d tab = true) : (Table.keys tab).Pairwise (· < ·) := by
  induction tab with
  | nil => exact .nil
  | cons e rest ih =>
    obtain ⟨k, v⟩ := e
    obtain ⟨-, hlt, hrest⟩ := (Table.wf_cons d k v rest).1 h
    refine List.pairwise_cons.2 ⟨fun j hj => ?_, ih hrest⟩
    obtain ⟨e, he, rfl⟩ := List.mem_map.1 hj
    exact hlt e he

/-- Two rising lists of the same numbers are one list. -/
theorem eq_of_rising {l m : List Nat} (hl : l.Pairwise (· < ·)) (hm : m.Pairwise (· < ·))
    (h : ∀ k, k ∈ l ↔ k ∈ m) : l = m :=
  List.Perm.eq_of_pairwise (fun _ _ _ _ hab hba => absurd hab (Nat.lt_asymm hba)) hl hm
    ((List.perm_ext_iff_of_nodup (hl.imp Nat.ne_of_lt) (hm.imp Nat.ne_of_lt)).2 h)

/-- The records of edition `e` for which `q` holds: whether record `r` is one of them. -/
def State.isOf (s : State) (e : Nat) (q : Page → Bool) (r : Nat) : Bool :=
  match s.page? r with
  | some p => p.edition == e && q p
  | none => false

theorem isOf_iff (s : State) (e : Nat) (q : Page → Bool) (r : Nat) :
    s.isOf e q r = true ↔ ∃ p, s.page? r = some p ∧ p.edition = e ∧ q p = true := by
  unfold State.isOf
  split <;> simp [*]

section
variable {s : State} (h : Table.wf none s.pages = true)
include h

theorem mem_recordsWith (e : Nat) (q : Page → Bool) (r : Nat) :
    r ∈ s.recordsWith e q ↔ s.isOf e q r = true := by
  exact Table.mem_keys_filter h
    (p := fun o : Option Page => match o with | some p => p.edition == e && q p | none => false) rfl r

theorem recordsWith_rising (e : Nat) (q : Page → Bool) :
    (s.recordsWith e q).Pairwise (· < ·) :=
  Table.keys_sorted (Table.wf_filter none _ s.pages h)

/-- The records of an edition, as a part of all the records there can be. -/
theorem recordsWith_eq (hrange : ∀ r p, s.page? r = some p → r < 128) (e : Nat) (q : Page → Bool) :
    s.recordsWith e q = (List.range 128).filter (s.isOf e q) := by
  refine eq_of_rising (recordsWith_rising h e q) (List.pairwise_lt_range.filter _) fun r => ?_
  rw [mem_recordsWith h, List.mem_filter, List.mem_range, iff_and_self, isOf_iff]
  rintro ⟨p, hp, -⟩
  exact hrange r p hp

end

/-- A page number of an edition has one record at most, and `recordOf` finds it (R136). -/
theorem recordOf_eq_some {s : State} (h : s.pagesStand) (e number r : Nat) :
    s.recordOf e number = some r ↔
      ∃ p, s.page? r = some p ∧ p.edition = e ∧ p.number = number := by
  let isIt : Nat × Option Page → Bool := fun x =>
    match x.2 with
    | some p => p.edition == e && p.number == number
    | none => false
  have hisIt : ∀ x, isIt x = true ↔ ∃ p, x.2 = some p ∧ p.edition = e ∧ p.number = number := by
    rintro ⟨k, o⟩
    cases o <;> simp [isIt]
  have hrecord : s.recordOf e number = (s.pages.find? isIt).map Prod.fst := rfl
  have hfound : ∀ x, s.pages.find? isIt = some x →
      ∃ p, s.page? x.1 = some p ∧ p.edition = e ∧ p.number = number := fun x hx => by
    obtain ⟨p, hp, hit⟩ := (hisIt x).1 (List.find?_some hx)
    refine ⟨p, ?_, hit⟩
    exact Table.get_of_mem h.canonical (hp ▸ List.mem_of_find?_eq_some hx)
  rw [hrecord]
  constructor
  · intro hr
    obtain ⟨x, hx, rfl⟩ := Option.map_eq_some_iff.1 hr
    exact hfound x hx
  · rintro ⟨p, hp, he, hn⟩
    have hmem : (r, s.page? r) ∈ s.pages := Table.mem_of_get_ne (by
      change s.page? r ≠ none
      rw [hp]
      exact Option.some_ne_none p)
    obtain ⟨x, hx⟩ := Option.isSome_iff_exists.1 (List.find?_isSome.2
      ⟨_, hmem, (hisIt (r, s.page? r)).2 ⟨p, hp, he, hn⟩⟩)
    obtain ⟨o, ho, hoe, hon⟩ := hfound x hx
    rw [hx, h.distinct r x.1 p o hp ho (he.trans hoe.symm) (hn.trans hon.symm)]
    rfl

/-- Page `p` is one of section `k` of edition `e` (R128). -/
def State.inSection (s : State) (e k : Nat) (p : Page) : Prop :=
  p.edition = e ∧ k * (s.edition e).size < p.number ∧ p.number ≤ (k + 1) * (s.edition e).size

theorem mem_sectionPages (x : Edition) (k n : Nat) :
    n ∈ x.sectionPages k ↔ k * x.size < n ∧ n ≤ (k + 1) * x.size ∧ n ≤ x.planned := by
  have hstep : (k + 1) * x.size = k * x.size + x.size := Nat.succ_mul k x.size
  have hmin : Nat.min ((k + 1) * x.size) x.planned = min (k * x.size + x.size) x.planned := by
    rw [hstep]
  unfold Edition.sectionPages
  rw [List.mem_range'_1, hmin, hstep]
  omega

theorem sectionPages_rising (x : Edition) (k : Nat) : (x.sectionPages k).Pairwise (· < ·) :=
  List.pairwise_lt_range'

/-- The sections of two pages of an edition are the same exactly when one holds both (R128). -/
theorem section_iff {size k n : Nat} (hsize : 1 ≤ size) (hn : 1 ≤ n) :
    (n - 1) / size = k ↔ k * size < n ∧ n ≤ (k + 1) * size := by
  rw [Nat.div_eq_iff hsize, Nat.succ_mul]
  omega

/-- The records found for a rising list of page numbers are in page order. -/
theorem recordOf_pairwise {s : State} (h : s.pagesStand) (e : Nat) {l : List Nat}
    (hl : l.Pairwise (· < ·)) :
    (l.filterMap (s.recordOf e)).Pairwise fun q r => (s.page q).number < (s.page r).number := by
  refine List.pairwise_filterMap.2 (hl.imp fun {a b} hab q hq r hr => ?_)
  obtain ⟨p, hp, -, rfl⟩ := (recordOf_eq_some h e a q).1 hq
  obtain ⟨o, ho, -, rfl⟩ := (recordOf_eq_some h e b r).1 hr
  rwa [page_of_made hp, page_of_made ho]

theorem mem_sectionRecords {s : State} (h : s.pagesStand) (e k r : Nat) :
    r ∈ s.sectionRecords e k ↔ ∃ p, s.page? r = some p ∧ s.inSection e k p := by
  unfold State.sectionRecords State.inSection
  simp only [List.mem_filterMap, mem_sectionPages, recordOf_eq_some h]
  constructor
  · rintro ⟨n, ⟨hlow, hhigh, -⟩, p, hp, he, rfl⟩
    exact ⟨p, hp, he, hlow, hhigh⟩
  · rintro ⟨p, hp, rfl, hlow, hhigh⟩
    obtain ⟨-, -, -, -, hplanned⟩ := h.inRange r p hp
    exact ⟨p.number, ⟨hlow, hhigh, hplanned⟩, p, hp, rfl, rfl⟩

theorem sectionRecords_pairwise {s : State} (h : s.pagesStand) (e k : Nat) :
    (s.sectionRecords e k).Pairwise fun q r => (s.page q).number < (s.page r).number :=
  recordOf_pairwise h e (sectionPages_rising _ k)

/-- An edition with a page has a section size (R127). -/
theorem State.pagesStand.size_pos {s : State} (h : s.pagesStand) {r : Nat} {p : Page}
    (hp : s.page? r = some p) : 1 ≤ (s.edition p.edition).size := by
  obtain ⟨-, -, -, hnumber, hplanned⟩ := h.inRange r p hp
  exact (h.sized p.edition).resolve_left (by omega)

/-- The section of a page holds it, and another page of its edition exactly when their sections agree. -/
theorem inSection_pageSection {s : State} (h : s.pagesStand) {r q : Nat} {p o : Page}
    (hp : s.page? r = some p) (ho : s.page? q = some o) :
    s.inSection p.edition (s.pageSection p) o ↔ o.edition = p.edition ∧
      (o.number - 1) / (s.edition p.edition).size = (p.number - 1) / (s.edition p.edition).size := by
  obtain ⟨-, -, -, hnumber, -⟩ := h.inRange q o ho
  unfold State.inSection State.pageSection sectionOf
  rw [section_iff (h.size_pos hp) hnumber]

end Sys2Proof.Machine
end

section
/-! SUPPORT. Lifting stories, freeing pages and seals (R130, R132, R138, R149, R150): what a list of lifts, a list
of freed records and the sweep of an edition leave of the pages, the stories, the terminals and the notice queue. -/

namespace Sys2Proof.Machine

/-! ### Reports that join the queue in order (R179, R180) -/

/-- With a notice being sent and room enough, the queue of `t` is that of `s` with the notices `ns` behind it: each
report but the last leaves the 8 entries that the next one needs. -/
structure State.queues (s t : State) (ns : List Notice) : Prop where
  reporting : t.reporting = s.reporting
  sending : s.sending.isSome = true → t.sending = s.sending
  queue : s.sending.isSome = true → s.queue.length + ns.length + 7 ≤ 64 → t.queue = s.queue ++ ns

theorem State.queues.refl (s : State) : s.queues s [] :=
  ⟨rfl, fun _ => rfl, fun _ _ => (List.append_nil _).symm⟩

theorem State.queues.trans {s t u : State} {ns ms : List Notice} (h : s.queues t ns)
    (k : t.queues u ms) : s.queues u (ns ++ ms) where
  reporting := k.reporting.trans h.reporting
  sending hbusy := (k.sending (h.sending hbusy ▸ hbusy)).trans (h.sending hbusy)
  queue hbusy hroom := by
    rw [List.length_append] at hroom
    have hfirst := h.queue hbusy (by omega)
    have hroom' : t.queue.length + ms.length + 7 ≤ 64 := by
      rw [hfirst, List.length_append]
      omega
    rw [k.queue (h.sending hbusy ▸ hbusy) hroom', hfirst, List.append_assoc]

theorem State.queues.of_frame {fs : List Field} {s t : State} (h : s.onlyChanges fs t)
    (hd : ∀ f ∈ [Field.queue, .sending, .reporting], f ∉ fs := by decide) : s.queues t [] where
  reporting := (h .reporting (hd _ (by decide))).symm
  sending _ := (h .sending (hd _ (by decide))).symm
  queue _ _ := (h .queue (hd _ (by decide))).symm.trans (List.append_nil _).symm

/-- A change of nothing the queue depends on, before. -/
theorem State.queues.before {fs : List Field} {s t u : State} {ns : List Notice} (k : t.queues u ns)
    (h : s.onlyChanges fs t)
    (hd : ∀ f ∈ [Field.queue, .sending, .reporting], f ∉ fs := by decide) : s.queues u ns :=
  State.queues.trans (.of_frame h hd) k

/-- A report joins the queue when its group is enabled. -/
theorem queues_offer (s : State) {n : Notice} {g : Group} (hn : n.noticeClass = .report g) :
    s.queues (s.offer n) (if s.reporting.enabled g = true then [n] else []) := by
  by_cases hg : s.reporting.enabled g = true
  · rw [if_pos hg]
    refine ⟨(onlyChanges_offer s n .reporting (by decide)).symm, fun hbusy => ?_, fun hbusy hroom => ?_⟩ <;>
      obtain ⟨m, hm⟩ := Option.isSome_iff_exists.1 hbusy
    · simp only [State.offer, hn, hg, if_true, State.admitNotice, State.startNotice, hm]
      split <;> simp [State.markDropped, hm]
    · have hfree : Config.reportReserve ≤ s.noticeFree := by
        simp only [List.length_singleton] at hroom
        simp only [State.noticeFree, Config.reportReserve, Config.noticeEntries]
        omega
      simp only [State.offer, hn, hg, if_true, hfree, State.admitNotice, State.startNotice, hm]
  · rw [if_neg hg, show s.offer n = s by simp only [State.offer, hn, hg]; rfl]
    exact .refl s

theorem queues_pageReport {s : State} (hpage : s.reporting.page = true) {n : Notice}
    (hn : n.noticeClass = .report .page) : s.queues (s.offer n) [n] := by
  have h := queues_offer s hn
  rwa [if_pos (show s.reporting.enabled .page = true from hpage)] at h

theorem queues_movePage {s : State} (hpage : s.reporting.page = true) (r : Nat) (p : Page)
    (c : PageCause) : s.queues (s.movePage r p c) [pageEventOf r p c] :=
  (queues_pageReport (s := s.writePage r p)
    ((writePage_onlyChanges s r p .reporting (by decide)).symm ▸ hpage) rfl).before
      (writePage_onlyChanges s r p)

/-! ### Watchers (R14, R119, R120) -/

/-- A terminal's record once a change of story `n` has been told to it in the attention `b`, if it watches. -/
def Terminal.told (r : Terminal) (n : Nat) (b : AttentionBody) : Terminal :=
  if r.configured = true ∧ n ∈ r.watches then r.attended b else r

theorem told_eq (r : Terminal) (n : Nat) (b : AttentionBody) :
    r.told n b =
      { r with
        attentions :=
          if r.liveness = .absent ∨ r.liveness = .dark ∨ r.configured = false ∨ n ∉ r.watches then
            r.attentions
          else joinAttention r.attentions b } := by
  unfold Terminal.told Terminal.attended
  by_cases hwatch : r.configured = true ∧ n ∈ r.watches
  · by_cases hawake : r.liveness ≠ .absent ∧ r.liveness ≠ .dark
    · rw [if_pos hwatch, if_pos hawake, if_neg (by simp [hwatch, hawake])]
    · rw [if_pos hwatch, if_neg hawake, if_pos]
      rw [Decidable.not_and_iff_or_not, not_not, not_not] at hawake
      exact hawake.imp_right .inl
  · rw [if_neg hwatch, if_pos]
    rw [Decidable.not_and_iff_or_not, Bool.not_eq_true] at hwatch
    exact .inr (.inr hwatch)

/-- A terminal's record once the changes of a list of stories have been told to it, in order. -/
theorem foldl_told (ns : List Nat) (b : Nat → AttentionBody) (r : Terminal) :
    ns.foldl (fun q n => q.told n (b n)) r =
      { r with
        attentions :=
          if r.liveness = .absent ∨ r.liveness = .dark ∨ r.configured = false then r.attentions
          else (ns.filter (fun n => r.watches.contains n)).foldl
            (fun q n => joinAttention q (b n)) r.attentions } := by
  induction ns generalizing r with
  | nil => simp
  | cons n rest ih =>
    rw [List.foldl_cons, ih, told_eq]
    by_cases hdeaf : r.liveness = .absent ∨ r.liveness = .dark ∨ r.configured = false
    · have hout : r.liveness = .absent ∨ r.liveness = .dark ∨ r.configured = false ∨
          n ∉ r.watches := by
        rcases hdeaf with h | h | h <;> simp [h]
      simp only [hdeaf, hout, if_true]
    · by_cases hn : n ∈ r.watches <;> simp [hdeaf, hn]

/-! ### One lift (R130, R138, R140) -/

/-- A story that stands on no page. -/
def Story.lifted (st : Story) : Story := { st with page := none }

/-- The attention a watcher gets of a lifted story, and the event the store processor gets (R16, R119). -/
def State.liftAttention (s : State) (n : Nat) : AttentionBody :=
  .watch .lifted n (s.story n).desk (s.story n).revision

def State.liftEvent (s : State) (n : Nat) : Notice :=
  .copyEvent .lifted n (s.story n).state (s.story n).desk (s.story n).revision .order [] none

/-- What is told of a story is the same in two states: its state, desk and revision. -/
def State.tellsAs (s t : State) : Prop :=
  ∀ n, (t.story n).state = (s.story n).state ∧ (t.story n).desk = (s.story n).desk ∧
    (t.story n).revision = (s.story n).revision

theorem tellsAs_of_stories {s t : State} (h : ∀ n, ∃ f : Story → Story,
    (∀ st, (f st).state = st.state ∧ (f st).desk = st.desk ∧ (f st).revision = st.revision) ∧
      t.story? n = (s.story? n).map f) : s.tellsAs t := by
  intro n
  obtain ⟨f, hf, ht⟩ := h n
  unfold State.story
  rw [ht]
  cases s.story? n with
  | none => exact ⟨rfl, rfl, rfl⟩
  | some st => exact hf st

section
variable {s t : State} (h : s.tellsAs t)
include h

theorem State.tellsAs.liftAttention (n : Nat) : t.liftAttention n = s.liftAttention n := by
  obtain ⟨-, hdesk, hrevision⟩ := h n
  rw [State.liftAttention, State.liftAttention, hdesk, hrevision]

theorem State.tellsAs.liftEvent (n : Nat) : t.liftEvent n = s.liftEvent n := by
  obtain ⟨hstate, hdesk, hrevision⟩ := h n
  rw [State.liftEvent, State.liftEvent, hstate, hdesk, hrevision]

end

section
variable (s : State) (n : Nat)

theorem storyAt_modStory (f : Story → Story) (m : Nat) :
    (s.modStory n f).story? m = if m = n then (s.story? n).map f else s.story? m := by
  by_cases hm : m = n
  · subst hm
    rw [if_pos rfl, storyAt_modStory_self]
  · unfold State.modStory
    split
    · rw [State.storyAt_putStory, if_neg hm, if_neg hm]
    · rw [if_neg hm]

theorem storyAt_liftStory (m : Nat) :
    (s.liftStory n).story? m = (s.story? m).map fun st => if m = n then st.lifted else st := by
  rw [State.liftStory, storyAt_tellChange, storyAt_modStory]
  by_cases hm : m = n
  · subst hm; simp [Story.lifted]
  · simp [hm]

/-- A story that has been taken off its page, and is still to be told of. -/
def State.offPage : State := s.modStory n Story.lifted

theorem liftStory_eq : s.liftStory n = (s.offPage n).tellChange .lifted n .order := rfl

theorem offPage_tellsAs : s.tellsAs (s.offPage n) :=
  tellsAs_of_stories fun m => ⟨fun st => if m = n then st.lifted else st,
    fun st => by split <;> exact ⟨rfl, rfl, rfl⟩, by
      rw [State.offPage, storyAt_modStory]
      by_cases hm : m = n
      · subst hm; simp
      · simp [hm]⟩

theorem liftStory_tellsAs : s.tellsAs (s.liftStory n) :=
  tellsAs_of_stories fun m => ⟨fun st => if m = n then st.lifted else st,
    fun st => by split <;> exact ⟨rfl, rfl, rfl⟩, storyAt_liftStory s n m⟩

theorem queues_liftStory :
    s.queues (s.liftStory n) (if s.reporting.copy = true then [s.liftEvent n] else []) := by
  have hframe : s.onlyChanges [.stories, .terminals]
      ((s.offPage n).tellWatchers .lifted n .order) :=
    ((onlyChanges_modStory s n _).mono (by decide)).trans
      ((onlyChanges_tellWatchers _ _ _ _).mono (by decide))
  have hevent : ((s.offPage n).tellWatchers .lifted n .order).copyEventOf .lifted n .order =
      s.liftEvent n :=
    (copyEventOf_tellWatchers ..).trans ((offPage_tellsAs s n).liftEvent n)
  have hoffer := queues_offer ((s.offPage n).tellWatchers .lifted n .order)
    (n := s.liftEvent n) (g := .copy) rfl
  rw [← hframe .reporting (by decide)] at hoffer
  rw [liftStory_eq, State.tellChange, hevent]
  exact hoffer.before hframe

theorem canonical_liftStory (h : Table.wf Terminal.initial s.terminals = true) :
    Table.wf Terminal.initial (s.liftStory n).terminals = true := (moves_liftStory s n).canonical h

theorem terminal_liftStory (h : Table.wf Terminal.initial s.terminals = true) (x : Nat) :
    (s.liftStory n).terminal x = (s.terminal x).told n (s.liftAttention n) := by
  have hterminal : ∀ y, (s.offPage n).terminal y = s.terminal y := terminal_modStory s n _
  have hwf : Table.wf Terminal.initial (s.offPage n).terminals = true :=
    (onlyChanges_modStory s n Story.lifted .terminals (by decide)) ▸ h
  obtain ⟨-, hdesk, hrevision⟩ := offPage_tellsAs s n n
  rw [liftStory_eq, terminal_tellChange, terminal_tellWatchers hwf, hdesk, hrevision]
  exact if_congr (by simp [State.isTold, hterminal]) (by rw [hterminal]; rfl) (hterminal x)

end

/-! ### Lists of lifts -/

/-- The stories of a list are lifted in order (R130, R138). -/
def State.liftAll (s : State) (ns : List Nat) : State := ns.foldl State.liftStory s

section
variable (s : State) (ns : List Nat)

theorem onlyChanges_liftAll : s.onlyChanges ([.stories] ++ tellFields) (s.liftAll ns) :=
  .foldl _ onlyChanges_liftStory ns s

theorem storyAt_liftAll (m : Nat) :
    (s.liftAll ns).story? m = (s.story? m).map fun st => if m ∈ ns then st.lifted else st := by
  unfold State.liftAll
  induction ns generalizing s with
  | nil => simp
  | cons n rest ih =>
    rw [List.foldl_cons, ih, storyAt_liftStory, Option.map_map]
    refine congrArg (Option.map · (s.story? m)) (funext fun st => ?_)
    by_cases hm : m = n <;> by_cases hr : m ∈ rest <;> simp [hm, hr, Story.lifted]

/-- The events of a list of lifts, in order (R16). -/
def State.liftEvents : List Notice := if s.reporting.copy = true then ns.map s.liftEvent else []

theorem liftEvents_congr {s t : State} (h : s.tellsAs t) (hreporting : t.reporting = s.reporting)
    (ns : List Nat) : t.liftEvents ns = s.liftEvents ns := by
  rw [State.liftEvents, State.liftEvents, hreporting, funext h.liftEvent]

theorem queues_liftAll : s.queues (s.liftAll ns) (s.liftEvents ns) := by
  unfold State.liftAll
  induction ns generalizing s with
  | nil =>
    have hnone : s.liftEvents [] = [] := ite_self _
    exact hnone ▸ .refl s
  | cons n rest ih =>
    have hhead := queues_liftStory s n
    have hall := hhead.trans (ih (s.liftStory n))
    rw [liftEvents_congr (liftStory_tellsAs s n) hhead.reporting] at hall
    have hsplit : s.liftEvents (n :: rest) =
        (if s.reporting.copy = true then [s.liftEvent n] else []) ++ s.liftEvents rest := by
      unfold State.liftEvents
      split <;> rfl
    rwa [List.foldl_cons, hsplit]

theorem canonical_liftAll (h : Table.wf Terminal.initial s.terminals = true) :
    Table.wf Terminal.initial (s.liftAll ns).terminals = true :=
  (State.moves.foldl _ moves_liftStory ns s).canonical h

theorem terminal_liftAll (h : Table.wf Terminal.initial s.terminals = true) (x : Nat) :
    (s.liftAll ns).terminal x = ns.foldl (fun q n => q.told n (s.liftAttention n)) (s.terminal x) := by
  unfold State.liftAll
  induction ns generalizing s with
  | nil => rfl
  | cons n rest ih =>
    rw [List.foldl_cons, ih _ (canonical_liftStory s n h), terminal_liftStory s n h,
      funext (liftStory_tellsAs s n).liftAttention]
    rfl

end

/-! ### Lists of freed records (R130) -/

section
variable (s : State) (r : Nat) (c : PageCause)

theorem freePage_eq :
    s.freePage r c =
      (((s.liftAll (s.page r).placement).putPage r none).offer (pageFreedEvent r (s.page r) c)) := rfl

theorem pageAt_freePage (k : Nat) :
    (s.freePage r c).page? k = if k = r then none else s.page? k := by
  rw [freePage_eq, (onlyChanges_offer _ _).pageAt, State.pageAt_putPage,
    (onlyChanges_liftAll _ _).pageAt]

theorem storyAt_freePage (m : Nat) :
    (s.freePage r c).story? m =
      (s.story? m).map fun st => if m ∈ (s.page r).placement then st.lifted else st := by
  rw [freePage_eq, (onlyChanges_offer _ _).storyAt, State.storyAt_putPage_frame, storyAt_liftAll]

theorem freePage_tellsAs : s.tellsAs (s.freePage r c) :=
  tellsAs_of_stories fun m => ⟨fun st => if m ∈ (s.page r).placement then st.lifted else st,
    fun st => by split <;> exact ⟨rfl, rfl, rfl⟩, storyAt_freePage s r c m⟩

/-- The events of one freed record: its stories', and its own (R16, R150). -/
def State.freeEvents : List Notice :=
  s.liftEvents (s.page r).placement ++ [pageFreedEvent r (s.page r) c]

theorem queues_freePage (hpage : s.reporting.page = true) :
    s.queues (s.freePage r c) (s.freeEvents r c) := by
  have hlift := queues_liftAll s (s.page r).placement
  have hfreed : (s.liftAll (s.page r).placement).reporting.page = true := hlift.reporting ▸ hpage
  have hoffer := queues_pageReport (s := (s.liftAll (s.page r).placement).putPage r none)
    (n := pageFreedEvent r (s.page r) c) hfreed rfl
  exact hlift.trans (hoffer.before (onlyChanges_putPage _ r none))

theorem terminals_freePage : (s.freePage r c).terminals = (s.liftAll (s.page r).placement).terminals :=
  (onlyChanges_offer _ _ .terminals (by decide)).symm

end

/-- The records of a list are freed in order (R130). -/
def State.freeAll (s : State) (c : PageCause) (rs : List Nat) : State :=
  rs.foldl (fun acc r => acc.freePage r c) s

/-- What a list of freed records leaves of every table but the editions and the typesetter queue, which it does
not touch. -/
structure State.frees (s t : State) (c : PageCause) (rs : List Nat) : Prop where
  pageAt : ∀ k, t.page? k = if k ∈ rs then none else s.page? k
  storyAt : ∀ m, t.story? m = (s.story? m).map fun st =>
    if m ∈ rs.flatMap (fun r => (s.page r).placement) then st.lifted else st
  queues : s.reporting.page = true → s.queues t (rs.flatMap fun r => s.freeEvents r c)
  terminal : Table.wf Terminal.initial s.terminals = true → ∀ x,
    t.terminal x = (rs.flatMap fun r => (s.page r).placement).foldl
      (fun q n => q.told n (s.liftAttention n)) (s.terminal x)

theorem frees_freeAll (c : PageCause) {rs : List Nat} (hrs : rs.Nodup) (s : State) :
    s.frees (s.freeAll c rs) c rs := by
  unfold State.freeAll
  induction rs generalizing s with
  | nil => exact ⟨fun _ => rfl, fun _ => by simp, fun _ => .refl s, fun _ _ => rfl⟩
  | cons r rest ih =>
    obtain ⟨hr, hrest⟩ := List.nodup_cons.1 hrs
    obtain ⟨hpageAt, hstoryAt, hqueues, hterminal⟩ := ih hrest (s.freePage r c)
    have hpage : ∀ k ∈ rest, (s.freePage r c).page k = s.page k := fun k hk => by
      rw [State.page, State.page, pageAt_freePage, if_neg (show k ≠ r from fun heq => hr (heq ▸ hk))]
    have hplaced : (rest.flatMap fun k => ((s.freePage r c).page k).placement) =
        rest.flatMap fun k => (s.page k).placement :=
      List.flatMap_congr fun k hk => by rw [hpage k hk]
    have htells := freePage_tellsAs s r c
    rw [hplaced] at hstoryAt hterminal
    refine ⟨fun k => ?_, fun m => ?_, fun henabled => ?_, fun hwf x => ?_⟩
    · rw [List.foldl_cons, hpageAt, pageAt_freePage]
      by_cases hk : k = r <;> by_cases hin : k ∈ rest <;> simp [hk, hin]
    · rw [List.foldl_cons, hstoryAt, storyAt_freePage, Option.map_map, List.flatMap_cons]
      refine congrArg (Option.map · (s.story? m)) (funext fun st => ?_)
      by_cases hm : m ∈ (s.page r).placement <;>
        by_cases hin : m ∈ rest.flatMap (fun k => (s.page k).placement) <;>
          simp only [Function.comp, List.mem_append, hm, hin, or_self, or_true, true_or, if_true,
            if_false, Story.lifted]
    · have hhead := queues_freePage s r c henabled
      have hevents : (rest.flatMap fun k => (s.freePage r c).freeEvents k c) =
          rest.flatMap fun k => s.freeEvents k c :=
        List.flatMap_congr fun k hk => by
          rw [State.freeEvents, State.freeEvents, hpage k hk,
            liftEvents_congr htells hhead.reporting]
      rw [List.foldl_cons, List.flatMap_cons, ← hevents]
      exact hhead.trans (hqueues (hhead.reporting ▸ henabled))
    · have hterm : ∀ y, (s.freePage r c).terminal y = (s.liftAll (s.page r).placement).terminal y :=
        fun y => congrArg (Table.get Terminal.initial · y) (terminals_freePage s r c)
      have hwf' : Table.wf Terminal.initial (s.freePage r c).terminals = true :=
        terminals_freePage s r c ▸ canonical_liftAll s _ hwf
      rw [List.foldl_cons, hterminal hwf', hterm, terminal_liftAll s _ hwf, List.flatMap_cons,
        List.foldl_append, funext htells.liftAttention]

/-! ### The sweep of an edition (R130, R132) -/

theorem typesetter_dequeueAll (rs : List Nat) (s : State) :
    (rs.foldl State.dequeue s).typesetter =
      { s.typesetter with
        replateTier := s.typesetter.replateTier.filter (· ∉ rs),
        firstTier := s.typesetter.firstTier.filter (· ∉ rs) } := by
  induction rs generalizing s with
  | nil => simp
  | cons r rest ih =>
    rw [List.foldl_cons, ih]
    simp [State.dequeue, State.putTypesetter, Typesetter.remove, List.filter_filter, Bool.and_comm,
      beq_eq_decide]

theorem onlyChanges_dequeueAll (rs : List Nat) (s : State) :
    s.onlyChanges [.typesetter] (rs.foldl State.dequeue s) := .foldl _ onlyChanges_dequeue rs s

/-- A page of edition `e` that a sweep frees: any but the one SENDING (R132). -/
def State.swept (s : State) (e : Nat) : Nat → Bool := s.isOf e fun p => !(p.state == .sending)

/-- The records a sweep frees, ascending. -/
def State.sweptRecords (s : State) (e : Nat) : List Nat := (List.range 128).filter (s.swept e)

/-- The state in which a sweep has taken the QUEUED pages of an edition off the typesetter queue. -/
def State.unqueued (s : State) (e : Nat) : State :=
  (s.recordsWith e fun p => p.state == .queued).foldl State.dequeue s

section
variable {s : State} (h : s.pagesStand) (e : Nat)
include h

theorem sealPages_eq : s.sealPages e = (s.unqueued e).freeAll .seal (s.sweptRecords e) := by
  rw [State.sweptRecords, State.swept, ← recordsWith_eq h.canonical fun r p hp => (h.inRange r p hp).1]
  rfl

/-- A page on a tier is one that a sweep of its edition takes off it. -/
theorem queued_swept {r : Nat} (hr : r ∈ s.typesetter.replateTier ∨ r ∈ s.typesetter.firstTier) :
    r ∈ s.recordsWith e (fun p => p.state == .queued) ↔ s.swept e r = true := by
  have hqueued : ∃ p, s.page? r = some p ∧ p.state = .queued := by
    rcases hr with hr | hr
    · obtain ⟨p, hp, hstate, -⟩ := (h.replate r).1 hr
      exact ⟨p, hp, hstate⟩
    · obtain ⟨p, hp, hstate, -⟩ := (h.first r).1 hr
      exact ⟨p, hp, hstate⟩
  obtain ⟨p, hp, hstate⟩ := hqueued
  rw [mem_recordsWith h.canonical, State.swept, isOf_iff, isOf_iff]
  simp [hp, hstate]

theorem typesetter_unqueued :
    (s.unqueued e).typesetter =
      { s.typesetter with
        replateTier := s.typesetter.replateTier.filter (fun r => !s.swept e r),
        firstTier := s.typesetter.firstTier.filter (fun r => !s.swept e r) } := by
  have hreplate := List.filter_congr (l := s.typesetter.replateTier)
    (p := (· ∉ s.recordsWith e fun p => p.state == .queued)) (q := fun r => !s.swept e r)
    fun r hr => by simp [queued_swept h e (.inl hr)]
  have hfirst := List.filter_congr (l := s.typesetter.firstTier)
    (p := (· ∉ s.recordsWith e fun p => p.state == .queued)) (q := fun r => !s.swept e r)
    fun r hr => by simp [queued_swept h e (.inr hr)]
  rw [State.unqueued, typesetter_dequeueAll, hreplate, hfirst]

omit h in
theorem unqueued_onlyChanges : s.onlyChanges [.typesetter] (s.unqueued e) := onlyChanges_dequeueAll _ s

omit h in
theorem freeAll_onlyChanges (c : PageCause) (rs : List Nat) :
    s.onlyChanges ([.stories, .terminals, .pages] ++ noticeFields) (s.freeAll c rs) := by
  refine .foldl _ (fun u r => ?_) rs s
  rw [freePage_eq]
  exact (((onlyChanges_liftAll u _).mono (by decide)).trans
    ((onlyChanges_putPage _ r none).mono (by decide))).trans ((onlyChanges_offer _ _).mono (by decide))

/-- What a sweep leaves of the pages, the stories, the terminals and the notice queue. -/
theorem frees_sealPages : s.frees (s.sealPages e) .seal (s.sweptRecords e) := by
  have hframe := unqueued_onlyChanges (s := s) e
  have hpages : ∀ r, (s.unqueued e).page r = s.page r := fun r =>
    congrArg (·.getD Page.blank) (hframe.pageAt (by decide) r)
  have hstories : ∀ n, (s.unqueued e).story n = s.story n := fun n =>
    congrArg (·.getD Story.blank) (hframe.storyAt (by decide) n)
  have htells : s.tellsAs (s.unqueued e) := fun n => by rw [hstories]; exact ⟨rfl, rfl, rfl⟩
  have hreporting : (s.unqueued e).reporting = s.reporting := (hframe .reporting (by decide)).symm
  have hterminals : (s.unqueued e).terminals = s.terminals := (hframe .terminals (by decide)).symm
  have hevents : ∀ r, (s.unqueued e).freeEvents r .seal = s.freeEvents r .seal := fun r => by
    rw [State.freeEvents, State.freeEvents, hpages, liftEvents_congr htells hreporting]
  obtain ⟨hpageAt, hstoryAt, hqueues, hterminal⟩ :=
    frees_freeAll .seal (List.nodup_range.filter (s.swept e)) (s.unqueued e)
  simp only [hframe.pageAt, hframe.storyAt, hpages, hevents, hreporting, hterminals,
    funext htells.liftAttention] at hpageAt hstoryAt hqueues hterminal
  rw [sealPages_eq h e]
  refine ⟨hpageAt, hstoryAt, fun henabled => (hqueues henabled).before hframe, fun hwf x => ?_⟩
  rw [State.sweptRecords, hterminal hwf, State.terminal, State.terminal, hterminals]

theorem edition_sealPages (d : Nat) : (s.sealPages e).edition d = s.edition d := by
  rw [sealPages_eq h e, (freeAll_onlyChanges _ _).editionAt,
    (unqueued_onlyChanges (s := s) e).editionAt]

theorem typesetter_sealPages :
    (s.sealPages e).typesetter =
      { s.typesetter with
        replateTier := s.typesetter.replateTier.filter (fun r => !s.swept e r),
        firstTier := s.typesetter.firstTier.filter (fun r => !s.swept e r) } := by
  rw [sealPages_eq h e, (freeAll_onlyChanges _ _).queueOf, typesetter_unqueued h]

theorem mem_sweptRecords (r : Nat) : r ∈ s.sweptRecords e ↔ s.swept e r = true := by
  rw [State.sweptRecords, List.mem_filter, List.mem_range, and_iff_right_iff_imp, State.swept, isOf_iff]
  rintro ⟨p, hp, -⟩
  exact (h.inRange r p hp).1

/-- The stories a sweep lifts are those whose page it frees. -/
theorem mem_sweptStories {n : Nat} {st : Story} (hst : s.story? n = some st) :
    n ∈ (s.sweptRecords e).flatMap (fun r => (s.page r).placement) ↔
      st.page.map (s.swept e) = some true := by
  rw [List.mem_flatMap, Option.map_eq_some_iff]
  constructor
  · rintro ⟨r, hr, hn⟩
    have hr := (mem_sweptRecords h e r).1 hr
    obtain ⟨p, hp, -⟩ := (isOf_iff ..).1 hr
    rw [page_of_made hp] at hn
    obtain ⟨-, -, hlisted⟩ := h.listed r p hp
    obtain ⟨st', hst', hpage, -⟩ := hlisted n hn
    cases hst.symm.trans hst'
    exact ⟨r, hpage, hr⟩
  · rintro ⟨r, hpage, hr⟩
    obtain ⟨p, hp, hn⟩ := h.placed n st r hst hpage
    exact ⟨r, (mem_sweptRecords h e r).2 hr, by rwa [page_of_made hp]⟩

theorem pageAt_sealPages (r : Nat) :
    (s.sealPages e).page? r = if s.swept e r = true then none else s.page? r := by
  rw [(frees_sealPages h e).pageAt]
  exact if_congr (mem_sweptRecords h e r) rfl rfl

theorem storyAt_sealPages (n : Nat) :
    (s.sealPages e).story? n = (s.story? n).map fun st =>
      if st.page.map (s.swept e) = some true then st.lifted else st := by
  rw [(frees_sealPages h e).storyAt]
  cases hst : s.story? n with
  | none => rfl
  | some st => exact congrArg some (if_congr (mem_sweptStories h e hst) rfl rfl)

theorem terminal_sealPages (hwf : Table.wf Terminal.initial s.terminals = true) (x : Nat) :
    (s.sealPages e).terminal x =
      { s.terminal x with
        attentions :=
          if (s.terminal x).liveness = .absent ∨ (s.terminal x).liveness = .dark ∨
              (s.terminal x).configured = false then (s.terminal x).attentions
          else (((s.sweptRecords e).flatMap fun r => (s.page r).placement).filter
              (fun n => (s.terminal x).watches.contains n)).foldl
            (fun q n => joinAttention q (s.liftAttention n)) (s.terminal x).attentions } := by
  rw [(frees_sealPages h e).terminal hwf, foldl_told]

end

end Sys2Proof.Machine
end

section
/-! SUPPORT. Seals (R130, R132, R134), the orders on editions (R129 to R132), and MAKE PAGE and DROP PAGE (R137,
R138). -/

namespace Sys2Proof.Machine

/-! ### Which records there are -/

theorem PageWrite.canonicalPages {s t : State} (hw : PageWrite s t)
    (h : Table.wf none s.pages = true) : Table.wf none t.pages = true := by
  cases hw with
  | page r o => exact Table.wf_put none s.pages r o h
  | edition | typesetter | ready => exact h
  | lift n => exact (onlyChanges_modStory s n _).pagesOf ▸ h
  | offer n _ => exact (onlyChanges_offer s n).pagesOf ▸ h
  | attend x b => exact (onlyChanges_attend s x b).pagesOf ▸ h

/-- Whatever the page unit and the typesetter unit do keeps the page table canonical. -/
theorem State.pageWork.canonicalPages {s t : State} (hw : s.pageWork t)
    (h : Table.wf none s.pages = true) : Table.wf none t.pages = true := by
  induction hw with
  | refl => exact h
  | tail _ hlast ih => exact hlast.canonicalPages ih

theorem recordsWith_isEmpty {s : State} (h : Table.wf none s.pages = true) (e : Nat)
    (q : Page → Bool) :
    (s.recordsWith e q).isEmpty = true ↔
      ∀ r p, s.page? r = some p → p.edition = e → q p = false := by
  simp only [List.isEmpty_iff, List.eq_nil_iff_forall_not_mem, mem_recordsWith h, isOf_iff,
    not_exists, not_and, Bool.not_eq_true]

theorem editionSending_iff {s : State} (h : Table.wf none s.pages = true) (e : Nat) :
    s.editionSending e = true ↔
      ∃ r p, s.page? r = some p ∧ p.edition = e ∧ p.state = .sending := by
  rw [State.editionSending, Bool.not_eq_true', ← Bool.not_eq_true, recordsWith_isEmpty h]
  simp

/-- A page that keeps its edition from an automatic seal (R134). -/
abbrev Page.keepsOpen (p : Page) : Prop :=
  p.state = .queued ∨ p.state = .sending ∨ (p.tier = .replate ∧ (p.state = .armed ∨ p.state = .ready))

theorem sealsItself_iff {s : State} (h : Table.wf none s.pages = true) (e : Nat) :
    s.sealsItself e = true ↔
      (s.edition e).state = .closed ∧ (s.edition e).sealPending = false ∧
        (s.edition e).counter = 0 ∧
        ∀ r p, s.page? r = some p → p.edition = e → ¬ p.keepsOpen := by
  simp only [State.sealsItself, Bool.and_eq_true, recordsWith_isEmpty h, Bool.or_eq_false_iff,
    Bool.not_eq_true', beq_iff_eq, and_assoc]
  refine and_congr_right fun _ => and_congr_right fun _ => and_congr_right fun _ => ?_
  refine forall_congr' fun r => forall_congr' fun p => imp_congr_right fun _ => imp_congr_right fun _ => ?_
  simp [Page.keepsOpen]

/-! ### A seal (R130) -/

section
variable {s : State} (h : s.pagesStand) (e : Nat)
include h

/-- A seal is the sweep, the report of the edition as it stood, and the write of its record. -/
theorem seal_eq :
    s.seal e = ((s.sealPages e).offer (s.editionReportOf e .sealed)).putEdition e
      { s.edition e with state := .sealed, sealPending := false } := by
  have hreport : (s.sealPages e).editionReportOf e .sealed = s.editionReportOf e .sealed := by
    rw [State.editionReportOf, State.editionReportOf, edition_sealPages h]
  have hedition : ((s.sealPages e).offer (s.editionReportOf e .sealed)).edition e = s.edition e := by
    rw [(onlyChanges_offer _ _).editionAt, edition_sealPages h]
  rw [← hedition, ← hreport]
  rfl

theorem pageAt_seal (r : Nat) :
    (s.seal e).page? r = if s.swept e r = true then none else s.page? r := by
  rw [seal_eq h, State.pageAt_putEdition_frame, (onlyChanges_offer _ _).pageAt, pageAt_sealPages h]

theorem storyAt_seal (n : Nat) :
    (s.seal e).story? n = (s.story? n).map fun st =>
      if st.page.map (s.swept e) = some true then st.lifted else st := by
  rw [seal_eq h, State.storyAt_putEdition_frame, storyAt_offer, storyAt_sealPages h]

theorem edition_seal (d : Nat) :
    (s.seal e).edition d =
      if d = e then { s.edition e with state := .sealed, sealPending := false } else s.edition d := by
  rw [seal_eq h, State.edition_putEdition, (onlyChanges_offer _ _).editionAt, edition_sealPages h]

theorem typesetter_seal :
    (s.seal e).typesetter =
      { s.typesetter with
        replateTier := s.typesetter.replateTier.filter (fun r => !s.swept e r),
        firstTier := s.typesetter.firstTier.filter (fun r => !s.swept e r) } := by
  rw [← typesetter_sealPages h e, seal_eq h]
  exact (onlyChanges_offer _ _).queueOf

/-- The notices of a seal: those of its sweep, and then the report (R130, R150). -/
theorem queues_seal (hpage : s.reporting.page = true) :
    s.queues (s.seal e)
      ((s.sweptRecords e).flatMap (fun r => s.freeEvents r .seal) ++ [s.editionReportOf e .sealed]) := by
  have hswept := (frees_sealPages h e).queues hpage
  have hoffer := queues_pageReport (s := s.sealPages e) (n := s.editionReportOf e .sealed)
    (hswept.reporting ▸ hpage) rfl
  have hall := hswept.trans (hoffer.trans (.of_frame (onlyChanges_putEdition _ e
    { s.edition e with state := .sealed, sealPending := false })))
  rwa [List.append_nil, ← seal_eq h] at hall

omit h in
theorem terminal_seal (x : Nat) : (s.seal e).terminal x = (s.sealPages e).terminal x :=
  terminal_offer _ _ _

omit h in
/-- What a sweep of an edition frees when none of its pages is SENDING: every record of it. -/
theorem swept_of_idle (hidle : ∀ r p, s.page? r = some p → p.edition = e → p.state ≠ .sending) :
    s.swept e = s.isOf e fun _ => true := by
  funext r
  rw [Bool.eq_iff_iff, State.swept, isOf_iff, isOf_iff]
  refine exists_congr fun p => and_congr_right fun hp => and_congr_right fun he => ?_
  simp [hidle r p hp he]

end

/-- The events of freed records, as a sweep tells them (R150). -/
theorem freeEvents_of_edition {s : State} (h : s.pagesStand) {e : Nat} :
    ((s.sweptRecords e).flatMap fun r => s.freeEvents r .seal) =
      (s.sweptRecords e).flatMap fun r =>
        s.liftEvents (s.page r).placement ++
          [.pageEvent r e (s.page r).number none (s.page r).tier (s.page r).broken
            (s.page r).stalePending (s.page r).replates .seal] := by
  refine List.flatMap_congr fun r hr => ?_
  obtain ⟨p, hp, he, -⟩ := (isOf_iff ..).1 ((mem_sweptRecords h e r).1 hr)
  rw [State.freeEvents, pageFreedEvent, page_of_made hp, he]

/-- Settles O50: the reads after a seal, with no page left out of its sweep. -/
theorem sealFreesThePagesAndReports : Obligations.SealFreesThePagesAndReports := by
  unfold Obligations.SealFreesThePagesAndReports
  intro s e h hidle t mine records x lifted queued
  have hmine : s.swept e = mine := (swept_of_idle e hidle).trans (funext fun r => by
    change (match s.page? r with | some p => p.edition == e && true | none => false) = _
    simp only [Bool.and_true]
    rfl)
  have hrecords : s.sweptRecords e = records := congrArg (List.filter · (List.range 128)) hmine
  refine ⟨fun r => hmine ▸ pageAt_seal h e r, fun n => hmine ▸ storyAt_seal h e n, edition_seal h e,
    hmine ▸ typesetter_seal h e, fun hpage hbusy hroom => ?_, fun hwf y => ?_, onlyChanges_seal s e⟩
  · have hqueue := (queues_seal h e hpage).queue hbusy
    rw [freeEvents_of_edition h, hrecords] at hqueue
    exact hqueue (Nat.le_of_succ_le hroom)
  · rw [terminal_seal, terminal_sealPages h e hwf, hrecords]
    rfl

/-! ### The automatic seal test (R134) -/

theorem sealTest_of_seals {s : State} {e : Nat} (hs : s.sealsItself e = true) :
    s.sealTest e = s.seal e := if_pos hs

theorem sealTest_of_not {s : State} {e : Nat} (hs : ¬ s.sealsItself e = true) : s.sealTest e = s :=
  if_neg hs

/-! ### START, CLOSE and SEAL EDITION (R129 to R132) -/

section
variable {s : State} (hlisten : s.listening) (b : Byte)
include hlisten

theorem exec_startEdition_of_listening :
    exec (.startEdition [b]) s = .next
      (s.heard.judge Kind.startEdition none (s.heard.startChecks b.toNat)
        (s.heard.takeStart b.toNat)) :=
  congrArg Host.Outcome.next (takeFrame_of_listening s hlisten _ _ (by simp) _)

theorem exec_closeEdition_of_listening :
    exec (.closeEdition [b]) s = .next
      (s.heard.judge Kind.closeEdition none (s.heard.closeChecks b.toNat)
        (s.heard.takeClose b.toNat)) :=
  congrArg Host.Outcome.next (takeFrame_of_listening s hlisten _ _ (by simp) _)

theorem exec_sealEdition_of_listening :
    exec (.sealEdition [b]) s = .next
      (s.heard.judge Kind.sealEdition none (s.heard.sealChecks b.toNat)
        (s.heard.takeSeal b.toNat)) :=
  congrArg Host.Outcome.next (takeFrame_of_listening s hlisten _ _ (by simp) _)

end

theorem closedOpenly_iff (s : State) (c : Nat) :
    s.closedOpenly c = true ↔ (s.edition c).state = .closed ∧ (s.edition c).sealPending = false := by
  simp [State.closedOpenly]

/-- The other editions that step 1 of a CLOSE deals with (R132). -/
def State.othersAjar (s : State) (e : Nat) : List Nat :=
  ((List.range' 1 8).filter (fun c => !(c == e))).filter s.closedOpenly

theorem mem_othersAjar (s : State) (e c : Nat) :
    c ∈ s.othersAjar e ↔ 1 ≤ c ∧ c ≤ 8 ∧ c ≠ e ∧
      (s.edition c).state = .closed ∧ (s.edition c).sealPending = false := by
  simp only [State.othersAjar, List.mem_filter, List.mem_range'_1, closedOpenly_iff,
    Bool.not_eq_true', beq_eq_false_iff_ne, show c < 1 + 8 ↔ c ≤ 8 by omega]
  tauto

theorem closeOthers_of_none {s : State} {e : Nat} (hnone : ∀ c, c ∉ s.othersAjar e) :
    s.closeOthers e = s := by
  have hnil : s.othersAjar e = [] := List.eq_nil_iff_forall_not_mem.2 hnone
  change (if (s.othersAjar e).isEmpty then s else _) = s
  rw [hnil]
  rfl

theorem closeOthers_of_one {s : State} {e c : Nat} (hc : ∀ d, d ∈ s.othersAjar e ↔ d = c) :
    s.closeOthers e = (s.closeOther c).evaluateJoins := by
  have hone : s.othersAjar e = [c] :=
    eq_of_rising (.filter _ (.filter _ List.pairwise_lt_range'))
      (List.pairwise_singleton _ c)
      (fun d => by rw [hc, List.mem_singleton])
  change (if (s.othersAjar e).isEmpty then s
    else ((s.othersAjar e).foldl State.closeOther s).evaluateJoins) = _
  rw [hone]
  rfl

/-- Steps 2 and 3 of a CLOSE: the edition is CLOSED with its counter at its allowance (R132). -/
def State.closedNow (s : State) (e : Nat) : State :=
  s.putEdition e { s.edition e with state := .closed, counter := (s.edition e).allowance }

theorem closeItself_of_kept {u : State} (h : Table.wf none u.pages = true) {e : Nat}
    (hkept : (u.edition e).allowance ≠ 0 ∨ (u.edition e).sealPending = true ∨
      ∃ r p, u.page? r = some p ∧ p.edition = e ∧ p.keepsOpen) :
    u.closeItself e = u.closedNow e := by
  refine if_neg fun hseals => ?_
  obtain ⟨-, hpending, hcounter, hnone⟩ := (sealsItself_iff (s := u.closedNow e) h e).1 hseals
  simp only [State.closedNow, State.edition_putEdition, if_true] at hpending hcounter
  rcases hkept with hallowance | hmark | ⟨r, p, hp, he, hopen⟩
  · exact hallowance hcounter
  · rw [hmark] at hpending
    cases hpending
  · exact hnone r p hp he hopen

theorem closeItself_of_sealed {u : State} (h : Table.wf none u.pages = true) {e : Nat}
    (hallowance : (u.edition e).allowance = 0) (hmark : (u.edition e).sealPending = false)
    (hnone : ¬ ∃ r p, u.page? r = some p ∧ p.edition = e ∧ p.keepsOpen) :
    u.closeItself e = ((u.closedNow e).seal e).evaluateJoins := by
  refine if_pos ((sealsItself_iff (s := u.closedNow e) h e).2 ?_)
  refine ⟨?_, ?_, ?_, fun r p hp he hopen => hnone ⟨r, p, hp, he, hopen⟩⟩ <;>
    simp only [State.closedNow, State.edition_putEdition, if_true]
  · exact hmark
  · exact hallowance

/-- The mark of a seal-pending edition changes nothing that pages, stories and queue agree on (R132). -/
theorem pagesStand_putEdition {s : State} (h : s.pagesStand) {e : Nat} {x : Edition}
    (hplanned : x.planned = (s.edition e).planned) (hsize : x.size = (s.edition e).size)
    (hslots : x.slots.length = x.planned)
    (halive : x.state = .planned ∨ x.state = .running ∨ x.state = .closed ∨
      ∀ r p, s.page? r = some p → p.edition ≠ e) : (s.putEdition e x).pagesStand := by
  have hread : ∀ d, ((s.putEdition e x).edition d).planned = (s.edition d).planned ∧
      ((s.putEdition e x).edition d).size = (s.edition d).size := fun d => by
    rw [State.edition_putEdition]
    split
    · subst_vars; exact ⟨hplanned, hsize⟩
    · exact ⟨rfl, rfl⟩
  refine ⟨h.canonical, fun r p hp => ?_, h.distinct, fun r p hp => ?_, fun d => ?_, fun d => ?_,
    h.listed, h.placed, h.first, h.replate, h.once, h.sending, h.room⟩
  · rw [(hread p.edition).1]
    exact h.inRange r p hp
  · rw [State.edition_putEdition]
    split
    · rename_i he
      rcases halive with hx | hx | hx | hx
      · exact .inl hx
      · exact .inr (.inl hx)
      · exact .inr (.inr hx)
      · exact absurd he (hx r p hp)
    · exact h.alive r p hp
  · rw [(hread d).1, State.edition_putEdition]
    split
    · rename_i hd
      rw [hd, ← hplanned]
      exact hslots
    · exact h.slots d
  · rw [(hread d).1, (hread d).2]
    exact h.sized d

/-- An edition record is written with all kept but its marks and its counter. -/
theorem State.pagesStand.remark {s : State} (h : s.pagesStand) {e : Nat} {x : Edition}
    (hplanned : x.planned = (s.edition e).planned) (hsize : x.size = (s.edition e).size)
    (hslots : x.slots = (s.edition e).slots) (hstate : x.state = (s.edition e).state) :
    (s.putEdition e x).pagesStand := by
  refine pagesStand_putEdition h hplanned hsize (by rw [hslots, hplanned, h.slots]) ?_
  by_cases hused : ∃ r p, s.page? r = some p ∧ p.edition = e
  · obtain ⟨r, p, hp, rfl⟩ := hused
    rw [hstate]
    exact (h.alive r p hp).imp_right (Or.imp_right .inl)
  · exact .inr (.inr (.inr fun r p hp he => hused ⟨r, p, hp, he⟩))

theorem pagesStand_heard {s : State} (h : s.pagesStand) : s.heard.pagesStand :=
  ⟨h.canonical, h.inRange, h.distinct, h.alive, h.slots, h.sized, h.listed, h.placed, h.first,
    h.replate, h.once, h.sending, h.room⟩

/-- The marked edition of a CLOSE, its pages swept but for the one SENDING (R132). -/
def State.markedAndSwept (s : State) (c : Nat) : State :=
  (s.putEdition c { s.edition c with sealPending := true }).sealPages c

theorem closeOther_of_ajar {s : State} (h : Table.wf none s.pages = true) {c : Nat}
    (hajar : (s.edition c).state = .closed ∧ (s.edition c).sealPending = false) :
    ((¬ ∃ r p, s.page? r = some p ∧ p.edition = c ∧ p.state = .sending) →
      s.closeOther c = s.seal c) ∧
    ((∃ r p, s.page? r = some p ∧ p.edition = c ∧ p.state = .sending) →
      s.closeOther c = s.markedAndSwept c) := by
  rw [← editionSending_iff h]
  unfold State.closeOther
  rw [if_pos ((closedOpenly_iff s c).2 hajar)]
  exact ⟨fun hidle => if_neg hidle, fun hgoing => if_pos hgoing⟩

theorem editionRunning_eq (s : State) :
    s.editionRunning = s.editions.any (fun c => c.2.state == .running) := rfl

/-- Settles O49: the checks decide in their order, step 1 of a CLOSE deals with at most one edition, and the sweep
leaves what the reads after it say. -/
theorem editionsStartCloseAndSeal : Obligations.EditionsStartCloseAndSeal := by
  unfold Obligations.EditionsStartCloseAndSeal
  intro s b hlisten h e x outside going ajar busy start close sealed finish
  have hheard := pagesStand_heard h
  have hclose : exec (.closeEdition [b]) s = _ := exec_closeEdition_of_listening hlisten b
  have hseal : exec (.sealEdition [b]) s = _ := exec_sealEdition_of_listening hlisten b
  simp only [State.closeChecks, State.sealChecks, judge_cons, judge_nil, heard_refuseOrder,
    editionOutside_iff, Bool.not_eq_true', beq_eq_false_iff_ne, edition_heard] at hclose hseal
  have hgoes : s.heard.editionSending e = true ↔ going s e := editionSending_iff hheard.canonical e
  have hfinish : ∀ u : State, Table.wf none u.pages = true → s.heard.closeOthers e = u →
      ¬ outside → x.state = .running → finish u := by
    intro u hu hothers hin hrunning
    have htaken : exec (.closeEdition [b]) s = .next ((u.closeItself e).startTest) := by
      rw [hclose, if_neg hin, if_neg (not_not.2 hrunning), State.takeClose, hothers]
    refine ⟨fun hkept => ?_, fun hallowance hmark hidle => ?_⟩
    · exact htaken.trans (by rw [closeItself_of_kept hu hkept]; rfl)
    · exact htaken.trans (by rw [closeItself_of_sealed hu hallowance hmark hidle]; rfl)
  have hone : ∀ c, 1 ≤ c ∧ c ≤ 8 ∧ c ≠ e ∧ ajar c →
      (∀ d, 1 ≤ d → d ≤ 8 → d ≠ e → ajar d → d = c) → ∀ d, d ∈ s.heard.othersAjar e ↔ d = c := by
    intro c hc honly d
    rw [mem_othersAjar]
    exact ⟨fun ⟨hlow, hhigh, hne, hajar⟩ => honly d hlow hhigh hne hajar, fun hd => hd ▸ hc⟩
  refine ⟨?start, fun hout => ⟨?_, ?_⟩, fun hin => ⟨fun hstate => ?_, fun hrunning => ⟨fun hnone => ?_,
    fun c hlow hhigh hne hajar honly => ⟨fun hidle => ?_, fun hgoing => ?_⟩⟩, fun hstate => ?_,
    fun hstate hgoing => ?_, fun hstate hidle => ?_⟩, fun c => ?sweep⟩
  case start =>
    refine (exec_startEdition_of_listening hlisten b).trans ?_
    simp only [State.startChecks, judge_cons, judge_nil, heard_refuseOrder, editionOutside_iff,
      Bool.not_eq_true', beq_eq_false_iff_ne]
    rfl
  · exact hclose.trans (congrArg _ (if_pos hout))
  · exact hseal.trans (congrArg _ (if_pos hout))
  · exact hclose.trans (congrArg _ ((if_neg hin).trans (if_pos hstate)))
  · refine hfinish s.heard hheard.canonical (closeOthers_of_none fun c hc => ?_) hin hrunning
    obtain ⟨hlow, hhigh, hne, hajar⟩ := (mem_othersAjar s.heard e c).1 hc
    exact hnone c hlow hhigh hne hajar
  · have hothers := (closeOthers_of_one (hone c ⟨hlow, hhigh, hne, hajar⟩ honly)).trans
      (congrArg _ ((closeOther_of_ajar hheard.canonical hajar).1 hidle))
    refine hfinish _ ?_ hothers hin hrunning
    exact (pageWork_evaluateJoins _).canonicalPages
      ((pageWork_seal _ c).canonicalPages hheard.canonical)
  · have hothers := (closeOthers_of_one (hone c ⟨hlow, hhigh, hne, hajar⟩ honly)).trans
      (congrArg _ ((closeOther_of_ajar hheard.canonical hajar).2 hgoing))
    refine hfinish _ ?_ hothers hin hrunning
    exact (pageWork_evaluateJoins _).canonicalPages ((pageWork_sealPages _ c).canonicalPages
      ((pageWork_putEdition _ c _).canonicalPages hheard.canonical))
  · exact hseal.trans (congrArg _ ((if_neg hin).trans (if_pos hstate)))
  · exact hseal.trans (congrArg _ ((if_neg hin).trans ((if_neg (not_not.2 hstate)).trans
      (if_pos (hgoes.2 hgoing)))))
  · exact hseal.trans (congrArg _ ((if_neg hin).trans ((if_neg (not_not.2 hstate)).trans
      (if_neg (mt hgoes.1 hidle)))))
  case sweep =>
    intro t swept records lifted queued
    have hmarked := hheard.remark (e := c) (x := { s.edition c with sealPending := true }) rfl rfl
      rfl rfl
    refine ⟨pageAt_sealPages hmarked c, storyAt_sealPages hmarked c, fun d => ?_,
      typesetter_sealPages hmarked c, fun hpage hbusy hroom => ?_, fun hwf y => ?_, ?_⟩
    · exact (edition_sealPages hmarked c d).trans (State.edition_putEdition ..)
    · have hqueue := ((frees_sealPages hmarked c).queues hpage).queue hbusy
      rw [freeEvents_of_edition hmarked] at hqueue
      exact hqueue (Nat.le_of_succ_le hroom)
    · exact terminal_sealPages hmarked c hwf y
    · exact ((onlyChanges_putEdition _ _ _).mono (by decide)).trans (onlyChanges_sealPages _ c)

/-! ### MAKE PAGE and DROP PAGE (R137, R138) -/

theorem lowestFreePage_eq_none (s : State) :
    s.lowestFreePage = none ↔ ∀ r, r < 128 → s.page? r ≠ none := by
  simp [State.lowestFreePage, lowestFrom_eq_none, Option.isSome_iff_ne_none]

theorem lowestFreePage_eq_some {s : State} {r : Nat} (hr : r < 128) (hfree : s.page? r = none)
    (hlow : ∀ q, q < r → s.page? q ≠ none) : s.lowestFreePage = some r := by
  refine lowestFrom_eq_some _ _ 0 r (Nat.zero_le r) (by simpa using hr) (by simp [hfree])
    fun q _ hq => ?_
  simpa [Option.isSome_iff_ne_none] using hlow q hq

theorem busy_iff (x : PageState) : x.busy = true ↔ x = .queued ∨ x = .sending := by
  cases x <;> decide

theorem gone_iff (x : PageState) : x.gone = true ↔ x = .sent ∨ x = .stale := by
  cases x <;> decide

theorem sectionQueued_iff {s : State} (h : s.pagesStand) {e number : Nat} :
    s.sectionQueued e number = true ↔
      ∃ r q, s.page? r = some q ∧ q.edition = e ∧
        (q.number - 1) / (s.edition e).size = (number - 1) / (s.edition e).size ∧
        q.state = .queued ∧ q.tier = .first := by
  simp only [State.sectionQueued, List.any_eq_true, mem_sectionRecords h, Bool.and_eq_true,
    beq_iff_eq]
  constructor
  · rintro ⟨r, ⟨q, hq, rfl, hlow, hhigh⟩, hstate, htier⟩
    rw [page_of_made hq] at hstate htier
    obtain ⟨-, -, -, hnumber, -⟩ := h.inRange r q hq
    exact ⟨r, q, hq, rfl, (section_iff (h.size_pos hq) hnumber).2 ⟨hlow, hhigh⟩, hstate, htier⟩
  · rintro ⟨r, q, hq, rfl, hsection, hstate, htier⟩
    obtain ⟨-, -, -, hnumber, -⟩ := h.inRange r q hq
    refine ⟨r, ⟨q, hq, rfl, (section_iff (h.size_pos hq) hnumber).1 hsection⟩, ?_⟩
    rw [page_of_made hq]
    exact ⟨hstate, htier⟩

/-- The page has a record, or a FIRST-tier page of its section is QUEUED (R137). -/
theorem makePage_clash_iff {s : State} (h : s.pagesStand) (e number : Nat) :
    ((s.recordOf e number).isSome || s.sectionQueued e number) = true ↔
      ∃ r q, s.page? r = some q ∧ q.edition = e ∧ (q.number = number ∨
        ((q.number - 1) / (s.edition e).size = (number - 1) / (s.edition e).size ∧
          q.state = .queued ∧ q.tier = .first)) := by
  simp only [Bool.or_eq_true, sectionQueued_iff h, Option.isSome_iff_exists, recordOf_eq_some h,
    and_or_left, exists_or]

/-- The state in which DROP PAGE has freed its record and told of it (R138). -/
def State.dropped (s : State) (r : Nat) : State :=
  (((s.liftAll (s.page r).placement).putPage r none).writeSlot (s.page r).edition (s.page r).number
    { code := .empty, replates := 0 }).offer (pageFreedEvent r (s.page r) .order)

theorem takeDropPage_eq (s : State) (r : Nat) :
    s.takeDropPage r = (((s.dropped r).sealTest (s.page r).edition).evaluateJoins).startTest := rfl

section
variable (s : State) (r : Nat)

/-- All of a DROP PAGE but its record's event comes before the offer of that event. -/
theorem dropped_frame :
    (s.liftAll (s.page r).placement).onlyChanges ([.pages, .editions] ++ noticeFields)
      (s.dropped r) :=
  (((onlyChanges_putPage _ _ _).mono (by decide)).trans
    ((onlyChanges_writeSlot _ _ _ _).mono (by decide))).trans ((onlyChanges_offer _ _).mono (by decide))

theorem pageAt_dropped (k : Nat) : (s.dropped r).page? k = if k = r then none else s.page? k := by
  unfold State.dropped
  rw [(onlyChanges_offer _ _).pageAt, (onlyChanges_writeSlot _ _ _ _).pageAt, State.pageAt_putPage,
    (onlyChanges_liftAll _ _).pageAt]

theorem edition_dropped (e : Nat) :
    (s.dropped r).edition e =
      if e = (s.page r).edition then
        (s.edition e).withSlot (s.page r).number { code := .empty, replates := 0 }
      else s.edition e := by
  unfold State.dropped
  rw [(onlyChanges_offer _ _).editionAt, edition_writeSlot, State.edition_putPage_frame,
    (onlyChanges_liftAll _ _).editionAt]

theorem storyAt_dropped (n : Nat) :
    (s.dropped r).story? n =
      (s.story? n).map fun st => if n ∈ (s.page r).placement then st.lifted else st := by
  rw [(dropped_frame s r).storyAt, storyAt_liftAll]

theorem terminal_dropped (x : Nat) :
    (s.dropped r).terminal x = (s.liftAll (s.page r).placement).terminal x :=
  congrArg (Table.get Terminal.initial · x) (dropped_frame s r .terminals (by decide)).symm

theorem queues_dropped (hpage : s.reporting.page = true) :
    s.queues (s.dropped r) (s.freeEvents r .order) := by
  have hlift := queues_liftAll s (s.page r).placement
  have hwritten : (s.liftAll (s.page r).placement).onlyChanges [.pages, .editions]
      (((s.liftAll (s.page r).placement).putPage r none).writeSlot (s.page r).edition
        (s.page r).number { code := .empty, replates := 0 }) :=
    ((onlyChanges_putPage _ _ _).mono (by decide)).trans
      ((onlyChanges_writeSlot _ _ _ _).mono (by decide))
  have hfreed : (s.liftAll (s.page r).placement).reporting.page = true := hlift.reporting ▸ hpage
  rw [hwritten .reporting (by decide)] at hfreed
  have hoffer := queues_pageReport (n := pageFreedEvent r (s.page r) .order) hfreed rfl
  exact hlift.trans (hoffer.before hwritten)

theorem dropped_onlyChanges :
    s.onlyChanges (noticeFields ++ [.stories, .terminals, .pages, .editions]) (s.dropped r) :=
  ((onlyChanges_liftAll s _).mono (by decide)).trans ((dropped_frame s r).mono (by decide))

end

/-- Settles O51: the checks decide in their order, a made page is one move of its record, and a dropped one is freed
before the seal test. -/
theorem makeAndDropPageKeepTheRecords : Obligations.MakeAndDropPageKeepTheRecords := by
  unfold Obligations.MakeAndDropPageKeepTheRecords
  intro s hlisten h queued
  have hheard := pagesStand_heard h
  refine ⟨fun e p => ?make, fun b => ?drop, fun e => ?test⟩
  case make =>
    intro x sect refuse dead clash
    have hmake : exec (.makePage [e, p]) s = .next
        (s.heard.judge Kind.makePage (some e.toNat) (s.heard.makePageChecks e.toNat p.toNat)
          (s.heard.takeMakePage e.toNat p.toNat)) :=
      congrArg Host.Outcome.next (takeFrame_of_listening s hlisten _ _ (by simp) _)
    have hclash : (s.heard.recordOf e.toNat p.toNat).isSome = true ∨
        s.heard.sectionQueued e.toNat p.toNat = true ↔ clash :=
      (Bool.or_eq_true ..).symm.to_iff.trans (makePage_clash_iff hheard e.toNat p.toNat)
    simp only [State.makePageChecks, judge_cons, judge_nil, heard_refuseOrder, Bool.or_eq_true,
      decide_eq_true_eq, beq_iff_eq, or_assoc, Option.isNone_iff_eq_none, lowestFreePage_eq_none]
      at hmake
    refine ⟨fun hout => ?_, fun hl hh hpl hph => ⟨fun hdead => ?_, fun hlive hover => ?_,
      fun hlive hin => ⟨fun _ => ?_, fun hfree hfull => ?_, fun r hfree hr hnone hlow => ?_⟩⟩⟩
    · exact hmake.trans (congrArg _ (if_pos hout))
    all_goals
      refine hmake.trans (congrArg _ ((if_neg (by omega)).trans ?_))
    · exact if_pos hdead
    all_goals refine (if_neg hlive).trans ?_
    · exact if_pos hover
    all_goals refine (if_neg (Nat.not_lt.2 hin)).trans ?_
    · exact if_pos (hclash.2 ‹_›)
    all_goals refine (if_neg (mt hclash.1 hfree)).trans ?_
    · exact if_pos hfull
    · rw [if_neg (fun hfull => hfull r hr hnone), State.takeMakePage,
        lowestFreePage_eq_some (s := s.heard) hr hnone hlow]
      rfl
  case drop =>
    intro r refuse
    have hdrop : exec (.dropPage [b]) s = .next
        (s.heard.judge Kind.dropPage none (s.heard.dropPageChecks r) (s.heard.takeDropPage r)) :=
      congrArg Host.Outcome.next (takeFrame_of_listening s hlisten _ _ (by simp) _)
    simp only [State.dropPageChecks, judge_cons, judge_nil, heard_refuseOrder, decide_eq_true_eq,
      pageFree_iff, pageAt_heard, page_heard, busy_iff, gone_iff] at hdrop
    refine ⟨fun hout => hdrop.trans (congrArg _ (if_pos hout)), fun hin hfree =>
      hdrop.trans (congrArg _ ((if_neg (Nat.not_lt.2 hin)).trans (if_pos hfree))),
      fun p hin hp => ?_⟩
    have hpage : s.page r = p := page_of_made hp
    rw [if_neg (Nat.not_lt.2 hin), if_neg (by rw [hp]; exact Option.some_ne_none p), hpage] at hdrop
    refine ⟨fun hbusy => hdrop.trans (congrArg _ (if_pos hbusy)), fun hgone => ?_, fun hstate => ?_⟩
    · exact hdrop.trans (congrArg _ ((if_neg (by rcases hgone with h | h <;> simp [h])).trans
        (if_pos hgone)))
    · intro events
      refine ⟨s.heard.dropped r, ?_, pageAt_dropped s.heard r, fun n => ?_, fun d => ?_,
        fun henabled hbusy hroom => ?_, fun hwf x => ?_, ?_⟩
      · refine hdrop.trans (congrArg _ ?_)
        rw [if_neg (by rcases hstate with h | h | h <;> simp [h]),
          if_neg (by rcases hstate with h | h | h <;> simp [h]), takeDropPage_eq, page_heard, hpage]
      · rw [storyAt_dropped, page_heard, hpage]
        rfl
      · rw [edition_dropped, page_heard, hpage]
        rfl
      · have hqueue := (queues_dropped s.heard r henabled).queue hbusy
        rw [State.freeEvents, page_heard, hpage] at hqueue
        exact hqueue (Nat.le_of_succ_le hroom)
      · rw [terminal_dropped, page_heard, hpage, terminal_liftAll s.heard _ hwf, foldl_told]
        rfl
      · exact ((heard_onlyChanges s).mono (by decide)).trans
          ((dropped_onlyChanges s.heard r).mono (by decide))
  case test =>
    intro x seals
    have hseals : seals ↔ s.sealsItself e = true := by
      rw [sealsItself_iff h.canonical]
      refine and_congr_right fun _ => and_congr_right fun _ => and_congr_right fun _ => ?_
      refine forall_congr' fun r => forall_congr' fun p => imp_congr_right fun _ =>
        imp_congr_right fun _ => ?_
      simp [Page.keepsOpen]
    exact ⟨fun hs => sealTest_of_seals (hseals.1 hs), fun hs => sealTest_of_not (mt hseals.2 hs)⟩

end Sys2Proof.Machine
end

section
/-! SUPPORT. Pages that change state in turn (R145, R146), section withdrawal, and PLACE, LIFT, RELEASE and REPLATE
(R139 to R141, R147). -/

namespace Sys2Proof.Machine

/-! ### Several pages that change state in turn -/

/-- Page `r` takes state `x`, the typesetter queue being changed by `f`: a withdrawal (R146) or a join (R145). -/
def State.restate (f : Typesetter → Tier → Nat → Typesetter) (x : PageState) (c : PageCause)
    (s : State) (r : Nat) : State :=
  (s.putTypesetter (f s.typesetter (s.page r).tier r)).movePage r { s.page r with state := x } c

theorem joinPage_eq_restate : State.joinPage = State.restate Typesetter.append .queued .join := rfl

/-- A page that takes state `x`. -/
def Page.inState (p : Page) (x : PageState) : Page := { p with state := x }

/-- The slots of an edition as a list of its pages show themselves in state `x`, in order (R149). -/
def State.shown (s : State) (x : PageState) (rs : List Nat) (slots : List Slot) : List Slot :=
  rs.foldl (fun sl r => sl.set ((s.page r).number - 1)
    { code := x.slot, replates := (s.page r).replates }) slots

theorem State.shown_congr {s t : State} {rs : List Nat} (h : ∀ r ∈ rs, t.page r = s.page r)
    (x : PageState) (slots : List Slot) : t.shown x rs slots = s.shown x rs slots :=
  List.foldl_ext _ _ _ fun sl r hr => by rw [h r hr]

theorem State.shown_cons_filter (s : State) (x : PageState) (r : Nat) (rs : List Nat) (g : Nat → Bool)
    (slots : List Slot) :
    s.shown x ((r :: rs).filter g) slots = s.shown x (rs.filter g) (s.shown x ([r].filter g) slots) := by
  rw [← List.singleton_append, List.filter_append, State.shown, List.foldl_append]
  rfl

/-- What a list of pages that change state in turn leaves. -/
structure State.restates (f : Typesetter → Tier → Nat → Typesetter) (x : PageState) (c : PageCause)
    (s t : State) (rs : List Nat) : Prop where
  pageAt : ∀ k, t.page? k = (s.page? k).map fun p => if k ∈ rs then p.inState x else p
  typesetter : t.typesetter = rs.foldl (fun y r => f y (s.page r).tier r) s.typesetter
  edition : ∀ d, t.edition d =
    { s.edition d with
      slots := s.shown x (rs.filter fun r => (s.page r).edition == d) (s.edition d).slots }
  queues : s.reporting.page = true →
    s.queues t (rs.map fun r => pageEventOf r ((s.page r).inState x) c)

section
variable (f : Typesetter → Tier → Nat → Typesetter) (x : PageState) (c : PageCause) (s : State)

theorem pageAt_restate {r : Nat} (hr : s.page? r ≠ none) (k : Nat) :
    (State.restate f x c s r).page? k =
      (s.page? k).map fun p => if k = r then p.inState x else p := by
  obtain ⟨p, hp⟩ := Option.ne_none_iff_exists'.1 hr
  rw [State.restate, pageAt_movePage, State.pageAt_putTypesetter_frame]
  by_cases hk : k = r
  · subst hk
    simp [hp, page_of_made hp, Page.inState]
  · simp [hk]

theorem edition_restate (r d : Nat) :
    (State.restate f x c s r).edition d =
      { s.edition d with
        slots := s.shown x ([r].filter fun r => (s.page r).edition == d) (s.edition d).slots } := by
  rw [State.restate, edition_movePage, State.edition_putTypesetter_frame]
  by_cases hd : d = (s.page r).edition
  · subst hd
    simp [State.shown, Edition.withSlot, Page.slot]
  · simp [hd, Ne.symm hd, State.shown]

theorem queues_restate (henabled : s.reporting.page = true) (r : Nat) :
    s.queues (State.restate f x c s r) [pageEventOf r ((s.page r).inState x) c] :=
  (queues_movePage (s := s.putTypesetter (f s.typesetter (s.page r).tier r)) henabled r _ c).before
    (onlyChanges_putTypesetter _ _)

theorem restates_foldl {rs : List Nat} (hrs : rs.Nodup) (hmade : ∀ r ∈ rs, s.page? r ≠ none) :
    State.restates f x c s (rs.foldl (State.restate f x c) s) rs := by
  induction rs generalizing s with
  | nil => exact ⟨fun k => by simp, rfl, fun d => rfl, fun _ => .refl s⟩
  | cons r rest ih =>
    obtain ⟨hr, hrest⟩ := List.nodup_cons.1 hrs
    have hfirst := pageAt_restate f x c s (hmade r List.mem_cons_self)
    have hkept : ∀ k ∈ rest, (State.restate f x c s r).page? k = s.page? k := fun k hk => by
      simp only [hfirst, if_neg (show k ≠ r from fun heq => hr (heq ▸ hk)), Option.map_id']
    have hpage : ∀ k ∈ rest, (State.restate f x c s r).page k = s.page k := fun k hk => by
      rw [State.page, State.page, hkept k hk]
    have hother : ∀ d, (rest.filter fun k => ((State.restate f x c s r).page k).edition == d) =
        rest.filter fun k => (s.page k).edition == d :=
      fun d => List.filter_congr fun k hk => by rw [hpage k hk]
    obtain ⟨hpageAt, htypesetter, hedition, hqueues⟩ := ih (State.restate f x c s r) hrest
      fun k hk => by rw [hkept k hk]; exact hmade k (List.mem_cons_of_mem _ hk)
    refine ⟨fun k => ?_, ?_, fun d => ?_, fun henabled => ?_⟩
    · rw [List.foldl_cons, hpageAt, hfirst, Option.map_map]
      refine congrArg (Option.map · (s.page? k)) (funext fun p => ?_)
      by_cases hk : k = r <;> by_cases hin : k ∈ rest <;> simp [hk, hin, Page.inState]
    · rw [List.foldl_cons, htypesetter, List.foldl_cons, State.restate, typesetter_movePage]
      exact List.foldl_ext _ _ _ fun y k hk => congrArg (fun p : Page => f y p.tier k) (hpage k hk)
    · rw [List.foldl_cons, hedition, edition_restate, hother,
        State.shown_congr fun k hk => hpage k (List.mem_of_mem_filter hk), State.shown_cons_filter s x r rest]
    · have hhead := queues_restate f x c s henabled r
      have hevents : (rest.map fun k => pageEventOf k (((State.restate f x c s r).page k).inState x) c) =
          rest.map fun k => pageEventOf k ((s.page k).inState x) c :=
        List.map_congr_left fun k hk => by rw [hpage k hk]
      rw [List.foldl_cons, List.map_cons, ← hevents]
      exact hhead.trans (hqueues (hhead.reporting ▸ henabled))

end

/-! ### Section withdrawal (R146) -/

/-- The pages a section withdrawal for page `r` takes back, in page order. -/
def State.others (s : State) (r : Nat) : List Nat :=
  (s.sectionRecords (s.page r).edition (s.pageSection (s.page r))).filter (fun q =>
    !(q == r) && (s.page q).state == .queued && (s.page q).tier == .first)

theorem withdrawSection_eq (s : State) (r : Nat) :
    s.withdrawSection r =
      (s.others r).foldl (State.restate (fun y _ r => y.remove r) .ready .withdrawn) s := rfl

theorem mem_others {s : State} (h : s.pagesStand) {r : Nat} {p : Page} (hp : s.page? r = some p)
    (k : Nat) : k ∈ s.others r ↔ ∃ q, s.page? k = some q ∧ k ≠ r ∧ q.edition = p.edition ∧
      (q.number - 1) / (s.edition p.edition).size = (p.number - 1) / (s.edition p.edition).size ∧
      q.state = .queued ∧ q.tier = .first := by
  rw [State.others, page_of_made hp, List.mem_filter, mem_sectionRecords h]
  constructor
  · rintro ⟨⟨q, hq, hin⟩, hgoes⟩
    obtain ⟨hedition, hsection⟩ := (inSection_pageSection h hp hq).1 hin
    rw [page_of_made hq] at hgoes
    simp only [Bool.and_eq_true, Bool.not_eq_true', beq_eq_false_iff_ne, beq_iff_eq] at hgoes
    obtain ⟨⟨hne, hstate⟩, htier⟩ := hgoes
    exact ⟨q, hq, hne, hedition, hsection, hstate, htier⟩
  · rintro ⟨q, hq, hne, hedition, hsection, hstate, htier⟩
    refine ⟨⟨q, hq, (inSection_pageSection h hp hq).2 ⟨hedition, hsection⟩⟩, ?_⟩
    rw [page_of_made hq]
    simp [hne, hstate, htier]

theorem others_pairwise {s : State} (h : s.pagesStand) (r : Nat) :
    (s.others r).Pairwise fun k i => (s.page k).number < (s.page i).number :=
  (sectionRecords_pairwise h _ _).filter _

theorem nodup_of_numbers {s : State} {rs : List Nat}
    (h : rs.Pairwise fun k i => (s.page k).number < (s.page i).number) : rs.Nodup :=
  h.imp fun {_ _} hlt => ne_of_apply_ne (fun k => (s.page k).number) (Nat.ne_of_lt hlt)

theorem foldl_remove (rs : List Nat) (y : Typesetter) :
    rs.foldl Typesetter.remove y =
      { y with
        replateTier := y.replateTier.filter (· ∉ rs), firstTier := y.firstTier.filter (· ∉ rs) } := by
  induction rs generalizing y with
  | nil => simp
  | cons r rest ih =>
    rw [List.foldl_cons, ih]
    simp [Typesetter.remove, List.filter_filter, Bool.and_comm, beq_eq_decide]

section
variable {s : State} (h : s.pagesStand) {r : Nat} {p : Page} (hp : s.page? r = some p)
include h hp

theorem others_made {k : Nat} (hk : k ∈ s.others r) : s.page? k ≠ none := by
  obtain ⟨q, hq, -⟩ := (mem_others h hp k).1 hk
  rw [hq]
  exact Option.some_ne_none q

/-- What a section withdrawal leaves of the pages, the editions, the queue and the notice queue (R146). -/
theorem restates_withdrawSection :
    State.restates (fun y _ r => y.remove r) .ready .withdrawn s (s.withdrawSection r)
      (s.others r) :=
  withdrawSection_eq s r ▸ restates_foldl _ _ _ s (nodup_of_numbers (others_pairwise h r))
    fun _ hk => others_made h hp hk

theorem pageAt_withdrawSection (k : Nat) :
    (s.withdrawSection r).page? k =
      (s.page? k).map fun q => if k ∈ s.others r then q.inState .ready else q :=
  (restates_withdrawSection h hp).pageAt k

/-- The pages withdrawn are FIRST-tier pages: the REPLATE tier stays. -/
theorem typesetter_withdrawSection :
    (s.withdrawSection r).typesetter =
      { s.typesetter with
        firstTier := s.typesetter.firstTier.filter (fun k => decide (k ∉ s.others r)) } := by
  have hreplate : ∀ k ∈ s.typesetter.replateTier, decide (k ∉ s.others r) = true := fun k hk => by
    refine decide_eq_true fun hgone => ?_
    obtain ⟨q, hq, -, htier⟩ := (h.replate k).1 hk
    obtain ⟨o, ho, -, -, -, -, hfirst⟩ := (mem_others h hp k).1 hgone
    cases hq.symm.trans ho
    rw [htier] at hfirst
    cases hfirst
  rw [(restates_withdrawSection h hp).typesetter]
  refine (foldl_remove (s.others r) s.typesetter).trans ?_
  rw [List.filter_eq_self.2 hreplate]

end

/-! ### PLACE, LIFT, RELEASE and REPLATE (R139 to R141, R147) -/

theorem allSet_iff (s : State) (ns : List Nat) :
    s.allSet ns = true ↔ ∀ n ∈ ns, (s.story n).state = .set := by
  simp [State.allSet]

theorem gateState_eq (s : State) (p : Page) :
    s.gateState p = if ∀ n ∈ p.placement, (s.story n).state = .set then .ready else .armed :=
  if_congr (allSet_iff s p.placement) rfl rfl

/-- A page goes through its gate: it becomes READY or ARMED, and an ARMED one withdraws its section (R141, R147). -/
def State.throughGate (s : State) (r : Nat) (p : Page) (x : PageState) : State :=
  let v := s.movePage r { p with state := x } .order
  if x = .armed then v.withdrawSection r else v

theorem takeRelease_eq {s : State} {r : Nat} {x : PageState} (hx : s.gateState (s.page r) = x) :
    s.takeRelease r = ((s.throughGate r (s.page r) x).evaluateJoins).startTest := by
  have hopens : x = .ready ∨ x = .armed := by
    rw [← hx, gateState_eq]
    exact (ite_eq_or_eq _ _ _)
  unfold State.takeRelease State.throughGate
  rcases hopens with rfl | rfl <;> simp [hx]

theorem takeReplate_eq {s : State} {r : Nat} {x : PageState} (hx : s.gateState (s.page r) = x) :
    s.takeReplate r =
      ((((s.spendJoin (s.page r).edition).throughGate r { s.page r with tier := .replate }
        x).sealTest (s.page r).edition).evaluateJoins).startTest := by
  subst hx
  rfl

/-- Settles O53: the move of a page is one write and one offer, a withdrawal is the change in turn of the other
QUEUED FIRST-tier pages, and the two orders are their checks and the gate's move. -/
theorem releaseAndReplateOpenTheGate : Obligations.ReleaseAndReplateOpenTheGate := by
  unfold Obligations.ReleaseAndReplateOpenTheGate
  refine ⟨fun s r p cause => ?move, fun s r p h hp => ?withdrawal, fun s b hlisten => ?orders⟩
  case move =>
    cases hstate : p.state <;>
      simp only [State.movePage, State.writePage, State.writeSlot, pageEventOf, hstate,
        PageState.slot] <;> rfl
  case withdrawal =>
    intro t x goes
    have hgoes : ∀ k, k ∈ s.others r ↔ goes k = true := fun k => by
      rw [mem_others h hp]
      change _ ↔ (match s.page? k with | some q => _ | none => false) = true
      cases s.page? k with
      | none => simp
      | some q => simp [x, and_assoc]
    have hrestates := restates_withdrawSection h hp
    have hmine : ∀ k ∈ s.others r, (s.page k).edition = p.edition ∧ (s.page k).tier = .first :=
      fun k hk => by
        obtain ⟨q, hq, -, hedition, -, -, htier⟩ := (mem_others h hp k).1 hk
        rw [page_of_made hq]
        exact ⟨hedition, htier⟩
    refine ⟨fun k => ?_, ?_, fun e he => ?_, s.others r, hgoes, others_pairwise h r, ?_, ?_, ?_⟩
    · rw [pageAt_withdrawSection h hp]
      refine congrArg (Option.map · (s.page? k)) (funext fun q => ?_)
      exact if_congr (hgoes k) rfl rfl
    · rw [typesetter_withdrawSection h hp]
      refine congrArg (fun l => ({ s.typesetter with firstTier := l } : Typesetter))
        (List.filter_congr fun k _ => ?_)
      simp [hgoes]
    · rw [hrestates.edition, List.filter_eq_nil_iff.2 fun k hk => by
        simp [(hmine k hk).1, Ne.symm he]]
      rfl
    · rw [hrestates.edition, List.filter_eq_self.2 fun k hk => by simp [(hmine k hk).1]]
      rfl
    · intro hpage hbusy hroom
      refine ((hrestates.queues hpage).queue hbusy (by rw [List.length_map]; omega)).trans
        (congrArg (s.queue ++ ·) (List.map_congr_left fun k hk => ?_))
      obtain ⟨hedition, htier⟩ := hmine k hk
      simp only [pageEventOf, Page.inState, hedition, htier]
    · exact onlyChanges_withdrawSection s r
  case orders =>
    intro r p x gate moved
    have hgate : s.heard.gateState p = gate := gateState_eq s.heard p
    have hrelease : exec (.release [b]) s = .next
        (s.heard.judge Kind.release none (s.heard.releaseChecks r) (s.heard.takeRelease r)) :=
      congrArg Host.Outcome.next (takeFrame_of_listening s hlisten _ _ (by simp) _)
    have hreplate : exec (.replate [b]) s = .next
        (s.heard.judge Kind.replate (some r) (s.heard.replateChecks r) (s.heard.takeReplate r)) :=
      congrArg Host.Outcome.next (takeFrame_of_listening s hlisten _ _ (by simp) _)
    simp only [State.releaseChecks, State.replateChecks, judge_cons, judge_nil, heard_refuseOrder,
      decide_eq_true_eq, pageFree_iff, pageAt_heard, page_heard, edition_heard, busy_iff, Bool.and_eq_true,
      beq_iff_eq, Bool.not_eq_true', ← Bool.not_eq_true, gone_iff] at hrelease hreplate
    rw [takeRelease_eq hgate] at hrelease
    rw [takeReplate_eq hgate] at hreplate
    refine ⟨hrelease, hreplate.trans ?_⟩
    simp only [not_or]
    rfl

/-- A page takes a new list of stories and a story a new page, and the change is told (R139, R140). -/
def State.replaced (s : State) (r : Nat) (q : Page) (n : Nat) (st : Story) (k : Change) : State :=
  ((s.putPage r (some q)).putStory n (some st)).tellChange k n .order

section
variable (s : State) (r : Nat) (q : Page) (n : Nat) (st : Story) (k : Change)

theorem replaced_page : (s.replaced r q n st k).page r = q := by
  refine page_of_made ?_
  rw [State.replaced, (onlyChanges_tellChange _ _ _ _).pageAt, State.pageAt_putStory_frame, State.pageAt_putPage,
    if_pos rfl]

theorem replaced_storyState (hst : st.state = (s.story n).state) (m : Nat) :
    ((s.replaced r q n st k).story m).state = (s.story m).state := by
  rw [State.replaced, State.story, storyAt_tellChange, State.storyAt_putStory]
  split
  · subst_vars
    exact hst
  · rfl

end

section
variable (s : State) (r : Nat)

theorem pageAfterPlace_eq (isSet : Bool) :
    s.pageAfterPlace r isSet =
      if (s.page r).state = .ready ∧ isSet = false then
        (((s.movePage r { s.page r with state := .armed } .order).withdrawSection r).sealTest
          (s.page r).edition).evaluateJoins
      else if (s.page r).state = .sent then
        (s.movePage r { s.page r with state := .stale } .order).evaluateJoins
      else s := by
  unfold State.pageAfterPlace
  cases hstate : (s.page r).state <;> simp [hstate]
  cases isSet <;> simp

theorem pageAfterLift_eq :
    s.pageAfterLift r =
      if (s.page r).state = .armed ∧ ∀ m ∈ (s.page r).placement, (s.story m).state = .set then
        (s.movePage r { s.page r with state := .ready } .gate).evaluateJoins
      else if (s.page r).state = .sent then
        (s.movePage r { s.page r with state := .stale } .order).evaluateJoins
      else s := by
  unfold State.pageAfterLift
  simp only [allSet_iff]
  cases (s.page r).state <;> simp

end

theorem takePlace_of_live {s : State} {n : Nat} (hlive : s.story? n = some (s.story n)) (r : Nat) :
    s.takePlace n r =
      ((s.replaced r { s.page r with placement := (s.page r).placement ++ [n] } n
        { s.story n with page := some r } .placed).pageAfterPlace r ((s.story n).state == .set)).startTest := by
  have hstory := modStory_of_live (s := s.putPage r (some
    { s.page r with placement := (s.page r).placement ++ [n] })) hlive fun st => { st with page := some r }
  exact congrArg (fun u : State => ((u.tellChange .placed n .order).pageAfterPlace r _).startTest) hstory

theorem takeLift_of_live {s : State} {n k : Nat} (hlive : s.story? n = some (s.story n))
    (hk : (s.story n).page = some k) :
    s.takeLift n =
      ((s.replaced k { s.page k with placement := (s.page k).placement.filter (fun m => m != n) } n
        { s.story n with page := none } .lifted).pageAfterLift k).startTest := by
  have hstory := modStory_of_live (s := s.putPage k (some
    { s.page k with placement := (s.page k).placement.filter (fun m => m != n) })) hlive Story.lifted
  unfold State.takeLift
  rw [hk]
  exact congrArg (fun u : State => ((u.tellChange .lifted n .order).pageAfterLift k).startTest) hstory

theorem onBusyPage_iff {s : State} {n k : Nat} (hk : (s.story n).page = some k) :
    s.onBusyPage n = true ↔ (s.page k).state = .queued ∨ (s.page k).state = .sending := by
  rw [State.onBusyPage, hk, busy_iff]

/-- Settles O52: the checks decide in their order, and the page that a taken order leaves is read in the state in
which its list has changed and the change been told. -/
theorem placeAndLiftMoveThePage : Obligations.PlaceAndLiftMoveThePage := by
  unfold Obligations.PlaceAndLiftMoveThePage
  intro s hi lo b hlisten n r st
  refine ⟨?place, ?lift⟩
  case place =>
    intro p q placed refuse
    have hplace : exec (.place [hi, lo, b]) s = .next
        (s.heard.judge Kind.place (some n) (s.heard.placeChecks n r) (s.heard.takePlace n r)) :=
      congrArg Host.Outcome.next (takeFrame_of_listening s hlisten _ _ (by simp) _)
    simp only [State.placeChecks, judge_cons, judge_nil, heard_refuseOrder, decide_eq_true_eq,
      Bool.or_eq_true, pageFree_iff, isFree_iff, pageAt_heard, page_heard, story_heard, storyAt_heard, busy_iff,
      beq_iff_eq] at hplace
    refine hplace.trans (congrArg _ ?_)
    refine if_congr Iff.rfl rfl (if_congr Iff.rfl rfl (ite_congr rfl (fun _ => rfl) fun hlive => ?_))
    refine if_congr Iff.rfl rfl (if_congr Iff.rfl rfl (if_congr Iff.rfl rfl (if_congr decide_eq_true_iff rfl ?_)))
    rw [takePlace_of_live (s := s.heard) (live_of_not_free (s := s.heard) hlive), pageAfterPlace_eq, replaced_page,
      apply_ite State.startTest, apply_ite State.startTest]
    exact if_congr (and_congr_right fun _ => beq_eq_false_iff_ne) rfl rfl
  case lift =>
    intro refuse lift
    have hlift : exec (.lift [hi, lo]) s = .next
        (s.heard.judge Kind.lift none (s.heard.liftChecks n) (s.heard.takeLift n)) :=
      congrArg Host.Outcome.next (takeFrame_of_listening s hlisten _ _ (by simp) _)
    simp only [State.liftChecks, judge_cons, judge_nil, heard_refuseOrder, decide_eq_true_eq, isFree_iff,
      story_heard, storyAt_heard, Option.isNone_iff_eq_none] at hlift
    refine ⟨fun hout => ?_, fun hin hfree => ?_, fun hin hlive hnone => ?_, fun k p hin hlive hk hp => ?_⟩
    · exact hlift.trans (congrArg _ (if_pos hout))
    all_goals refine hlift.trans (congrArg _ ((if_neg (Nat.not_lt.2 hin)).trans ?_))
    · exact if_pos hfree
    all_goals refine (if_neg (by rw [hlive]; exact Option.some_ne_none st)).trans ?_
    · exact if_pos hnone
    · have hpage : s.heard.page k = p := page_of_made hp
      have hbusy := onBusyPage_iff (s := s.heard) (n := n) hk
      rw [hpage] at hbusy
      refine (if_neg (by rw [hk]; exact Option.some_ne_none k)).trans (if_congr hbusy rfl ?_)
      rw [takeLift_of_live (s := s.heard) hlive hk, pageAfterLift_eq, replaced_page, hpage,
        apply_ite State.startTest, apply_ite State.startTest]
      refine if_congr (and_congr_right fun _ => forall_congr' fun m => imp_congr_right fun _ => ?_) rfl rfl
      exact Eq.congr_left (replaced_storyState s.heard _ _ n { st with page := none } _ rfl m)

end Sys2Proof.Machine
end

section
/-! SUPPORT. What pages, stories, editions and the typesetter queue agree on (R126, R136, R142, R155, R158): the
invariant `State.pagesStand` after the change of one record, after a change of stories alone, and after a seal. -/

namespace Sys2Proof.Machine

/-! ### What stays the same of the editions and of the stories -/

/-- Two states of an edition that are the same in all but its counter, its report and its slots' codes. -/
structure Edition.alike (x y : Edition) : Prop where
  state : y.state = x.state
  planned : y.planned = x.planned
  size : y.size = x.size
  pending : y.sealPending = x.sealPending
  slots : y.slots.length = x.slots.length

theorem Edition.alike.refl (x : Edition) : x.alike x := ⟨rfl, rfl, rfl, rfl, rfl⟩

theorem Edition.alike.trans {x y z : Edition} (h : x.alike y) (k : y.alike z) : x.alike z :=
  ⟨k.state.trans h.state, k.planned.trans h.planned, k.size.trans h.size,
    k.pending.trans h.pending, k.slots.trans h.slots⟩

theorem Edition.alike_withSlot (x : Edition) (number : Nat) (slot : Slot) :
    x.alike (x.withSlot number slot) := ⟨rfl, rfl, rfl, rfl, List.length_set⟩

/-- Every edition is as it was, but for its counter, its report and its slots' codes. -/
def State.editionsAlike (s t : State) : Prop := ∀ d, (s.edition d).alike (t.edition d)

theorem editionsAlike_of_eq {s t : State} (h : ∀ d, t.edition d = s.edition d) :
    s.editionsAlike t := fun d => h d ▸ .refl _

theorem State.editionsAlike.trans {s t u : State} (h : s.editionsAlike t) (k : t.editionsAlike u) :
    s.editionsAlike u := fun d => (h d).trans (k d)

theorem editionsAlike_movePage (s : State) (r : Nat) (p : Page) (c : PageCause) :
    s.editionsAlike (s.movePage r p c) := fun d => by
  rw [edition_movePage]
  split
  · exact Edition.alike_withSlot ..
  · exact .refl _

/-- The stories on the records outside `but` stand there as before: none has become SPIKED or left SET, and none
has come. -/
structure State.placesKept (s t : State) (but : Nat → Prop) : Prop where
  there : ∀ n st k, ¬ but k → s.story? n = some st → st.page = some k →
    ∃ st', t.story? n = some st' ∧ st'.page = some k ∧ (st.state ≠ .spiked → st'.state ≠ .spiked) ∧
      (st.state = .set → st'.state = .set)
  back : ∀ n st k, ¬ but k → t.story? n = some st → st.page = some k →
    ∃ st', s.story? n = some st' ∧ st'.page = some k

theorem placesKept_of_eq {s t : State} (h : ∀ n, t.story? n = s.story? n) (but : Nat → Prop) :
    s.placesKept t but :=
  ⟨fun n st _ _ hst hpage => ⟨st, (h n).trans hst, hpage, id, id⟩,
    fun n st _ _ hst hpage => ⟨st, (h n).symm.trans hst, hpage⟩⟩

/-- The typesetter queue and the send record speak of record `r` as of page `o`, or as of none, and of the others
as before (R155, R158). -/
structure Typesetter.requeued (y z : Typesetter) (r : Nat) (o : Option Page) : Prop where
  first : ∀ k, k ∈ z.firstTier ↔
    if k = r then ∃ q, o = some q ∧ q.state = .queued ∧ q.tier = .first else k ∈ y.firstTier
  replate : ∀ k, k ∈ z.replateTier ↔
    if k = r then ∃ q, o = some q ∧ q.state = .queued ∧ q.tier = .replate else k ∈ y.replateTier
  once : z.firstTier.Nodup ∧ z.replateTier.Nodup
  sending : ∀ k, (∃ x, z.send = some x ∧ x.page = k) ↔
    if k = r then ∃ q, o = some q ∧ q.state = .sending else ∃ x, y.send = some x ∧ x.page = k
  room : z.replateTier.length + z.firstTier.length + (if z.send.isSome then 1 else 0) ≤ 64

/-! ### The change of one record -/

/-- The pages of two states are the same but for record `r`, which becomes `o`. -/
def State.rewrites (s t : State) (r : Nat) (o : Option Page) : Prop :=
  ∀ k, t.page? k = if k = r then o else s.page? k

section
variable {s t : State} {r : Nat} {o : Option Page} (hpage : s.rewrites t r o)
include hpage

theorem State.rewrites.self : t.page? r = o := (hpage r).trans (if_pos rfl)

theorem State.rewrites.other {k : Nat} (hk : k ≠ r) : t.page? k = s.page? k :=
  (hpage k).trans (if_neg hk)

/-- A page found afterwards is the one written, or was there. -/
theorem State.rewrites.cases {k : Nat} {p : Page} (hp : t.page? k = some p) :
    (k = r ∧ o = some p) ∨ (k ≠ r ∧ s.page? k = some p) := by
  by_cases hk : k = r
  · exact .inl ⟨hk, by rw [← hpage.self, ← hk, hp]⟩
  · exact .inr ⟨hk, by rw [← hpage.other hk, hp]⟩

theorem State.rewrites.exists_iff (f : Page → Prop) (k : Nat) :
    (∃ p, t.page? k = some p ∧ f p) ↔
      if k = r then ∃ q, o = some q ∧ f q else ∃ p, s.page? k = some p ∧ f p := by
  rw [hpage k]
  split <;> rfl

end

/-- What record `r` becomes, in an edition that is live, of a page of its own, with its list in agreement with its
stories. -/
structure State.fits (s t : State) (r : Nat) (q : Page) : Prop where
  inRange : r < 128 ∧ 1 ≤ q.edition ∧ q.edition ≤ 8 ∧ 1 ≤ q.number ∧
    q.number ≤ (s.edition q.edition).planned
  distinct : ∀ k o, k ≠ r → s.page? k = some o → o.edition = q.edition → o.number ≠ q.number
  alive : (s.edition q.edition).state = .planned ∨ (s.edition q.edition).state = .running ∨
    (s.edition q.edition).state = .closed
  listed : q.placement.length ≤ 12 ∧ q.placement.Nodup ∧
    ∀ n ∈ q.placement, ∃ st, t.story? n = some st ∧ st.page = some r ∧ st.state ≠ .spiked ∧
      (q.state = .ready ∨ q.state = .queued ∨ q.state = .sending → st.state = .set)

/-- Pages, stories, editions and queue agree after the change of one record, with its stories and its entry. -/
theorem State.pagesStand.rewrite {s t : State} {r : Nat} {o : Option Page} (h : s.pagesStand)
    (hcanonical : Table.wf none t.pages = true) (hpage : s.rewrites t r o)
    (hedition : s.editionsAlike t) (hplaces : s.placesKept t (· = r))
    (hfits : ∀ q, o = some q → s.fits t r q)
    (hmine : ∀ n st, t.story? n = some st → st.page = some r → ∃ q, o = some q ∧ n ∈ q.placement)
    (hqueue : s.typesetter.requeued t.typesetter r o) : t.pagesStand where
  canonical := hcanonical
  inRange k p hp := by
    rw [(hedition p.edition).planned]
    rcases hpage.cases hp with ⟨rfl, ho⟩ | ⟨-, hp'⟩
    · exact (hfits p ho).inRange
    · exact h.inRange k p hp'
  distinct k j p q hp hq hsame hnumber := by
    rcases hpage.cases hp with ⟨rfl, ho⟩ | ⟨hk, hp'⟩ <;>
      rcases hpage.cases hq with ⟨rfl, ho'⟩ | ⟨hj, hq'⟩
    · rfl
    · exact absurd hnumber.symm ((hfits p ho).distinct j q hj hq' hsame.symm)
    · exact absurd hnumber ((hfits q ho').distinct k p hk hp' hsame)
    · exact h.distinct k j p q hp' hq' hsame hnumber
  alive k p hp := by
    rw [(hedition p.edition).state]
    rcases hpage.cases hp with ⟨rfl, ho⟩ | ⟨-, hp'⟩
    · exact (hfits p ho).alive
    · exact h.alive k p hp'
  slots d := by rw [(hedition d).slots, (hedition d).planned, h.slots]
  sized d := by rw [(hedition d).planned, (hedition d).size]; exact h.sized d
  listed k p hp := by
    rcases hpage.cases hp with ⟨rfl, ho⟩ | ⟨hk, hp'⟩
    · exact (hfits p ho).listed
    · obtain ⟨hlength, hnodup, hlist⟩ := h.listed k p hp'
      refine ⟨hlength, hnodup, fun n hn => ?_⟩
      obtain ⟨st, hst, hplace, hspiked, hgate⟩ := hlist n hn
      obtain ⟨st', hst', hplace', hspiked', hset⟩ := hplaces.there n st k hk hst hplace
      exact ⟨st', hst', hplace', hspiked' hspiked, hset ∘ hgate⟩
  placed n st k hst hplace := by
    by_cases hk : k = r
    · subst hk
      rw [hpage.self]
      exact hmine n st hst hplace
    · obtain ⟨st', hst', hplace'⟩ := hplaces.back n st k hk hst hplace
      rw [hpage.other hk]
      exact h.placed n st' k hst' hplace'
  first k := by
    rw [hqueue.first, hpage.exists_iff, h.first]
  replate k := by
    rw [hqueue.replate, hpage.exists_iff, h.replate]
  once := hqueue.once
  sending k := by
    rw [hqueue.sending, hpage.exists_iff, h.sending]
  room := hqueue.room

/-- A record that stays one of its page, with its list. -/
structure Page.still (q p : Page) : Prop where
  edition : q.edition = p.edition
  number : q.number = p.number
  placement : q.placement = p.placement


theorem Page.still_inState (p : Page) (x : PageState) : (p.inState x).still p := ⟨rfl, rfl, rfl⟩

theorem State.pagesStand.fits {s : State} (h : s.pagesStand) {r : Nat} {p q : Page}
    (hp : s.page? r = some p) (hsame : q.still p)
    (hgate : q.state = .ready ∨ q.state = .queued ∨ q.state = .sending →
      ∀ n ∈ p.placement, (s.story n).state = .set) : s.fits s r q where
  inRange := by
    rw [hsame.edition, hsame.number]
    exact h.inRange r p hp
  distinct k o hk ho hedition := by
    rw [hsame.edition] at hedition
    rw [hsame.number]
    exact fun heq => hk (h.distinct k r o p ho hp hedition heq)
  alive := by
    rw [hsame.edition]
    exact h.alive r p hp
  listed := by
    obtain ⟨hlength, hnodup, hlist⟩ := h.listed r p hp
    rw [hsame.placement]
    refine ⟨hlength, hnodup, fun n hn => ?_⟩
    obtain ⟨st, hst, hplace, hspiked, -⟩ := hlist n hn
    exact ⟨st, hst, hplace, hspiked, fun hstate => story_of_live hst ▸ hgate hstate n hn⟩

/-- The stories of a page that is READY, QUEUED or SENDING are SET (R142). -/
theorem State.pagesStand.gated {s : State} (h : s.pagesStand) {r : Nat} {p : Page}
    (hp : s.page? r = some p) (hstate : p.state = .ready ∨ p.state = .queued ∨ p.state = .sending) :
    ∀ n ∈ p.placement, (s.story n).state = .set := fun n hn => by
  obtain ⟨-, -, hlist⟩ := h.listed r p hp
  obtain ⟨st, hst, -, -, hgate⟩ := hlist n hn
  rw [story_of_live hst]
  exact hgate hstate

theorem State.fits.of_stories {s t u : State} {r : Nat} {q : Page} (h : s.fits t r q)
    (hstories : ∀ n, u.story? n = t.story? n) : s.fits u r q :=
  ⟨h.inRange, h.distinct, h.alive, by simpa only [hstories] using h.listed⟩

/-- A page moves, its place on the typesetter queue with it. -/
theorem State.pagesStand.move {s : State} (h : s.pagesStand) {r : Nat} {p q : Page}
    {y : Typesetter} (hp : s.page? r = some p) (hsame : q.still p)
    (hgate : q.state = .ready ∨ q.state = .queued ∨ q.state = .sending →
      ∀ n ∈ p.placement, (s.story n).state = .set)
    (hqueue : s.typesetter.requeued y r (some q)) (c : PageCause) :
    ((s.putTypesetter y).movePage r q c).pagesStand := by
  have hstories : ∀ n, ((s.putTypesetter y).movePage r q c).story? n = s.story? n :=
    fun n => storyAt_movePage ..
  refine h.rewrite (o := some q) (canonical_movePage (s := s.putTypesetter y) h.canonical r q c)
    (fun k => pageAt_movePage ..) (editionsAlike_movePage (s.putTypesetter y) r q c)
    (placesKept_of_eq hstories _) (fun q' hq' => ?_) (fun n st hst hplace => ?_)
    (by rwa [typesetter_movePage])
  · cases hq'
    exact (h.fits hp hsame hgate).of_stories hstories
  · obtain ⟨p', hp', hn⟩ := h.placed n st r ((hstories n).symm.trans hst) hplace
    cases hp.symm.trans hp'
    exact ⟨q, rfl, hsame.placement ▸ hn⟩

/-! ### The places a page can move to and from -/

section
variable {s : State} (h : s.pagesStand) {r : Nat} {p q : Page} (hp : s.page? r = some p)
include h hp

theorem queued_first_iff : r ∈ s.typesetter.firstTier ↔ p.state = .queued ∧ p.tier = .first := by
  rw [h.first]
  simp [hp]

theorem queued_replate_iff :
    r ∈ s.typesetter.replateTier ↔ p.state = .queued ∧ p.tier = .replate := by
  rw [h.replate]
  simp [hp]

theorem sending_iff : (∃ x, s.typesetter.send = some x ∧ x.page = r) ↔ p.state = .sending := by
  rw [← h.sending]
  simp [hp]

theorem sending_kept (hsending : q.state = .sending ↔ p.state = .sending) (k : Nat) :
    (∃ x, s.typesetter.send = some x ∧ x.page = k) ↔
      if k = r then ∃ o, some q = some o ∧ o.state = .sending
      else ∃ x, s.typesetter.send = some x ∧ x.page = k := by
  by_cases hk : k = r
  · rw [if_pos hk, hk, sending_iff h hp, ← hsending]
    simp
  · rw [if_neg hk]

/-- A page that is as much QUEUED, in its tier, and as much SENDING as it was. -/
theorem requeued_kept (hqueued : ∀ x, q.state = .queued ∧ q.tier = x ↔ p.state = .queued ∧ p.tier = x)
    (hsending : q.state = .sending ↔ p.state = .sending) :
    s.typesetter.requeued s.typesetter r (some q) where
  first k := by
    by_cases hk : k = r
    · rw [if_pos hk, hk, queued_first_iff h hp, ← hqueued]
      simp
    · rw [if_neg hk]
  replate k := by
    by_cases hk : k = r
    · rw [if_pos hk, hk, queued_replate_iff h hp, ← hqueued]
      simp
    · rw [if_neg hk]
  once := h.once
  sending := sending_kept h hp hsending
  room := h.room

omit h hp in
theorem room_remove (y : Typesetter) (r : Nat) :
    (y.remove r).replateTier.length + (y.remove r).firstTier.length ≤
      y.replateTier.length + y.firstTier.length :=
  Nat.add_le_add (List.length_filter_le _ _) (List.length_filter_le _ _)

/-- A page that leaves the queue, if it was there (R143, R146). -/
theorem requeued_removed (hqueued : q.state ≠ .queued) (hsending : q.state = .sending ↔ p.state = .sending) :
    s.typesetter.requeued (s.typesetter.remove r) r (some q) where
  first k := by
    by_cases hk : k = r <;> simp [Typesetter.remove, hk, hqueued]
  replate k := by
    by_cases hk : k = r <;> simp [Typesetter.remove, hk, hqueued]
  once := ⟨h.once.1.filter _, h.once.2.filter _⟩
  sending := sending_kept h hp hsending
  room := (Nat.add_le_add_right (room_remove s.typesetter r) _).trans h.room

/-- The places of the other pages, with record `r` on neither tier and then on that of `q` (R145, R167). -/
theorem requeued_added {z : Typesetter} (hidle : p.state ≠ .queued) (hqueued : q.state = .queued)
    (hfirst : ∀ k, k ∈ z.firstTier ↔ (q.tier = .first ∧ k = r) ∨ k ∈ s.typesetter.firstTier)
    (hreplate : ∀ k, k ∈ z.replateTier ↔ (q.tier = .replate ∧ k = r) ∨ k ∈ s.typesetter.replateTier)
    (honce : z.firstTier.Nodup ∧ z.replateTier.Nodup)
    (hsending : ∀ k, (∃ x, z.send = some x ∧ x.page = k) ↔
      if k = r then ∃ o, some q = some o ∧ o.state = .sending
      else ∃ x, s.typesetter.send = some x ∧ x.page = k)
    (hroom : z.replateTier.length + z.firstTier.length + (if z.send.isSome then 1 else 0) ≤ 64) :
    s.typesetter.requeued z r (some q) where
  first k := by
    by_cases hk : k = r
    · simp [hfirst, hk, queued_first_iff h hp, hqueued, hidle]
    · simp [hfirst, hk]
  replate k := by
    by_cases hk : k = r
    · simp [hreplate, hk, queued_replate_iff h hp, hqueued, hidle]
    · simp [hreplate, hk]
  once := honce
  sending := hsending
  room := hroom

theorem off_tiers (hidle : p.state ≠ .queued) :
    r ∉ s.typesetter.firstTier ∧ r ∉ s.typesetter.replateTier := by
  rw [queued_first_iff h hp, queued_replate_iff h hp]
  exact ⟨fun hq => hidle hq.1, fun hq => hidle hq.1⟩

omit h hp in
theorem free_pos_iff (y : Typesetter) :
    1 ≤ y.free ↔
      y.replateTier.length + y.firstTier.length + (if y.send.isSome then 1 else 0) + 1 ≤ 64 := by
  simp only [Typesetter.free, Typesetter.depth, Config.typesetEntries]
  omega

/-- The entries a typesetter queue takes up, with its page SENDING (R155). -/
abbrev Typesetter.taken (y : Typesetter) : Nat :=
  y.replateTier.length + y.firstTier.length + (if y.send.isSome then 1 else 0)

omit h hp in
theorem taken_append (y : Typesetter) (x : Tier) (r : Nat) : (y.append x r).taken = y.taken + 1 := by
  have hsend : (y.append x r).send = y.send := by cases x <;> rfl
  have hlength : (y.append x r).replateTier.length + (y.append x r).firstTier.length =
      y.replateTier.length + y.firstTier.length + 1 := by
    cases x <;> simp [Typesetter.append] <;> omega
  rw [Typesetter.taken, hsend, hlength, Nat.add_right_comm]

/-- A page that joins the tail of its tier, with an entry free (R145). -/
theorem requeued_appended (hidle : p.state ≠ .queued) (hsending : p.state ≠ .sending)
    (hqueued : q.state = .queued) (hroom : 1 ≤ s.typesetter.free) :
    s.typesetter.requeued (s.typesetter.append q.tier r) r (some q) := by
  obtain ⟨hofffirst, hoffreplate⟩ := off_tiers h hp hidle
  obtain ⟨honcefirst, honcereplate⟩ := h.once
  have hsame := sending_kept h hp (q := q) (by simp [hqueued, hsending])
  have hroom' := (taken_append s.typesetter q.tier r).trans_le ((free_pos_iff _).1 hroom)
  cases htier : q.tier
  case first =>
    refine requeued_added h hp hidle hqueued (fun k => ?_) (fun k => ?_) ⟨?_, honcereplate⟩ hsame
      (htier ▸ hroom')
    · simp [Typesetter.append, htier, or_comm]
    · simp [Typesetter.append, htier]
    · exact List.nodup_append_comm.1 (List.nodup_cons.2 ⟨hofffirst, honcefirst⟩)
  case replate =>
    refine requeued_added h hp hidle hqueued (fun k => ?_) (fun k => ?_) ⟨honcefirst, ?_⟩ hsame
      (htier ▸ hroom')
    · simp [Typesetter.append, htier]
    · simp [Typesetter.append, htier, or_comm]
    · exact List.nodup_append_comm.1 (List.nodup_cons.2 ⟨hoffreplate, honcereplate⟩)

end

/-! ### Joins and withdrawals (R145, R146) -/

section
variable {s : State} (h : s.pagesStand) {r : Nat} {p : Page} (hp : s.page? r = some p)
include h hp

omit h in
theorem joinPage_eq_move :
    s.joinPage r =
      (s.putTypesetter (s.typesetter.append p.tier r)).movePage r (p.inState .queued) .join := by
  rw [← page_of_made hp]
  rfl

omit h in
theorem withdraw_eq_move :
    s.withdraw r =
      (s.putTypesetter (s.typesetter.remove r)).movePage r (p.inState .ready) .withdrawn := by
  rw [← page_of_made hp]
  rfl

theorem State.pagesStand.joinPage (hready : p.state = .ready) (hroom : 1 ≤ s.typesetter.free) :
    (s.joinPage r).pagesStand := by
  rw [joinPage_eq_move hp]
  exact h.move hp (p.still_inState .queued) (fun _ => h.gated hp (.inl hready))
    (requeued_appended h hp (q := p.inState .queued) (by simp [hready]) (by simp [hready])
      rfl hroom) .join

theorem State.pagesStand.withdraw (hqueued : p.state = .queued) : (s.withdraw r).pagesStand := by
  rw [withdraw_eq_move hp]
  exact h.move hp (p.still_inState .ready) (fun _ => h.gated hp (.inr (.inl hqueued)))
    (requeued_removed h hp (q := p.inState .ready) (by simp [Page.inState])
      (by simp [Page.inState, hqueued])) .withdrawn

end

/-! ### Records that are freed together (R130, R132) -/

/-- Pages, stories, editions and queue agree without the records that are freed, none of them of the page
SENDING. -/
theorem State.pagesStand.without {s t : State} (h : s.pagesStand) {gone : Nat → Bool}
    (hcanonical : Table.wf none t.pages = true)
    (hpage : ∀ k, t.page? k = if gone k = true then none else s.page? k)
    (hstory : ∀ n, t.story? n = (s.story? n).map fun st =>
      if st.page.map gone = some true then st.lifted else st)
    (hqueue : t.typesetter =
      { s.typesetter with
        replateTier := s.typesetter.replateTier.filter (fun r => !gone r),
        firstTier := s.typesetter.firstTier.filter (fun r => !gone r) })
    (hsending : ∀ k p, s.page? k = some p → gone k = true → p.state ≠ .sending)
    (hedition : ∀ d, (t.edition d).planned = (s.edition d).planned ∧
      (t.edition d).size = (s.edition d).size ∧ (t.edition d).slots.length = (s.edition d).slots.length)
    (halive : ∀ k p, s.page? k = some p → gone k = false →
      (t.edition p.edition).state = (s.edition p.edition).state) : t.pagesStand := by
  have hleft : ∀ {k p}, t.page? k = some p → s.page? k = some p ∧ gone k = false := by
    intro k p hp
    rw [hpage] at hp
    split at hp
    · cases hp
    · exact ⟨hp, Bool.eq_false_iff.2 ‹_›⟩
  have hkept : ∀ {k p}, s.page? k = some p → gone k = false → t.page? k = some p := by
    intro k p hp hk
    rw [hpage, hk]
    exact hp
  have hstay : ∀ {n st k}, s.story? n = some st → st.page = some k → gone k = false →
      t.story? n = some st := by
    intro n st k hst hplace hk
    rw [hstory, hst, Option.map_some, if_neg (by simp [hplace, hk])]
  have hexists : ∀ (f : Page → Prop) k, (∃ p, t.page? k = some p ∧ f p) ↔
      (∃ p, s.page? k = some p ∧ f p) ∧ gone k = false := fun f k => by
    constructor
    · rintro ⟨p, hp, hf⟩
      obtain ⟨hp', hk⟩ := hleft hp
      exact ⟨⟨p, hp', hf⟩, hk⟩
    · rintro ⟨⟨p, hp, hf⟩, hk⟩
      exact ⟨p, hkept hp hk, hf⟩
  refine ⟨hcanonical, fun k p hp => ?_, fun k j p q hp hq => ?_, fun k p hp => ?_, fun d => ?_,
    fun d => ?_, fun k p hp => ?_, fun n st k hst hplace => ?_, fun k => ?_, fun k => ?_, ?_, fun k => ?_, ?_⟩
  · rw [(hedition p.edition).1]
    exact h.inRange k p (hleft hp).1
  · exact h.distinct k j p q (hleft hp).1 (hleft hq).1
  · rw [halive k p (hleft hp).1 (hleft hp).2]
    exact h.alive k p (hleft hp).1
  · rw [(hedition d).1, (hedition d).2.2, h.slots]
  · rw [(hedition d).1, (hedition d).2.1]
    exact h.sized d
  · obtain ⟨hp', hk⟩ := hleft hp
    obtain ⟨hlength, hnodup, hlist⟩ := h.listed k p hp'
    refine ⟨hlength, hnodup, fun n hn => ?_⟩
    obtain ⟨st, hst, hplace, hrest⟩ := hlist n hn
    exact ⟨st, hstay hst hplace hk, hplace, hrest⟩
  · rw [hstory] at hst
    obtain ⟨st', hst', rfl⟩ := Option.map_eq_some_iff.1 hst
    split at hplace
    · cases hplace
    · rename_i hnot
      obtain ⟨p, hp, hn⟩ := h.placed n st' k hst' hplace
      have hk : gone k = false := Bool.eq_false_iff.2 fun hk => hnot (by simp [hplace, hk])
      exact ⟨p, hkept hp hk, hn⟩
  · rw [hexists, ← h.first, hqueue]
    simp
  · rw [hexists, ← h.replate, hqueue]
    simp
  · rw [hqueue]
    exact ⟨h.once.1.filter _, h.once.2.filter _⟩
  · rw [hexists, hqueue, ← h.sending, iff_comm, iff_self_and]
    rintro ⟨p, hp, hstate⟩
    exact Bool.eq_false_iff.2 fun hk => hsending k p hp hk hstate
  · rw [hqueue]
    exact (Nat.add_le_add_right (Nat.add_le_add (List.length_filter_le _ _)
      (List.length_filter_le _ _)) _).trans h.room

theorem swept_not_sending {s : State} {e k : Nat} {p : Page} (hp : s.page? k = some p)
    (hk : s.swept e k = true) : p.state ≠ .sending := by
  obtain ⟨p', hp', -, hstate⟩ := (isOf_iff ..).1 hk
  cases hp.symm.trans hp'
  simpa using hstate

theorem State.pagesStand.sealPages {s : State} (h : s.pagesStand) (e : Nat) :
    (s.sealPages e).pagesStand :=
  h.without ((pageWork_sealPages s e).canonicalPages h.canonical) (pageAt_sealPages h e)
    (storyAt_sealPages h e) (typesetter_sealPages h e) (fun _ _ => swept_not_sending)
    (fun d => by rw [edition_sealPages h]; exact ⟨rfl, rfl, rfl⟩)
    (fun k p _ _ => by rw [edition_sealPages h])

/-- A seal of an edition with no page SENDING leaves no record of it (R130). -/
theorem State.pagesStand.seal {s : State} (h : s.pagesStand) {e : Nat}
    (hidle : ∀ r p, s.page? r = some p → p.edition = e → p.state ≠ .sending) :
    (s.seal e).pagesStand := by
  refine h.without ((pageWork_seal s e).canonicalPages h.canonical) (pageAt_seal h e)
    (storyAt_seal h e) (typesetter_seal h e) (fun _ _ => swept_not_sending) (fun d => ?_)
    (fun k p hp hk => ?_)
  · rw [edition_seal h]
    split
    · subst_vars
      exact ⟨rfl, rfl, rfl⟩
    · exact ⟨rfl, rfl, rfl⟩
  · rw [edition_seal h, if_neg]
    rintro rfl
    rw [Bool.eq_false_iff] at hk
    exact hk ((isOf_iff ..).2 ⟨p, hp, rfl, by simpa using hidle k p hp rfl⟩)

end Sys2Proof.Machine
end

section
/-! SUPPORT. An evaluation of the joins (R133, R145): the pages that have joined so far, the waiting replates, and
the eligible sections in order. -/

namespace Sys2Proof.Machine

/-! ### The pages that have joined -/

theorem State.shown_append (s : State) (x : PageState) (rs qs : List Nat) (slots : List Slot) :
    s.shown x (rs ++ qs) slots = s.shown x qs (s.shown x rs slots) := List.foldl_append

/-- What the joins of the pages `rs`, with `spent` of each edition's counter, have made of `s` (R133, R145). -/
structure State.joinedTo (s u : State) (rs : List Nat) (spent : Nat → Nat) : Prop where
  stand : u.pagesStand
  pageAt : ∀ k, u.page? k = (s.page? k).map fun p => if k ∈ rs then p.inState .queued else p
  typesetter : u.typesetter =
    { s.typesetter with
      replateTier := s.typesetter.replateTier ++ rs.filter (fun r => (s.page r).tier == .replate),
      firstTier := s.typesetter.firstTier ++ rs.filter (fun r => (s.page r).tier == .first) }
  edition : ∀ d, u.edition d =
    { s.edition d with
      counter := (s.edition d).counter - spent d,
      slots := s.shown .queued (rs.filter fun r => (s.page r).edition == d) (s.edition d).slots }
  queues : s.reporting.page = true →
    s.queues u (rs.map fun r => pageEventOf r ((s.page r).inState .queued) .join)
  made : ∀ r ∈ rs, ∃ p, s.page? r = some p ∧ p.state = .ready

theorem joinedTo_refl {s : State} (h : s.pagesStand) : s.joinedTo s [] fun _ => 0 :=
  ⟨h, fun k => by simp, by simp, fun d => rfl, fun _ => .refl s, by simp⟩

section
variable {s u : State} {rs : List Nat} {spent : Nat → Nat} (h : s.joinedTo u rs spent)
include h

theorem State.joinedTo.joined {r : Nat} {p : Page} (hp : s.page? r = some p) (hr : r ∈ rs) :
    u.page? r = some (p.inState .queued) := by
  rw [h.pageAt, hp, Option.map_some, if_pos hr]

theorem State.joinedTo.waiting {r : Nat} (hr : r ∉ rs) : u.page? r = s.page? r := by
  rw [h.pageAt]
  simp [hr]

/-- A page that is still READY has not joined. -/
theorem State.joinedTo.ready {r : Nat} {p : Page} (hp : u.page? r = some p) (hready : p.state = .ready) :
    r ∉ rs ∧ s.page? r = some p := by
  have hr : r ∉ rs := fun hr => by
    obtain ⟨o, ho, -⟩ := h.made r hr
    cases hp.symm.trans (h.joined ho hr)
    cases hready
  exact ⟨hr, (h.waiting hr).symm.trans hp⟩

/-- One more page joins. -/
theorem State.joinedTo.joinPage {r : Nat} {p : Page} (hp : u.page? r = some p)
    (hready : p.state = .ready) (hroom : 1 ≤ u.typesetter.free) :
    s.joinedTo (u.joinPage r) (rs ++ [r]) spent := by
  obtain ⟨hr, hps⟩ := h.ready hp hready
  have hsame : u.page r = s.page r := by rw [page_of_made hp, page_of_made hps]
  refine ⟨h.stand.joinPage hp hready hroom, fun k => ?_, ?_, fun d => ?_, fun henabled => ?_,
    fun k hk => ?_⟩
  · rw [joinPage_eq_restate, pageAt_restate _ _ _ _ (by rw [hp]; exact Option.some_ne_none p), h.pageAt,
      Option.map_map]
    refine congrArg (Option.map · (s.page? k)) (funext fun o => ?_)
    by_cases hk : k = r
    · subst hk
      simp [hr]
    · simp [hk]
  · rw [joinPage_eq_restate, State.restate, typesetter_movePage, hsame]
    change u.typesetter.append _ r = _
    rw [h.typesetter]
    cases htier : (s.page r).tier <;> simp [Typesetter.append, htier]
  · have hfilter : ([r].filter fun k => (u.page k).edition == d) =
        [r].filter fun k => (s.page k).edition == d :=
      List.filter_congr fun k hk => by rw [List.mem_singleton.1 hk, hsame]
    have hshown : ∀ slots, u.shown .queued ([r].filter fun k => (s.page k).edition == d) slots =
        s.shown .queued ([r].filter fun k => (s.page k).edition == d) slots :=
      State.shown_congr (fun k hk => by
        rw [List.mem_singleton.1 (List.mem_of_mem_filter hk), hsame]) _
    rw [joinPage_eq_restate, edition_restate, hfilter, hshown, h.edition, List.filter_append, State.shown_append]
  · have hhead := h.queues henabled
    have hlast := queues_restate Typesetter.append .queued .join u (hhead.reporting ▸ henabled) r
    rw [hsame] at hlast
    rw [List.map_append]
    exact hhead.trans hlast
  · rcases List.mem_append.1 hk with hk | hk
    · exact h.made k hk
    · rw [List.mem_singleton.1 hk]
      exact ⟨p, hps, hready⟩

omit h in
theorem free_eq (y : Typesetter) : y.free = 64 - y.taken := Nat.sub_sub _ _ _

omit h in
theorem free_joinPage (u : State) (r : Nat) :
    (u.joinPage r).typesetter.free = u.typesetter.free - 1 := by
  rw [joinPage_eq_restate, State.restate, typesetter_movePage]
  change (u.typesetter.append _ r).free = _
  rw [free_eq, free_eq, taken_append, Nat.sub_sub]

/-- Several pages join, with an entry free for each. -/
theorem State.joinedTo.joinAll {qs : List Nat} (hqs : qs.Nodup)
    (hready : ∀ q ∈ qs, ∃ p, u.page? q = some p ∧ p.state = .ready)
    (hroom : qs.length ≤ u.typesetter.free) :
    s.joinedTo (qs.foldl State.joinPage u) (rs ++ qs) spent := by
  induction qs generalizing u rs with
  | nil => rwa [List.append_nil]
  | cons q rest ih =>
    obtain ⟨hq, hrest⟩ := List.nodup_cons.1 hqs
    obtain ⟨p, hp, hstate⟩ := hready q List.mem_cons_self
    rw [List.length_cons] at hroom
    have hnext := h.joinPage hp hstate (by omega)
    have hall := ih hnext hrest (fun k hk => ?_) (by rw [free_joinPage]; omega)
    · rwa [List.append_assoc] at hall
    · obtain ⟨o, ho, hostate⟩ := hready k (List.mem_cons_of_mem _ hk)
      refine ⟨o, ?_, hostate⟩
      obtain ⟨hk', hos⟩ := h.ready ho hostate
      rw [hnext.waiting, hos]
      simp only [List.mem_append, List.mem_singleton, not_or]
      exact ⟨hk', fun heq => hq (heq ▸ hk)⟩

omit h in
/-- What the sections that have joined have spent of the counter of edition `e` (R133). -/
def State.spentBy (s : State) (joined : List (Nat × Nat)) (e : Nat) : Nat :=
  if (s.edition e).state = .closed then joined.countP (fun j => j.1 == e) else 0

omit h in
theorem spentBy_append (s : State) (joined : List (Nat × Nat)) (e k d : Nat) :
    s.spentBy (joined ++ [(e, k)]) d =
      s.spentBy joined d + if (s.edition d).state = .closed ∧ e = d then 1 else 0 := by
  unfold State.spentBy
  by_cases hclosed : (s.edition d).state = .closed <;> by_cases he : e = d <;>
    simp [hclosed, he, List.countP_append]

omit h in
/-- A section of edition `e` spends from its counter as it joins (R133). -/
theorem State.joinedTo.spend {joined : List (Nat × Nat)} (h : s.joinedTo u rs (s.spentBy joined)) (e k : Nat) :
    s.joinedTo (u.spendJoin e) rs (s.spentBy (joined ++ [(e, k)])) := by
  have hedition := h.edition e
  have hstate : (u.edition e).state = (s.edition e).state := by rw [hedition]
  unfold State.spendJoin
  dsimp only
  split
  · rename_i hclosed
    rw [hstate] at hclosed
    refine ⟨h.stand.remark rfl rfl rfl rfl, h.pageAt, h.typesetter, fun d => ?_,
      fun henabled => ?_, h.made⟩
    · rw [State.edition_putEdition, spentBy_append]
      split
      · subst_vars
        rw [hedition]
        simp [hclosed, Nat.sub_sub]
      · rename_i hd
        rw [h.edition]
        simp [Ne.symm hd]
    · have hall := (h.queues henabled).trans
        (.of_frame (onlyChanges_putEdition u e { u.edition e with counter := (u.edition e).counter - 1 }))
      rwa [List.append_nil] at hall
  · rename_i hopen
    rw [hstate] at hopen
    refine ⟨h.stand, h.pageAt, h.typesetter, fun d => ?_, h.queues, h.made⟩
    rw [h.edition, spentBy_append, if_neg]
    · rfl
    · rintro ⟨hclosed, rfl⟩
      exact hopen hclosed

end

/-! ### The waiting replates -/

/-- The replates join in their order, one for each free entry, and none is stopped when all have one (R145). -/
theorem joinReplates_eq (rs : List Nat) (s : State) :
    joinReplates rs s =
      ((rs.take s.typesetter.free).foldl State.joinPage s, decide (rs.length ≤ s.typesetter.free)) := by
  induction rs generalizing s with
  | nil => simp [joinReplates]
  | cons r rest ih =>
    unfold joinReplates
    split
    · rename_i hroom
      obtain ⟨k, hk⟩ := Nat.exists_eq_add_of_le' hroom
      rw [ih, free_joinPage, hk]
      simp
    · rename_i hroom
      have hnone : s.typesetter.free = 0 := by omega
      rw [hnone]
      simp

section
variable {s : State} (h : s.pagesStand)
include h

theorem mem_waitingReplates (r : Nat) :
    r ∈ s.waitingReplates ↔ ∃ p, s.page? r = some p ∧ p.state = .ready ∧ p.tier = .replate := by
  simp only [State.waitingReplates, List.mem_flatMap, List.mem_filter, List.mem_filterMap,
    List.mem_range'_1, recordOf_eq_some h, Bool.and_eq_true, beq_iff_eq]
  constructor
  · rintro ⟨e, -, ⟨n, -, p, hp, -⟩, htier, hstate⟩
    rw [page_of_made hp] at htier hstate
    exact ⟨p, hp, hstate, htier⟩
  · rintro ⟨p, hp, hstate, htier⟩
    obtain ⟨-, hlow, hhigh, hnumber, hplanned⟩ := h.inRange r p hp
    refine ⟨p.edition, ⟨hlow, by omega⟩, ⟨p.number, ⟨hnumber, by omega⟩, p, hp, rfl, rfl⟩, ?_⟩
    rw [page_of_made hp]
    exact ⟨htier, hstate⟩

/-- One edition, section or page is before another in the order in which the joins take them. -/
def before (a b : Nat × Nat) : Prop := a.1 < b.1 ∨ (a.1 = b.1 ∧ a.2 < b.2)

theorem waitingReplates_pairwise :
    s.waitingReplates.Pairwise fun q r =>
      before ((s.page q).edition, (s.page q).number) ((s.page r).edition, (s.page r).number) := by
  have hmine : ∀ e r, r ∈ (List.range' 1 (s.edition e).planned).filterMap (s.recordOf e) →
      (s.page r).edition = e := fun e r hr => by
    obtain ⟨n, -, hn⟩ := List.mem_filterMap.1 hr
    obtain ⟨p, hp, he, -⟩ := (recordOf_eq_some h e n r).1 hn
    rw [page_of_made hp, he]
  refine List.pairwise_flatMap.2 ⟨fun e _ => ?_,
    List.Pairwise.imp (fun {d e} hlt q hq r hr => .inl ?_) List.pairwise_lt_range'⟩
  · refine ((recordOf_pairwise h e List.pairwise_lt_range').imp_of_mem ?_).filter _
    intro q r hq hr hlt
    exact .inr ⟨(hmine e q hq).trans (hmine e r hr).symm, hlt⟩
  · rw [hmine d q (List.mem_of_mem_filter hq), hmine e r (List.mem_of_mem_filter hr)]
    exact hlt

theorem waitingReplates_nodup : s.waitingReplates.Nodup :=
  (waitingReplates_pairwise h).imp fun {q r} hlt heq => by
    subst heq
    rcases hlt with hlt | ⟨-, hlt⟩ <;> exact Nat.lt_irrefl _ hlt

/-- The waiting replates join, as many as there are free entries. -/
theorem joinedTo_replates :
    s.joinedTo ((s.waitingReplates.take s.typesetter.free).foldl State.joinPage s)
      (s.waitingReplates.take s.typesetter.free) (s.spentBy []) := by
  have hstart : s.joinedTo s [] (s.spentBy []) := by
    have hnone : s.spentBy [] = fun _ => 0 := funext fun e => by simp [State.spentBy]
    exact hnone ▸ joinedTo_refl h
  refine hstart.joinAll ((List.take_sublist _ _).nodup (waitingReplates_nodup h)) (fun q hq => ?_)
    (List.length_take_le _ _)
  obtain ⟨p, hp, hstate, -⟩ := (mem_waitingReplates h q).1 (List.mem_of_mem_take hq)
  exact ⟨p, hp, hstate⟩

end

/-! ### Eligible sections -/

/-- Section `k` of edition `e` is eligible, with no replate of it waiting (R145). -/
def State.eligible (s : State) (e k : Nat) : Prop :=
  ((s.edition e).state = .running ∨ ((s.edition e).state = .closed ∧
    (s.edition e).sealPending = false ∧ 0 < (s.edition e).counter)) ∧
  (∀ n, k * (s.edition e).size < n → n ≤ (k + 1) * (s.edition e).size →
    n ≤ (s.edition e).planned → ∃ r p, s.page? r = some p ∧ p.edition = e ∧ p.number = n ∧
      ((p.state = .ready ∧ p.tier = .first) ∨ p.state = .sent ∨ p.state = .stale)) ∧
  ∃ r p, s.page? r = some p ∧ s.inSection e k p ∧ p.state = .ready ∧ p.tier = .first

theorem mem_sectionReady {s : State} (h : s.pagesStand) (e k r : Nat) :
    r ∈ s.sectionReady e k ↔
      ∃ p, s.page? r = some p ∧ s.inSection e k p ∧ p.state = .ready ∧ p.tier = .first := by
  rw [State.sectionReady, List.mem_filter, mem_sectionRecords h]
  constructor
  · rintro ⟨⟨p, hp, hin⟩, hready⟩
    rw [page_of_made hp, Bool.and_eq_true, beq_iff_eq, beq_iff_eq] at hready
    exact ⟨p, hp, hin, hready.2, hready.1⟩
  · rintro ⟨p, hp, hin, hstate, htier⟩
    exact ⟨⟨p, hp, hin⟩, by rw [page_of_made hp, hstate, htier]; rfl⟩

theorem sectionReady_pairwise {s : State} (h : s.pagesStand) (e k : Nat) :
    (s.sectionReady e k).Pairwise fun q r => (s.page q).number < (s.page r).number :=
  (sectionRecords_pairwise h e k).filter _

/-- What the model tests of a section, before any replate of it has joined (R145). -/
theorem eligibleSection_iff {s : State} (h : s.pagesStand) (e k : Nat) :
    s.eligibleSection e k = true ↔
      ((s.edition e).state = .running ∨ ((s.edition e).state = .closed ∧
        (s.edition e).sealPending = false ∧ 0 < (s.edition e).counter)) ∧
      (∀ n, k * (s.edition e).size < n → n ≤ (k + 1) * (s.edition e).size →
        n ≤ (s.edition e).planned → ∃ r p, s.page? r = some p ∧ p.edition = e ∧ p.number = n ∧
          (p.state = .ready ∨ p.state = .sent ∨ p.state = .stale)) ∧
      ∃ r, r ∈ s.sectionReady e k := by
  have hrecorded : ∀ n, (match s.recordOf e n with
      | some r => (s.page r).state == .ready || (s.page r).state == .sent || (s.page r).state == .stale
      | none => false) = true ↔ ∃ r p, s.page? r = some p ∧ p.edition = e ∧ p.number = n ∧
          (p.state = .ready ∨ p.state = .sent ∨ p.state = .stale) := fun n => by
    constructor
    · intro hn
      split at hn
      · rename_i r hr
        obtain ⟨p, hp, he, hnumber⟩ := (recordOf_eq_some h e n r).1 hr
        rw [page_of_made hp] at hn
        exact ⟨r, p, hp, he, hnumber, by simpa [or_assoc] using hn⟩
      · cases hn
    · rintro ⟨r, p, hp, he, hnumber, hstate⟩
      rw [(recordOf_eq_some h e n r).2 ⟨p, hp, he, hnumber⟩]
      simpa [page_of_made hp, or_assoc] using hstate
  simp only [State.eligibleSection, Bool.and_eq_true, Bool.or_eq_true, beq_iff_eq, Bool.not_eq_true',
    decide_eq_true_eq, List.all_eq_true, mem_sectionPages, and_imp, and_assoc, List.isEmpty_eq_false_iff_exists_mem]
  refine and_congr_right fun _ => and_congr_left fun _ => forall_congr' fun n => ?_
  exact imp_congr_right fun _ => imp_congr_right fun _ => imp_congr_right fun _ => hrecorded n

section
variable {s u : State} (hs : s.pagesStand) {rs : List Nat} {spent : Nat → Nat} (h : s.joinedTo u rs spent)
include hs h

omit hs in
theorem State.joinedTo.exists_iff (f : Page → Prop) (hf : ∀ p, f (p.inState .queued) ↔ f p) (r : Nat) :
    (∃ p, u.page? r = some p ∧ f p) ↔ ∃ p, s.page? r = some p ∧ f p := by
  rw [h.pageAt]
  cases s.page? r with
  | none => simp
  | some p => by_cases hr : r ∈ rs <;> simp [hr, hf]

theorem State.joinedTo.recordOf (e : Nat) : u.recordOf e = s.recordOf e := by
  funext n
  refine Option.ext fun r => ?_
  rw [recordOf_eq_some h.stand, recordOf_eq_some hs]
  exact h.exists_iff (fun p => p.edition = e ∧ p.number = n) (fun _ => Iff.rfl) r

theorem State.joinedTo.sectionRecords (e k : Nat) : u.sectionRecords e k = s.sectionRecords e k := by
  rw [State.sectionRecords, h.recordOf hs, h.edition]
  rfl

variable {e k : Nat} (hmine : ∀ r p, s.page? r = some p → s.inSection e k p →
  (r ∈ rs ↔ p.state = .ready ∧ p.tier = .replate))
include hmine

/-- With its waiting replates alone joined, a section has the READY pages it had. -/
theorem State.joinedTo.sectionReady : u.sectionReady e k = s.sectionReady e k := by
  rw [State.sectionReady, State.sectionReady, h.sectionRecords hs]
  refine List.filter_congr fun r hr => ?_
  obtain ⟨p, hp, hin⟩ := (mem_sectionRecords hs e k r).1 hr
  by_cases hjoined : r ∈ rs
  · obtain ⟨hready, htier⟩ := (hmine r p hp hin).1 hjoined
    rw [page_of_made (h.joined hp hjoined), page_of_made hp]
    simp only [Page.inState, htier, hready]
    rfl
  · rw [page_of_made ((h.waiting hjoined).trans hp), page_of_made hp]

/-- With its waiting replates alone joined, a section is tested as it was, but for what its edition has spent. -/
theorem State.joinedTo.eligibleSection_iff :
    u.eligibleSection e k = true ↔
      s.eligible e k ∧ ((s.edition e).state = .closed → 0 < (s.edition e).counter - spent e) := by
  rw [Machine.eligibleSection_iff h.stand, h.edition, h.sectionReady hs hmine, State.eligible]
  simp only [mem_sectionReady hs]
  have hpages : ∀ n, k * (s.edition e).size < n → n ≤ (k + 1) * (s.edition e).size →
      ((∃ r p, u.page? r = some p ∧ p.edition = e ∧ p.number = n ∧
        (p.state = .ready ∨ p.state = .sent ∨ p.state = .stale)) ↔
      ∃ r p, s.page? r = some p ∧ p.edition = e ∧ p.number = n ∧
        ((p.state = .ready ∧ p.tier = .first) ∨ p.state = .sent ∨ p.state = .stale)) := by
    intro n hlow hhigh
    refine exists_congr fun r => ?_
    by_cases hjoined : r ∈ rs
    · constructor
      · rintro ⟨p, hp, -, -, hstate⟩
        obtain ⟨o, ho, -⟩ := h.made r hjoined
        cases hp.symm.trans (h.joined ho hjoined)
        simp [Page.inState] at hstate
      · rintro ⟨p, hp, rfl, rfl, hstate⟩
        obtain ⟨hready, htier⟩ := (hmine r p hp ⟨rfl, hlow, hhigh⟩).1 hjoined
        simp [hready, htier] at hstate
    · rw [h.waiting hjoined]
      refine exists_congr fun p => and_congr_right fun hp => and_congr_right fun he =>
        and_congr_right fun hn => ?_
      subst he hn
      have htier : p.state = .ready → p.tier = .first := fun hready => by
        cases htier : p.tier with
        | first => rfl
        | replate => exact absurd ((hmine r p hp ⟨rfl, hlow, hhigh⟩).2 ⟨hready, htier⟩) hjoined
      exact or_congr_left ⟨fun hready => ⟨hready, htier hready⟩, And.left⟩
  have hall : (∀ n, k * (s.edition e).size < n → n ≤ (k + 1) * (s.edition e).size →
      n ≤ (s.edition e).planned → ∃ r p, u.page? r = some p ∧ p.edition = e ∧ p.number = n ∧
        (p.state = .ready ∨ p.state = .sent ∨ p.state = .stale)) ↔ _ :=
    forall_congr' fun n => imp_congr_right fun hlow => imp_congr_right fun hhigh =>
      imp_congr_right fun _ => hpages n hlow hhigh
  have hopen : ((s.edition e).state = .running ∨ (s.edition e).state = .closed ∧
      (s.edition e).sealPending = false ∧ 0 < (s.edition e).counter - spent e) ↔
      ((s.edition e).state = .running ∨ (s.edition e).state = .closed ∧
        (s.edition e).sealPending = false ∧ 0 < (s.edition e).counter) ∧
      ((s.edition e).state = .closed → 0 < (s.edition e).counter - spent e) := by
    cases (s.edition e).state <;> simp
    omega
  rw [hall, hopen]
  exact ⟨fun ⟨⟨hstate, hcounter⟩, hrest⟩ => ⟨⟨hstate, hrest⟩, hcounter⟩,
    fun ⟨⟨hstate, hrest⟩, hcounter⟩ => ⟨⟨hstate, hcounter⟩, hrest⟩⟩

end

/-! ### The sections in order -/

theorem before_irrefl (a : Nat × Nat) : ¬ before a a := by
  rintro (h | ⟨-, h⟩) <;> exact Nat.lt_irrefl _ h

theorem before_asymm {a b : Nat × Nat} (hab : before a b) : ¬ before b a := by
  unfold before at *
  omega

/-- A page is in one section of one edition. -/
theorem inSection_unique {s : State} (h : s.pagesStand) {r : Nat} {p : Page} (hp : s.page? r = some p)
    {a b : Nat × Nat} (ha : s.inSection a.1 a.2 p) (hb : s.inSection b.1 b.2 p) : a = b := by
  obtain ⟨e, k⟩ := a
  obtain ⟨d, i⟩ := b
  obtain ⟨rfl, ha⟩ := ha
  obtain ⟨rfl, hb⟩ := hb
  obtain ⟨-, -, -, hnumber, -⟩ := h.inRange r p hp
  have hk := (section_iff (h.size_pos hp) hnumber).2 ha
  have hi := (section_iff (h.size_pos hp) hnumber).2 hb
  exact Prod.ext rfl (hk.symm.trans hi)

/-- The pages that sections bring to the queue, in order (R145). -/
def State.readyOf (s : State) (joined : List (Nat × Nat)) : List Nat :=
  joined.flatMap fun j => s.sectionReady j.1 j.2

/-- Edition `e` is CLOSED, and the sections `joined` have spent its counter (R133). -/
def State.spentOut (s : State) (joined : List (Nat × Nat)) (e : Nat) : Prop :=
  (s.edition e).state = .closed ∧ (s.edition e).counter - s.spentBy joined e = 0

/-- What an evaluation has made of the sections `l` once those of `done` had joined: those of `more` have joined
too, and of the others `passed` was gone through, and `stopped` not. -/
structure State.wentThrough (s t : State) (ws : List Nat) (done more passed stopped : List (Nat × Nat)) : Prop where
  sub : more.Sublist passed
  joined : s.joinedTo t (ws ++ s.readyOf (done ++ more)) (s.spentBy (done ++ more))
  eligible : ∀ j ∈ more, s.eligible j.1 j.2
  spent : ∀ j ∈ passed, s.eligible j.1 j.2 → j ∉ more → s.spentOut (done ++ more) j.1
  stop : ∀ j, stopped.head? = some j → s.eligible j.1 j.2 ∧ ¬ s.spentOut (done ++ more) j.1 ∧
    t.typesetter.free < (s.sectionReady j.1 j.2).length
  bound : ∀ e, s.spentBy (done ++ more) e ≤ (s.edition e).counter

theorem spentOut_append {s : State} {done : List (Nat × Nat)} {e : Nat} (h : s.spentOut done e)
    (more : List (Nat × Nat)) : s.spentOut (done ++ more) e := by
  obtain ⟨hclosed, hnone⟩ := h
  refine ⟨hclosed, ?_⟩
  unfold State.spentBy at *
  rw [if_pos hclosed] at *
  rw [List.countP_append]
  omega

section
variable {s : State} (hs : s.pagesStand) {ws : List Nat}
  (hws : ∀ r, r ∈ ws ↔ ∃ p, s.page? r = some p ∧ p.state = .ready ∧ p.tier = .replate)
include hs hws

/-- Of the pages of a section that is still to be gone through, the waiting replates alone have joined. -/
theorem joined_of_later {done : List (Nat × Nat)} {j : Nat × Nat} (hdone : ∀ i ∈ done, before i j) {r : Nat}
    {p : Page} (hp : s.page? r = some p) (hin : s.inSection j.1 j.2 p) :
    r ∈ ws ++ s.readyOf done ↔ p.state = .ready ∧ p.tier = .replate := by
  rw [List.mem_append, hws, State.readyOf, List.mem_flatMap]
  constructor
  · rintro (⟨o, ho, hready⟩ | ⟨i, hi, hr⟩)
    · cases hp.symm.trans ho
      exact hready
    · obtain ⟨o, ho, hin', -⟩ := (mem_sectionReady hs i.1 i.2 r).1 hr
      cases hp.symm.trans ho
      exact absurd (inSection_unique hs hp hin' hin ▸ hdone i hi) (before_irrefl j)
  · exact fun hready => .inl ⟨p, hp, hready⟩

/-- The sections are gone through in order, from any state in which earlier ones have joined (R145). -/
theorem joinSections_wentThrough (l : List (Nat × Nat)) (hl : l.Pairwise before) {u : State}
    {done : List (Nat × Nat)} (hdone : ∀ i ∈ done, ∀ j ∈ l, before i j)
    (h : s.joinedTo u (ws ++ s.readyOf done) (s.spentBy done))
    (hbound : ∀ e, s.spentBy done e ≤ (s.edition e).counter) :
    ∃ more passed stopped, l = passed ++ stopped ∧
      s.wentThrough (joinSections l u) ws done more passed stopped := by
  induction l generalizing u done with
  | nil =>
    refine ⟨[], [], [], rfl, .slnil, ?_, ?_, ?_, ?_, ?_⟩ <;>
      simp only [List.append_nil, List.not_mem_nil, List.head?_nil, reduceCtorEq, false_imp_iff, implies_true]
    · exact h
    · exact hbound
  | cons j rest ih =>
    obtain ⟨e, k⟩ := j
    obtain ⟨hfirst, hrest⟩ := List.pairwise_cons.1 hl
    have hmine : ∀ r p, s.page? r = some p → s.inSection e k p →
        (r ∈ ws ++ s.readyOf done ↔ p.state = .ready ∧ p.tier = .replate) :=
      fun r p hp hin => joined_of_later hs hws (j := (e, k))
        (fun i hi => hdone i hi _ List.mem_cons_self) hp hin
    have htest := h.eligibleSection_iff hs hmine
    have hready := h.sectionReady hs hmine
    unfold joinSections
    rw [hready]
    by_cases heligible : u.eligibleSection e k = true
    · obtain ⟨hel, hcounter⟩ := htest.1 heligible
      rw [if_pos heligible]
      by_cases hroom : (s.sectionReady e k).length ≤ u.typesetter.free
      · rw [if_pos hroom]
        have hspend := h.spend e k
        have hfree : (u.spendJoin e).typesetter.free = u.typesetter.free := by
          rw [hspend.typesetter, h.typesetter]
        have hnext := hspend.joinAll (nodup_of_numbers (sectionReady_pairwise hs e k)) (fun q hq => ?_)
          (hfree ▸ hroom)
        · have hlist : ws ++ s.readyOf done ++ s.sectionReady e k = ws ++ s.readyOf (done ++ [(e, k)]) := by
            simp [State.readyOf]
          rw [hlist] at hnext
          have hdone' : ∀ i ∈ done ++ [(e, k)], ∀ j ∈ rest, before i j := fun i hi j hj => by
            rcases List.mem_append.1 hi with hi | hi
            · exact hdone i hi j (List.mem_cons_of_mem _ hj)
            · rw [List.mem_singleton.1 hi]
              exact hfirst j hj
          have hwithin : ∀ d, s.spentBy (done ++ [(e, k)]) d ≤ (s.edition d).counter := fun d => by
            have hbefore := hbound d
            rw [spentBy_append]
            split
            · rename_i hd
              obtain ⟨hclosed, rfl⟩ := hd
              have hleft := hcounter hclosed
              omega
            · exact hbefore
          obtain ⟨more, passed, stopped, rfl, hsub, hjoined, hall, hspent, hstop, hbound'⟩ :=
            ih hrest hdone' hnext hwithin
          rw [List.append_assoc, List.singleton_append] at hjoined hspent hstop hbound'
          refine ⟨(e, k) :: more, (e, k) :: passed, stopped, rfl, hsub.cons_cons _, hjoined,
            List.forall_mem_cons.2 ⟨hel, hall⟩, fun j hj hel hnot => ?_, hstop, hbound'⟩
          rw [List.mem_cons, not_or] at hnot
          exact hspent j ((List.mem_cons.1 hj).resolve_left hnot.1) hel hnot.2
        · obtain ⟨p, hp, hin, hstate, htier⟩ := (mem_sectionReady hs e k q).1 hq
          refine ⟨p, (hspend.waiting fun hq => ?_).trans hp, hstate⟩
          rw [((hmine q p hp hin).1 hq).2] at htier
          cases htier
      · rw [if_neg hroom]
        refine ⟨[], [], (e, k) :: rest, rfl, .slnil, ?_, ?_, ?_, ?_, ?_⟩ <;>
          simp only [List.append_nil, List.not_mem_nil, false_imp_iff, implies_true, List.head?_cons, Option.some.injEq,
            forall_eq']
        · exact h
        · refine ⟨hel, fun hspent => ?_, Nat.lt_of_not_le hroom⟩
          exact absurd (hcounter hspent.1) (by rw [hspent.2]; decide)
        · exact hbound
    · rw [if_neg heligible]
      obtain ⟨more, passed, stopped, rfl, hsub, hjoined, hall, hspent, hstop, hbound'⟩ :=
        ih hrest (fun i hi j hj => hdone i hi j (List.mem_cons_of_mem _ hj)) h hbound
      refine ⟨more, (e, k) :: passed, stopped, rfl, hsub.cons _, hjoined, hall, fun j hj hel hnot => ?_,
        hstop, hbound'⟩
      rcases List.mem_cons.1 hj with rfl | hj
      · refine spentOut_append ?_ more
        have hnone : ¬ ((s.edition e).state = .closed → 0 < (s.edition e).counter - s.spentBy done e) :=
          fun hcounter => heligible (htest.2 ⟨hel, hcounter⟩)
        rw [Classical.not_imp] at hnone
        exact ⟨hnone.1, Nat.eq_zero_of_not_pos hnone.2⟩
      · exact hspent j hj hel hnot

end

/-! ### An evaluation of the joins -/

theorem allSections_pairwise (s : State) : s.allSections.Pairwise before := by
  refine List.pairwise_flatMap.2 ⟨fun e _ => ?_,
    List.Pairwise.imp (fun {d e} hlt i hi j hj => .inl ?_) List.pairwise_lt_range'⟩
  · exact List.pairwise_map.2 (List.pairwise_lt_range.imp fun hlt => .inr ⟨rfl, hlt⟩)
  · obtain ⟨k, -, rfl⟩ := List.mem_map.1 hi
    obtain ⟨m, -, rfl⟩ := List.mem_map.1 hj
    exact hlt

theorem allSections_congr {s u : State} (h : ∀ e, (u.edition e).planned = (s.edition e).planned ∧
    (u.edition e).size = (s.edition e).size) : u.allSections = s.allSections := by
  unfold State.allSections Edition.sectionCount
  simp only [fun e => (h e).1, fun e => (h e).2]

section
variable {s : State} (h : s.pagesStand)
include h

theorem mem_allSections_of_eligible {e k : Nat} (hel : s.eligible e k) : (e, k) ∈ s.allSections := by
  obtain ⟨-, -, r, p, hp, ⟨rfl, hlow, -⟩, -⟩ := hel
  obtain ⟨-, hone, height, hnumber, hplanned⟩ := h.inRange r p hp
  refine List.mem_flatMap.2 ⟨p.edition, List.mem_range'_1.2 ⟨hone, by omega⟩,
    List.mem_map.2 ⟨k, List.mem_range.2 ?_, rfl⟩⟩
  rw [Edition.sectionCount, Nat.lt_div_iff_mul_lt (h.size_pos hp)]
  have := h.size_pos hp
  omega

/-- What an evaluation of the joins makes of a state (R145). -/
structure State.evaluated (s t : State) (joined passed stopped : List (Nat × Nat)) : Prop where
  all : s.allSections = passed ++ stopped
  sub : joined.Sublist passed
  joins : s.joinedTo t (s.waitingReplates.take s.typesetter.free ++ s.readyOf joined) (s.spentBy joined)
  eligible : ∀ j ∈ joined, s.eligible j.1 j.2
  bound : ∀ e, s.spentBy joined e ≤ (s.edition e).counter
  none : s.typesetter.free < s.waitingReplates.length → joined = []
  spent : s.waitingReplates.length ≤ s.typesetter.free →
    ∀ j ∈ passed, s.eligible j.1 j.2 → j ∉ joined → s.spentOut joined j.1
  stop : s.waitingReplates.length ≤ s.typesetter.free → ∀ j, stopped.head? = some j →
    s.eligible j.1 j.2 ∧ ¬ s.spentOut joined j.1 ∧ t.typesetter.free < (s.sectionReady j.1 j.2).length

theorem evaluateJoins_evaluated :
    ∃ joined passed stopped, s.evaluated s.evaluateJoins joined passed stopped := by
  have hreplates := joinedTo_replates h
  have hnone : s.waitingReplates.take s.typesetter.free ++ s.readyOf [] =
      s.waitingReplates.take s.typesetter.free := List.append_nil _
  have hzero : ∀ e, s.spentBy [] e ≤ (s.edition e).counter := fun e => by simp [State.spentBy]
  unfold State.evaluateJoins
  rw [joinReplates_eq]
  by_cases hall : s.waitingReplates.length ≤ s.typesetter.free
  · rw [decide_eq_true hall]
    have hsections : ((s.waitingReplates.take s.typesetter.free).foldl State.joinPage s).allSections =
        s.allSections := allSections_congr fun e => by rw [hreplates.edition]; exact ⟨rfl, rfl⟩
    have hwaiting := List.take_of_length_le hall
    obtain ⟨joined, passed, stopped, hsplit, hsub, hjoined, hel, hspent, hstop, hbound⟩ :=
      joinSections_wentThrough h (ws := s.waitingReplates.take s.typesetter.free)
        (fun r => by rw [hwaiting]; exact mem_waitingReplates h r) s.allSections
        (allSections_pairwise s) (done := []) (by simp) (hnone.symm ▸ hreplates) hzero
    simp only [List.nil_append, hnone] at hjoined hspent hstop hbound
    dsimp only
    rw [hsections]
    exact ⟨joined, passed, stopped, hsplit, hsub, hjoined, hel, hbound,
      fun hmore => absurd hmore (Nat.not_lt.2 hall), fun _ => hspent, fun _ => hstop⟩
  · rw [decide_eq_false hall]
    exact ⟨[], s.allSections, [], (List.append_nil _).symm, List.nil_sublist _, hnone.symm ▸ hreplates,
      by simp, hzero, fun _ => rfl, fun hmore => absurd hmore hall, fun hmore => absurd hmore hall⟩

end

/-- The replates that join stand on one tier, and the pages of the sections on the other. -/
theorem tiers_of_joins {s : State} (h : s.pagesStand) (n : Nat) (joined : List (Nat × Nat)) (x : Tier) :
    (s.waitingReplates.take n ++ s.readyOf joined).filter (fun r => (s.page r).tier == x) =
      match x with
      | .replate => s.waitingReplates.take n
      | .first => s.readyOf joined := by
  have hreplates : ∀ r ∈ s.waitingReplates.take n, (s.page r).tier = .replate := fun r hr => by
    obtain ⟨p, hp, -, htier⟩ := (mem_waitingReplates h r).1 (List.mem_of_mem_take hr)
    rw [page_of_made hp, htier]
  have hsections : ∀ r ∈ s.readyOf joined, (s.page r).tier = .first := fun r hr => by
    obtain ⟨j, -, hr⟩ := List.mem_flatMap.1 hr
    obtain ⟨p, hp, -, -, htier⟩ := (mem_sectionReady h j.1 j.2 r).1 hr
    rw [page_of_made hp, htier]
  rw [List.filter_append]
  cases x
  case first =>
    rw [List.filter_eq_nil_iff.2 fun r hr => by rw [hreplates r hr]; decide,
      List.filter_eq_self.2 fun r hr => by rw [hsections r hr]; decide]
    rfl
  case replate =>
    rw [List.filter_eq_self.2 fun r hr => by rw [hreplates r hr]; decide,
      List.filter_eq_nil_iff.2 fun r hr => by rw [hsections r hr]; decide, List.append_nil]

section
variable {s t : State} {joined passed stopped : List (Nat × Nat)} (h : s.pagesStand)
  (ht : s.evaluated t joined passed stopped)
include h ht

/-- An eligible section that an evaluation did not join was gone through with its edition's counter spent, or comes
at or after the one the evaluation stopped at. -/
theorem left_out {j : Nat × Nat} (hel : s.eligible j.1 j.2) (hnot : j ∉ joined)
    (hfit : s.waitingReplates.length ≤ s.typesetter.free) :
    (j ∈ passed ∧ s.spentOut joined j.1) ∨ ∃ i rest, stopped = i :: rest ∧ j ∈ stopped ∧ ¬ before j i := by
  have hmem : j ∈ passed ++ stopped := ht.all ▸ mem_allSections_of_eligible h hel
  rcases List.mem_append.1 hmem with hj | hj
  · exact .inl ⟨hj, ht.spent hfit j hj hel hnot⟩
  · obtain ⟨i, rest, rfl⟩ := List.exists_cons_of_ne_nil (List.ne_nil_of_mem hj)
    refine .inr ⟨i, rest, rfl, hj, ?_⟩
    have hafter := (List.pairwise_append.1 (ht.all ▸ allSections_pairwise s)).2.1
    rcases List.mem_cons.1 hj with rfl | hj
    · exact before_irrefl _
    · exact before_asymm ((List.pairwise_cons.1 hafter).1 j hj)

omit h in
/-- What an evaluation has gone through comes before what it has not. -/
theorem passed_before {i j : Nat × Nat} (hi : i ∈ passed) (hj : j ∈ stopped) : before i j :=
  (List.pairwise_append.1 (ht.all ▸ allSections_pairwise s)).2.2 i hi j hj

end

/-- Settles O54: the evaluation is the waiting replates' joins and then the sections', in order. -/
theorem joinsQueueReplatesThenSections : Obligations.JoinsQueueReplatesThenSections := by
  unfold Obligations.JoinsQueueReplatesThenSections
  intro s h t inSection eligible before' free left spent joins
  obtain ⟨joined, passed, stopped, ht⟩ := evaluateJoins_evaluated h
  have hfree : s.typesetter.free = free := by
    simp only [free, free_eq, Typesetter.taken, Nat.sub_sub, Nat.add_assoc]
  have hjoins := ht.joins
  have hreplate : t.typesetter.replateTier = s.typesetter.replateTier ++ s.waitingReplates.take free := by
    rw [hjoins.typesetter, tiers_of_joins h _ _ .replate, hfree]
  have hfirst : t.typesetter.firstTier = s.typesetter.firstTier ++ s.readyOf joined := by
    rw [hjoins.typesetter, tiers_of_joins h _ _ .first]
  have hleft : t.typesetter.free = left := by
    have hsend : t.typesetter.send = s.typesetter.send := by rw [hjoins.typesetter]
    rw [free_eq, Typesetter.taken, hsend, hreplate, hfirst]
    simp only [left, free, hreplate, hfirst, List.length_append]
    omega
  have hout : ∀ e, s.spentOut joined e ↔ spent e := fun e => by
    simp only [spent, State.spentOut, t, hjoins.edition]
  rw [hfree] at hjoins
  refine ⟨s.waitingReplates, joined, mem_waitingReplates h, waitingReplates_pairwise h, hreplate,
    (allSections_pairwise s).sublist (ht.all ▸ ht.sub.trans (List.sublist_append_left _ _)), ht.eligible,
    hfree ▸ ht.none, hfirst, fun e k hek hnot hfit => ?_, fun j hj d i hdi hbefore hnot => ?_,
    fun e hclosed => ?_, hjoins.edition, fun hpage hbusy hroom => ?_, mem_sectionReady h,
    sectionReady_pairwise h, hjoins.pageAt, onlyChanges_evaluateJoins s⟩
  · rw [← hfree] at hfit
    rcases left_out h ht (j := (e, k)) hek hnot hfit with ⟨-, hspent⟩ | ⟨i, rest, rfl, -, hafter⟩
    · exact .inl ((hout e).1 hspent)
    · obtain ⟨heligible, hcounter, hroom⟩ := ht.stop hfit i rfl
      refine .inr ⟨i.1, i.2, heligible, fun hi => ?_, hafter, mt (hout i.1).2 hcounter, hleft ▸ hroom⟩
      exact before_irrefl i (passed_before ht (ht.sub.mem hi) List.mem_cons_self)
  · have hfit : s.waitingReplates.length ≤ s.typesetter.free := Nat.le_of_not_lt fun hmore => by
      rw [ht.none hmore] at hj
      cases hj
    rcases left_out h ht (j := (d, i)) hdi hnot hfit with ⟨-, hspent⟩ | ⟨-, -, -, hlater, -⟩
    · exact (hout d).1 hspent
    · exact absurd hbefore (before_asymm (passed_before ht (ht.sub.mem hj) hlater))
  · have hwithin := ht.bound e
    rwa [State.spentBy, if_pos hclosed] at hwithin
  · exact (hjoins.queues hpage).queue hbusy (by rw [List.length_map]; exact Nat.le_of_succ_le hroom)

end Sys2Proof.Machine
end

section
/-! SUPPORT. The page unit's three invariants together (R126, R136, R146): that pages stand where their records say,
and, if they did before, that the editions and the sections stand. What a change of one record, a change of stories
alone, a withdrawal and an evaluation of the joins do to them. -/

namespace Sys2Proof.Machine

/-! ### The editions, but for one whose send has ended -/

/-- The editions stand, but the edition `ending`, if it bears the seal-pending mark, may have lost the page that was
SENDING: its seal is still to follow (R132, R148). -/
structure State.editionsStandBut (s : State) (ending : Option Nat) : Prop where
  numbered : ∀ e, (s.edition e).state ≠ .empty → 1 ≤ e ∧ e ≤ 8
  running : ∀ d e, (s.edition d).state = .running → (s.edition e).state = .running → d = e
  closed : ∀ d e, (s.edition d).state = .closed → (s.edition d).sealPending = false →
    (s.edition e).state = .closed → (s.edition e).sealPending = false → d = e
  pending : ∀ d e, (s.edition d).sealPending = true → (s.edition e).sealPending = true → d = e
  marked : ∀ e, (s.edition e).sealPending = true → (s.edition e).state = .closed
  sole : ∀ e, some e ≠ ending → (s.edition e).sealPending = true →
    ∃ r p, s.page? r = some p ∧ p.edition = e ∧ p.state = .sending ∧
      ∀ q o, s.page? q = some o → o.edition = e → q = r

theorem editionsStand_iff (s : State) : s.editionsStand ↔ s.editionsStandBut none :=
  ⟨fun h => ⟨h.numbered, h.running, h.closed, h.pending, fun e he => (h.sole e he).1,
    fun e _ he => (h.sole e he).2⟩,
    fun h => ⟨h.numbered, h.running, h.closed, h.pending,
      fun e he => ⟨h.marked e he, h.sole e (by simp) he⟩⟩⟩

/-- The editions stand where each is as before, and each page of a marked edition. -/
theorem State.editionsStandBut.alike {s t : State} {ending : Option Nat} (h : s.editionsStandBut ending)
    (hedition : s.editionsAlike t)
    (hsole : ∀ e, some e ≠ ending → (s.edition e).sealPending = true →
      (∃ r p, s.page? r = some p ∧ p.edition = e ∧ p.state = .sending ∧
        ∀ q o, s.page? q = some o → o.edition = e → q = r) →
      ∃ r p, t.page? r = some p ∧ p.edition = e ∧ p.state = .sending ∧
        ∀ q o, t.page? q = some o → o.edition = e → q = r) : t.editionsStandBut ending where
  numbered e := by rw [(hedition e).state]; exact h.numbered e
  running d e := by rw [(hedition d).state, (hedition e).state]; exact h.running d e
  closed d e := by
    rw [(hedition d).state, (hedition e).state, (hedition d).pending, (hedition e).pending]
    exact h.closed d e
  pending d e := by rw [(hedition d).pending, (hedition e).pending]; exact h.pending d e
  marked e := by rw [(hedition e).pending, (hedition e).state]; exact h.marked e
  sole e he hmark := by
    rw [(hedition e).pending] at hmark
    exact hsole e he hmark (h.sole e he hmark)

/-! ### Sections -/

/-- Two pages are of one section (R128). -/
def State.abreast (s : State) (p o : Page) : Prop :=
  o.edition = p.edition ∧
    (o.number - 1) / (s.edition p.edition).size = (p.number - 1) / (s.edition p.edition).size

theorem sectionsWhole_iff (s : State) :
    s.sectionsWhole ↔ ∀ r p q o, s.page? r = some p → s.page? q = some o → s.abreast p o →
      p.state = .queued → p.tier = .first → o.state ≠ .opened ∧ o.state ≠ .armed :=
  ⟨fun h r p q o hp ho hab => h r p q o hp ho hab.1 hab.2,
    fun h r p q o hp ho he hsection => h r p q o hp ho ⟨he, hsection⟩⟩

theorem State.abreast.symm {s : State} {p o : Page} (h : s.abreast p o) : s.abreast o p := by
  obtain ⟨hedition, hsection⟩ := h
  exact ⟨hedition.symm, by rw [hedition, hsection]⟩

theorem State.editionsAlike.abreast {s t : State} (h : s.editionsAlike t) (p o : Page) :
    t.abreast p o ↔ s.abreast p o := by
  rw [State.abreast, (h p.edition).size, State.abreast]

/-- Page `q` at record `r` leaves its section whole: a FIRST-tier page QUEUED beside no OPEN or ARMED one (R146). -/
structure State.leavesWhole (s : State) (r : Nat) (q : Page) : Prop where
  queued : q.state = .queued → q.tier = .first → ∀ k o, k ≠ r → s.page? k = some o → s.abreast q o →
    o.state ≠ .opened ∧ o.state ≠ .armed
  unready : q.state = .opened ∨ q.state = .armed → ∀ k o, k ≠ r → s.page? k = some o → s.abreast q o →
    ¬ (o.state = .queued ∧ o.tier = .first)

/-- A page that is neither OPEN, ARMED nor QUEUED in the FIRST tier. -/
theorem leavesWhole_of_idle (s : State) (r : Nat) {q : Page}
    (hqueued : ¬ (q.state = .queued ∧ q.tier = .first)) (hopened : q.state ≠ .opened)
    (harmed : q.state ≠ .armed) : s.leavesWhole r q :=
  ⟨fun hstate htier => absurd ⟨hstate, htier⟩ hqueued,
    fun hstate => absurd hstate (by simp [hopened, harmed])⟩

/-- A page that is as much QUEUED, and as much OPEN or ARMED, as it was. -/
theorem State.sectionsWhole.leavesWhole {s : State} (h : s.sectionsWhole) {r : Nat} {p q : Page}
    (hp : s.page? r = some p) (hedition : q.edition = p.edition) (hnumber : q.number = p.number)
    (hqueued : q.state = .queued → q.tier = .first → p.state = .queued ∧ p.tier = .first)
    (hopen : q.state = .opened ∨ q.state = .armed → p.state = .opened ∨ p.state = .armed) :
    s.leavesWhole r q := by
  have habreast : ∀ o, s.abreast q o → s.abreast p o := fun o hab => by
    rw [State.abreast, hedition, hnumber] at hab
    exact hab
  refine ⟨fun hstate htier k o _ ho hab => ?_, fun hstate k o _ ho hab hq => ?_⟩
  · obtain ⟨hstate', htier'⟩ := hqueued hstate htier
    exact (sectionsWhole_iff s).1 h r p k o hp ho (habreast o hab) hstate' htier'
  · obtain ⟨hopened, harmed⟩ :=
      (sectionsWhole_iff s).1 h k o r p ho hp (habreast o hab).symm hq.1 hq.2
    rcases hopen hstate with hstate | hstate
    · exact hopened hstate
    · exact harmed hstate

theorem State.sectionsWhole.rewrite {s t : State} {r : Nat} {o : Option Page} (h : s.sectionsWhole)
    (hpage : s.rewrites t r o) (hedition : s.editionsAlike t)
    (hwhole : ∀ q, o = some q → s.leavesWhole r q) : t.sectionsWhole := by
  rw [sectionsWhole_iff] at *
  intro k p j q hp hq hab hstate htier
  rw [hedition.abreast] at hab
  rcases hpage.cases hp with ⟨rfl, ho⟩ | ⟨hk, hp'⟩ <;>
    rcases hpage.cases hq with ⟨rfl, ho'⟩ | ⟨hj, hq'⟩
  · cases ho.symm.trans ho'
    simp [hstate]
  · exact (hwhole p ho).queued hstate htier j q hj hq' hab
  · have hnot := fun hopen => (hwhole q ho').unready hopen k p hk hp' hab.symm ⟨hstate, htier⟩
    exact ⟨fun hopened => hnot (.inl hopened), fun harmed => hnot (.inr harmed)⟩
  · exact h k p j q hp' hq' hab hstate htier

/-! ### The three together -/

/-- Pages stand where their records say; if `e` and `w` do, the editions stand but for the one whose send has just
ended, and the sections are whole. -/
structure State.agrees (e w : Prop) (ending : Option Nat) (s : State) : Prop where
  stand : s.pagesStand
  editions : e → s.editionsStandBut ending
  sections : w → s.sectionsWhole

section
variable {e w : Prop} {ending : Option Nat} {s t : State} (h : s.agrees e w ending)
include h

/-- The change of one record. -/
theorem State.agrees.rewrite {r : Nat} {o : Option Page} (hcanonical : Table.wf none t.pages = true)
    (hpage : s.rewrites t r o) (hedition : s.editionsAlike t) (hplaces : s.placesKept t (· = r))
    (hfits : ∀ q, o = some q → s.fits t r q)
    (hmine : ∀ n st, t.story? n = some st → st.page = some r → ∃ q, o = some q ∧ n ∈ q.placement)
    (hqueue : s.typesetter.requeued t.typesetter r o)
    (hsending : ∀ p, s.page? r = some p → p.state = .sending → some p.edition ≠ ending →
      ∃ q, o = some q ∧ q.edition = p.edition ∧ q.state = .sending)
    (hnew : ∀ q, o = some q → s.page? r = none → (s.edition q.edition).sealPending = false)
    (hsame : ∀ p q, s.page? r = some p → o = some q → q.edition = p.edition)
    (hwhole : ∀ q, o = some q → w → s.sectionsWhole → s.leavesWhole r q) : t.agrees e w ending where
  stand := h.stand.rewrite hcanonical hpage hedition hplaces hfits hmine hqueue
  editions he := by
    refine (h.editions he).alike hedition fun d hd hmark ⟨k, p, hp, hpd, hstate, honly⟩ => ?_
    have hkept : ∀ j o', t.page? j = some o' → o'.edition = d → j = k := fun j o' hj hjd => by
      rcases hpage.cases hj with ⟨rfl, ho⟩ | ⟨-, hj'⟩
      · cases hr : s.page? j with
        | none => rw [← hjd, hnew o' ho hr] at hmark; cases hmark
        | some p' => exact honly j p' hr ((hsame p' o' hr ho).symm.trans hjd)
      · exact honly j o' hj' hjd
    by_cases hk : k = r
    · subst hk
      obtain ⟨q, rfl, hqd, hqstate⟩ := hsending p hp hstate (by rwa [hpd])
      exact ⟨k, q, hpage.self, hqd.trans hpd, hqstate, hkept⟩
    · exact ⟨k, p, (hpage.other hk).trans hp, hpd, hstate, hkept⟩
  sections hw := (h.sections hw).rewrite hpage hedition fun q hq => hwhole q hq hw (h.sections hw)

/-- The move of a page, its place on the typesetter queue with it. -/
theorem State.agrees.move {r : Nat} {p q : Page} {y : Typesetter} (hp : s.page? r = some p)
    (hsame : q.still p)
    (hgate : q.state = .ready ∨ q.state = .queued ∨ q.state = .sending →
      ∀ n ∈ p.placement, (s.story n).state = .set)
    (hqueue : s.typesetter.requeued y r (some q))
    (hsending : p.state = .sending → some p.edition ≠ ending → q.state = .sending)
    (hwhole : w → s.sectionsWhole → s.leavesWhole r q) (c : PageCause) :
    ((s.putTypesetter y).movePage r q c).agrees e w ending := by
  have hstories : ∀ n, ((s.putTypesetter y).movePage r q c).story? n = s.story? n :=
    fun n => storyAt_movePage ..
  refine h.rewrite (o := some q) (canonical_movePage (s := s.putTypesetter y) h.stand.canonical r q c)
    (fun k => pageAt_movePage ..) (editionsAlike_movePage (s.putTypesetter y) r q c)
    (placesKept_of_eq hstories _) (fun q' hq' => ?_) (fun n st hst hplace => ?_)
    (by rwa [typesetter_movePage]) (fun p' hp' hstate hd => ?_)
    (fun _ _ hnone => by rw [hp] at hnone; cases hnone) (fun p' q' hp' hq' => ?_) (fun q' hq' => ?_)
  · cases hq'
    exact (h.stand.fits hp hsame hgate).of_stories hstories
  · obtain ⟨p', hp', hn⟩ := h.stand.placed n st r ((hstories n).symm.trans hst) hplace
    cases hp.symm.trans hp'
    exact ⟨q, rfl, hsame.placement ▸ hn⟩
  · cases hp.symm.trans hp'
    exact ⟨q, rfl, hsame.edition, hsending hstate hd⟩
  · cases hp.symm.trans hp'
    cases hq'
    exact hsame.edition
  · cases hq'
    exact hwhole

/-- A change that touches neither pages nor editions, nor which stories are on them and which of those are SET, nor
the queue. -/
theorem State.agrees.elsewhere (hpages : t.pages = s.pages) (hedition : s.editionsAlike t)
    (hplaces : s.placesKept t fun _ => False)
    (hfirst : t.typesetter.firstTier = s.typesetter.firstTier)
    (hreplate : t.typesetter.replateTier = s.typesetter.replateTier)
    (hsend : t.typesetter.send.map Send.page = s.typesetter.send.map Send.page) : t.agrees e w ending := by
  have hpageAt : ∀ r, t.page? r = s.page? r := fun r => congrArg (Table.get none · r) hpages
  obtain ⟨hcanonical, hinRange, hdistinct, halive, hslots, hsized, hlisted, hplaced, hinFirst, hinReplate,
    honce, hsending, hroom⟩ := h.stand
  refine ⟨⟨hpages ▸ hcanonical, fun r p hp => ?_, ?_, fun r p hp => ?_, fun d => ?_, fun d => ?_,
    fun r p hp => ?_, fun n st r hst hplace => ?_, fun r => ?_, fun r => ?_, ?_, fun r => ?_, ?_⟩,
    fun he => ?_, fun hw => ?_⟩
  · rw [(hedition p.edition).planned]
    exact hinRange r p (hpageAt r ▸ hp)
  · simpa only [hpageAt] using hdistinct
  · rw [(hedition p.edition).state]
    exact halive r p (hpageAt r ▸ hp)
  · rw [(hedition d).slots, (hedition d).planned, hslots]
  · rw [(hedition d).planned, (hedition d).size]
    exact hsized d
  · obtain ⟨hlength, hnodup, hlist⟩ := hlisted r p (hpageAt r ▸ hp)
    refine ⟨hlength, hnodup, fun n hn => ?_⟩
    obtain ⟨st, hst, hplace, hspiked, hgate⟩ := hlist n hn
    obtain ⟨st', hst', hplace', hspiked', hset⟩ := hplaces.there n st r id hst hplace
    exact ⟨st', hst', hplace', hspiked' hspiked, hset ∘ hgate⟩
  · obtain ⟨st', hst', hplace'⟩ := hplaces.back n st r id hst hplace
    rw [hpageAt]
    exact hplaced n st' r hst' hplace'
  · rw [hfirst, hpageAt, hinFirst]
  · rw [hreplate, hpageAt, hinReplate]
  · rwa [hfirst, hreplate]
  · have hmap : ∀ o : Option Send, (∃ x, o = some x ∧ x.page = r) ↔ o.map Send.page = some r := fun o => by
      rw [Option.map_eq_some_iff]
    rw [hpageAt, hsending, hmap, hmap, hsend]
  · have hbusy : t.typesetter.send.isSome = s.typesetter.send.isSome := by
      rw [← Option.isSome_map, hsend, Option.isSome_map]
    rw [hfirst, hreplate, hbusy]
    exact hroom
  · refine (h.editions he).alike hedition fun d _ _ hsole => ?_
    simpa only [hpageAt] using hsole
  · have hwhole := (sectionsWhole_iff s).1 (h.sections hw)
    refine (sectionsWhole_iff t).2 fun r p q o hp ho hab => ?_
    exact hwhole r p q o (hpageAt r ▸ hp) (hpageAt q ▸ ho) ((hedition.abreast p o).1 hab)

/-- Two states that share the four tables. -/
theorem State.agrees.tables (hpages : t.pages = s.pages) (heditions : t.editions = s.editions)
    (hstories : t.stories = s.stories) (hqueue : t.typesetter = s.typesetter) :
    t.agrees e w ending :=
  h.elsewhere hpages (editionsAlike_of_eq fun d => congrArg (Table.get Edition.initial · d) heditions)
    (placesKept_of_eq (fun n => congrArg (Table.get none · n) hstories) _) (by rw [hqueue]) (by rw [hqueue])
    (by rw [hqueue])

/-- The fields the invariants speak of. -/
def pageFieldsRead : List Field := [.pages, .editions, .stories, .typesetter]

theorem State.agrees.frame {fs : List Field} (hd : ∀ f ∈ pageFieldsRead, f ∉ fs)
    (hframe : s.onlyChanges fs t) : t.agrees e w ending :=
  h.elsewhere (hframe.pagesOf (hd _ (by decide)))
    (editionsAlike_of_eq (hframe.editionAt (hd _ (by decide))))
    (placesKept_of_eq (hframe.storyAt (hd _ (by decide))) _)
    (by rw [hframe.queueOf (hd _ (by decide))]) (by rw [hframe.queueOf (hd _ (by decide))])
    (by rw [hframe.queueOf (hd _ (by decide))])

/-- The stories change, and with them nothing the invariants speak of. -/
theorem State.agrees.stories {fs : List Field} (hd : ∀ f ∈ [Field.pages, .editions, .typesetter], f ∉ fs)
    (hframe : s.onlyChanges fs t) (hplaces : s.placesKept t fun _ => False) : t.agrees e w ending :=
  h.elsewhere (hframe.pagesOf (hd _ (by decide)))
    (editionsAlike_of_eq (hframe.editionAt (hd _ (by decide)))) hplaces
    (by rw [hframe.queueOf (hd _ (by decide))]) (by rw [hframe.queueOf (hd _ (by decide))])
    (by rw [hframe.queueOf (hd _ (by decide))])

/-- The typesetter unit changes, but neither its queue nor which page is SENDING. -/
theorem State.agrees.putTypesetter {y : Typesetter}
    (hsend : y.send.map Send.page = s.typesetter.send.map Send.page)
    (hfirst : y.firstTier = s.typesetter.firstTier) (hreplate : y.replateTier = s.typesetter.replateTier) :
    (s.putTypesetter y).agrees e w ending :=
  h.elsewhere rfl (editionsAlike_of_eq fun _ => rfl)
    (placesKept_of_eq (s := s) (t := s.putTypesetter y) (fun _ => rfl) _) hfirst hreplate
    hsend

theorem State.agrees.offer (n : Notice) : (s.offer n).agrees e w ending :=
  h.frame (by decide) (onlyChanges_offer s n)

end

end Sys2Proof.Machine
end

section
/-! SUPPORT. What the page unit's and the typesetter unit's operations do to the page unit's invariants: withdrawals
and joins (R145, R146), seals (R130, R134), the start and the end of a send (R156, R165, R167). -/

namespace Sys2Proof.Machine

/-! ### Withdrawals and joins (R145, R146) -/

theorem length_shown (s : State) (x : PageState) (rs : List Nat) (slots : List Slot) :
    (s.shown x rs slots).length = slots.length := by
  unfold State.shown
  induction rs generalizing slots with
  | nil => rfl
  | cons r rest ih => rw [List.foldl_cons, ih, List.length_set]

theorem State.restates.alike {f : Typesetter → Tier → Nat → Typesetter} {x : PageState} {c : PageCause}
    {s t : State} {rs : List Nat} (h : State.restates f x c s t rs) : s.editionsAlike t := fun d => by
  rw [h.edition]
  exact ⟨rfl, rfl, rfl, rfl, length_shown ..⟩

theorem State.joinedTo.alike {s t : State} {rs : List Nat} {spent : Nat → Nat}
    (h : s.joinedTo t rs spent) : s.editionsAlike t := fun d => by
  rw [h.edition]
  exact ⟨rfl, rfl, rfl, rfl, length_shown ..⟩

section
variable {e w : Prop} {ending : Option Nat} {s : State} (h : s.agrees e w ending)
include h

theorem State.agrees.withdraw {r : Nat} {p : Page} (hp : s.page? r = some p) (hqueued : p.state = .queued) :
    (s.withdraw r).agrees e w ending := by
  rw [withdraw_eq_move hp]
  exact h.move hp (p.still_inState .ready) (fun _ => h.stand.gated hp (.inr (.inl hqueued)))
    (requeued_removed h.stand hp (q := p.inState .ready) (by simp [Page.inState])
      (by simp [Page.inState, hqueued])) (by simp [hqueued])
    (fun _ _ => leavesWhole_of_idle s r (by simp [Page.inState]) (by simp [Page.inState])
      (by simp [Page.inState])) .withdrawn

/-- QUEUED pages are withdrawn one by one. -/
theorem State.agrees.withdrawAll {l : List Nat} (hl : l.Nodup)
    (hqueued : ∀ k ∈ l, ∃ p, s.page? k = some p ∧ p.state = .queued) :
    (l.foldl State.withdraw s).agrees e w ending := by
  induction l generalizing s with
  | nil => exact h
  | cons r rest ih =>
    obtain ⟨hr, hrest⟩ := List.nodup_cons.1 hl
    obtain ⟨p, hp, hstate⟩ := hqueued r List.mem_cons_self
    refine ih (h.withdraw hp hstate) hrest fun k hk => ?_
    obtain ⟨o, ho, hostate⟩ := hqueued k (List.mem_cons_of_mem _ hk)
    refine ⟨o, ?_, hostate⟩
    rw [withdraw_eq_move hp, pageAt_movePage, if_neg (show k ≠ r from fun heq => hr (heq ▸ hk))]
    exact ho

theorem State.agrees.withdrawSection {r : Nat} {p : Page} (hp : s.page? r = some p) :
    (s.withdrawSection r).agrees e w ending := by
  refine h.withdrawAll (l := s.others r) (nodup_of_numbers (others_pairwise h.stand r)) fun k hk => ?_
  obtain ⟨q, hq, -, -, -, hstate, -⟩ := (mem_others h.stand hp k).1 hk
  exact ⟨q, hq, hstate⟩

/-- A page that has become ARMED withdraws its section, which then is whole again if it was before (R146). -/
theorem State.agrees.arm {u : State} {r : Nat} {q : Page} (hu : u.agrees e False ending)
    (hpage : s.rewrites u r (some q)) (hedition : s.editionsAlike u) (hidle : q.state ≠ .queued) :
    (u.withdrawSection r).agrees e w ending := by
  have hq : u.page? r = some q := hpage.self
  obtain ⟨hstand, heditions, -⟩ := hu.withdrawSection hq
  refine ⟨hstand, heditions, fun hw => (sectionsWhole_iff _).2 fun k p j o hp ho hab hstate htier => ?_⟩
  have hwhole := (sectionsWhole_iff s).1 (h.sections hw)
  have hmid : u.abreast p o := ((restates_withdrawSection hu.stand hq).alike.abreast p o).1 hab
  have hold : s.abreast p o := (hedition.abreast p o).1 hmid
  have hp' : u.page? k = some p ∧ k ∉ u.others r := by
    rw [pageAt_withdrawSection hu.stand hq] at hp
    obtain ⟨p', hp', rfl⟩ := Option.map_eq_some_iff.1 hp
    split at hstate
    · cases hstate
    · rename_i hk
      exact ⟨by rw [if_neg hk]; exact hp', hk⟩
  have ho' : o.state = .ready ∨ u.page? j = some o := by
    rw [pageAt_withdrawSection hu.stand hq] at ho
    obtain ⟨o', ho', rfl⟩ := Option.map_eq_some_iff.1 ho
    split
    · exact .inl rfl
    · exact .inr ho'
  obtain ⟨hp', hk⟩ := hp'
  rcases ho' with hready | ho'
  · simp [hready]
  · rcases hpage.cases hp' with ⟨rfl, hqp⟩ | ⟨hkr, hps⟩
    · cases hqp
      exact absurd hstate hidle
    · rcases hpage.cases ho' with ⟨rfl, hqo⟩ | ⟨-, hos⟩
      · cases hqo
        obtain ⟨hsame, hsection⟩ := hmid.symm
        exact absurd ((mem_others hu.stand hq k).2 ⟨p, hp', hkr, hsame, hsection, hstate, htier⟩) hk
      · exact hwhole k p j o hps hos hold hstate htier

omit h in
/-- No page of an eligible section is OPEN or ARMED (R145). -/
theorem State.eligible.unready {i : Nat × Nat} (hs : s.pagesStand) (hel : s.eligible i.1 i.2) {k j : Nat}
    {p o : Page} (hp : s.page? k = some p) (hin : s.inSection i.1 i.2 p) (ho : s.page? j = some o)
    (hab : s.abreast p o) : o.state ≠ .opened ∧ o.state ≠ .armed := by
  obtain ⟨he, hlow, hhigh⟩ := hin
  obtain ⟨hsame, hsection⟩ := hab
  obtain ⟨-, -, -, hnumber, -⟩ := hs.inRange k p hp
  obtain ⟨-, -, -, honumber, hplanned⟩ := hs.inRange j o ho
  rw [← he] at hlow hhigh
  rw [(section_iff (hs.size_pos hp) hnumber).2 ⟨hlow, hhigh⟩] at hsection
  obtain ⟨holow, hohigh⟩ := (section_iff (hs.size_pos hp) honumber).1 hsection
  rw [hsame] at hplanned
  rw [he] at holow hohigh hplanned
  obtain ⟨r, q, hq, hqe, hqn, hstate⟩ := hel.2.1 o.number holow hohigh hplanned
  cases hs.distinct r j q o hq ho (hqe.trans (he.symm.trans hsame.symm)) hqn
  cases hq.symm.trans ho
  rcases hstate with ⟨hstate, -⟩ | hstate | hstate <;> simp [hstate]

/-- An evaluation of the joins queues whole sections: those with a page OPEN or ARMED wait (R145). -/
theorem State.agrees.evaluateJoins : s.evaluateJoins.agrees e w ending := by
  obtain ⟨joined, passed, stopped, ht⟩ := evaluateJoins_evaluated h.stand
  have hjoins := ht.joins
  refine ⟨hjoins.stand, fun he => ?_, fun hw => (sectionsWhole_iff _).2 fun k p j o hp ho hab hstate htier => ?_⟩
  · refine (h.editions he).alike hjoins.alike fun d _ _ ⟨r, p, hp, hpd, hstate, honly⟩ => ?_
    have hr : r ∉ s.waitingReplates.take s.typesetter.free ++ s.readyOf joined := fun hr => by
      obtain ⟨p', hp', hready⟩ := hjoins.made r hr
      cases hp.symm.trans hp'
      rw [hstate] at hready
      cases hready
    refine ⟨r, p, (hjoins.waiting hr).trans hp, hpd, hstate, fun q o ho hod => ?_⟩
    obtain ⟨o', ho', hod'⟩ := (hjoins.exists_iff (fun p => p.edition = d) (fun _ => Iff.rfl) q).1 ⟨o, ho, hod⟩
    exact honly q o' ho' hod'
  · have hold : s.abreast p o := (hjoins.alike.abreast p o).1 hab
    rw [hjoins.pageAt] at hp ho
    obtain ⟨p', hp', rfl⟩ := Option.map_eq_some_iff.1 hp
    obtain ⟨o', ho', rfl⟩ := Option.map_eq_some_iff.1 ho
    by_cases hj : j ∈ s.waitingReplates.take s.typesetter.free ++ s.readyOf joined
    · simp [hj, Page.inState]
    rw [if_neg hj] at hold ⊢
    by_cases hk : k ∈ s.waitingReplates.take s.typesetter.free ++ s.readyOf joined
    · rw [if_pos hk] at htier hold
      obtain ⟨i, hi, hin⟩ : ∃ i ∈ joined, s.inSection i.1 i.2 p' := by
        rcases List.mem_append.1 hk with hk | hk
        · obtain ⟨q, hq, -, hreplate⟩ := (mem_waitingReplates h.stand k).1 (List.mem_of_mem_take hk)
          cases hp'.symm.trans hq
          cases htier.symm.trans hreplate
        · obtain ⟨i, hi, hk⟩ := List.mem_flatMap.1 hk
          obtain ⟨q, hq, hin, -⟩ := (mem_sectionReady h.stand i.1 i.2 k).1 hk
          cases hp'.symm.trans hq
          exact ⟨i, hi, hin⟩
      exact (ht.eligible i hi).unready h.stand hp' hin ho' hold
    · rw [if_neg hk] at hstate htier hold
      exact (sectionsWhole_iff s).1 (h.sections hw) k p' j o' hp' ho' hold hstate htier

end

/-! ### Seals (R130, R134, R148) -/

/-- Pages freed, and nothing more of the pages: the sections stay whole. -/
theorem State.sectionsWhole.without {s t : State} (h : s.sectionsWhole) {gone : Nat → Bool}
    (hpage : ∀ k, t.page? k = if gone k = true then none else s.page? k)
    (hsize : ∀ d, (t.edition d).size = (s.edition d).size) : t.sectionsWhole := by
  have hleft : ∀ {k p}, t.page? k = some p → s.page? k = some p := by
    intro k p hp
    rw [hpage] at hp
    split at hp
    · cases hp
    · exact hp
  intro r p q o hp ho hsame hsection
  rw [hsize] at hsection
  exact h r p q o (hleft hp) (hleft ho) hsame hsection

section
variable {e w : Prop} {ending : Option Nat} {s : State} (h : s.agrees e w ending)
include h

/-- A seal of an edition with no page SENDING, whose own send may just have ended (R130, R148). -/
theorem State.agrees.seal {d : Nat} (hidle : ∀ r p, s.page? r = some p → p.edition = d → p.state ≠ .sending)
    (hlive : e → 1 ≤ d ∧ d ≤ 8) (hending : ∀ c, ending = some c → c = d) :
    (s.seal d).agrees e w none where
  stand := h.stand.seal hidle
  editions he := by
    obtain ⟨hnumbered, hrunning, hclosed, hpending, hmarked, hsole⟩ := h.editions he
    have hsealed := edition_seal h.stand d
    have hother : ∀ c, c ≠ d → (s.seal d).edition c = s.edition c := fun c hc =>
      (hsealed c).trans (if_neg hc)
    have hself : ((s.seal d).edition d).state = .sealed ∧ ((s.seal d).edition d).sealPending = false := by
      rw [hsealed, if_pos rfl]
      exact ⟨rfl, rfl⟩
    have hnot : ∀ c x, x ≠ .sealed → ((s.seal d).edition c).state = x → c ≠ d := by
      rintro c x hx hc rfl
      exact hx (hc.symm.trans hself.1)
    have hunmarked : ∀ c, ((s.seal d).edition c).sealPending = true → c ≠ d := by
      rintro c hc rfl
      rw [hself.2] at hc
      cases hc
    refine ⟨fun c hc => ?_, fun b c hb hc => ?_, fun b c hb hb' hc hc' => ?_, fun b c hb hc => ?_,
      fun c hc => ?_, fun c _ hc => ?_⟩
    · by_cases hcd : c = d
      · exact hcd ▸ hlive he
      · exact hnumbered c (hother c hcd ▸ hc)
    · rw [hother b (hnot b _ (by decide) hb)] at hb
      rw [hother c (hnot c _ (by decide) hc)] at hc
      exact hrunning b c hb hc
    · have hbd := hnot b _ (by decide) hb
      have hcd := hnot c _ (by decide) hc
      rw [hother b hbd] at hb hb'
      rw [hother c hcd] at hc hc'
      exact hclosed b c hb hb' hc hc'
    · rw [hother b (hunmarked b hb)] at hb
      rw [hother c (hunmarked c hc)] at hc
      exact hpending b c hb hc
    · have hcd := hunmarked c hc
      rw [hother c hcd] at hc ⊢
      exact hmarked c hc
    · have hcd := hunmarked c hc
      rw [hother c hcd] at hc
      obtain ⟨r, p, hp, hpc, hstate, honly⟩ := hsole c (fun heq => hcd (hending c heq.symm)) hc
      have hkept : (s.seal d).page? r = some p := by
        rw [pageAt_seal h.stand, if_neg]
        · exact hp
        · rw [State.swept, isOf_iff]
          rintro ⟨p', hp', hpd, -⟩
          cases hp.symm.trans hp'
          exact hcd (hpc.symm.trans hpd)
      refine ⟨r, p, hkept, hpc, hstate, fun q o ho hoc => honly q o ?_ hoc⟩
      rw [pageAt_seal h.stand] at ho
      split at ho
      · cases ho
      · exact ho
  sections hw := by
    refine (h.sections hw).without (pageAt_seal h.stand d) fun c => ?_
    rw [edition_seal h.stand]
    split
    · subst_vars; rfl
    · rfl

end

section
variable {e w : Prop} {s : State} (h : s.agrees e w none)
include h

theorem State.agrees.sealTest (d : Nat) : (s.sealTest d).agrees e w none := by
  by_cases hseals : s.sealsItself d = true
  · obtain ⟨hclosed, -, -, hopen⟩ := (sealsItself_iff h.stand.canonical d).1 hseals
    rw [sealTest_of_seals hseals]
    exact h.seal (fun r p hp hpd hstate => hopen r p hp hpd (.inr (.inl hstate)))
      (fun he => (h.editions he).numbered d (by rw [hclosed]; decide)) (by simp)
  · rwa [sealTest_of_not hseals]

end

theorem completeTest_frame (s : State) (d : Nat) :
    s.onlyChanges ([.editions] ++ noticeFields) (s.completeTest d) := by
  unfold State.completeTest
  dsimp only
  split
  · exact ((onlyChanges_putEdition _ _ _).mono (by decide)).trans ((onlyChanges_offer _ _).mono (by decide))
  · exact .refl _ s

theorem completeTest_editions (s : State) (d : Nat) : s.editionsAlike (s.completeTest d) := by
  unfold State.completeTest
  dsimp only
  split
  · intro c
    rw [(onlyChanges_offer _ _).editionAt, State.edition_putEdition]
    split
    · subst_vars
      exact ⟨rfl, rfl, rfl, rfl, rfl⟩
    · exact .refl _
  · exact fun _ => .refl _

theorem State.agrees.completeTest {e w : Prop} {ending : Option Nat} {s : State}
    (h : s.agrees e w ending) (d : Nat) : (s.completeTest d).agrees e w ending := by
  have hframe := completeTest_frame s d
  exact h.elsewhere hframe.pagesOf (completeTest_editions s d) (placesKept_of_eq (hframe.storyAt (by decide)) _)
    (by rw [hframe.queueOf]) (by rw [hframe.queueOf]) (by rw [hframe.queueOf])

/-- What follows the end of a send ends a pending seal of its edition (R148). -/
theorem State.agrees.afterSend {e w : Prop} {s : State} {d : Nat} (h : s.agrees e w (some d))
    (hidle : s.typesetter.send = none) : (s.afterSend d).agrees e w none := by
  have htested := h.completeTest d
  have hnone : ∀ r p, (s.completeTest d).page? r = some p → p.edition = d → p.state ≠ .sending := by
    intro r p hp _ hstate
    obtain ⟨x, hx, -⟩ := (htested.stand.sending r).1 ⟨p, hp, hstate⟩
    rw [(completeTest_frame s d).queueOf, hidle] at hx
    cases hx
  unfold State.afterSend
  dsimp only
  split
  · rename_i hmark
    refine (htested.seal hnone (fun he => ?_) (by simp)).evaluateJoins
    have heditions := htested.editions he
    exact heditions.numbered d (by rw [heditions.marked d hmark]; decide)
  · rename_i hmark
    refine State.agrees.evaluateJoins (State.agrees.sealTest ⟨htested.stand, fun he => ?_, htested.sections⟩ d)
    obtain ⟨hnumbered, hrunning, hclosed, hpending, hmarked, hsole⟩ := htested.editions he
    refine ⟨hnumbered, hrunning, hclosed, hpending, hmarked, fun c _ hc => hsole c ?_ hc⟩
    rintro ⟨⟩
    exact hmark hc

end Sys2Proof.Machine
end

section
/-! SUPPORT. Sends and the page unit's invariants: calls (R159), the start of a send (R156), blocks on the line
(R163, R166), completion (R165) and abandon (R167). -/

namespace Sys2Proof.Machine

section
variable {e w : Prop} {ending : Option Nat} {s : State} (h : s.agrees e w ending)
include h

/-! ### Calls (R159) -/

theorem State.agrees.putSend {x y : Send} (hx : s.typesetter.send = some x) (hpage : y.page = x.page) :
    (s.putSend y).agrees e w ending :=
  h.putTypesetter (by rw [hx, Option.map_some, Option.map_some, hpage]) rfl rfl

theorem State.agrees.offerCall : s.offerCall.agrees e w ending := by
  unfold State.offerCall
  split
  · exact h
  · rename_i x hx
    split
    · exact (h.offer _).putSend (x := x) (by rw [(onlyChanges_offer _ _).queueOf, hx]) rfl
    · exact h.putSend hx rfl

theorem State.agrees.callDue : s.callDue.agrees e w ending := by
  unfold State.callDue
  split
  · exact h
  · split
    · exact h.offerCall
    · exact h

/-! ### The start of a send (R156) -/

omit h in
/-- The page at the head is the first of the REPLATE tier, or else of the FIRST tier (R156). -/
theorem mem_of_head {y : Typesetter} {r : Nat} (hr : y.head = some r) :
    r ∈ y.replateTier ∨ r ∈ y.firstTier := by
  unfold Typesetter.head at hr
  split at hr
  · rename_i q rest hq
    cases hr
    exact .inl (by rw [hq]; exact List.mem_cons_self)
  · exact .inr (List.mem_of_mem_head? hr)

omit h in
theorem queued_of_tiers (hs : s.pagesStand) {r : Nat}
    (hr : r ∈ s.typesetter.replateTier ∨ r ∈ s.typesetter.firstTier) :
    ∃ p, s.page? r = some p ∧ p.state = .queued := by
  rcases hr with hr | hr
  · obtain ⟨p, hp, hstate, -⟩ := (hs.replate r).1 hr
    exact ⟨p, hp, hstate⟩
  · obtain ⟨p, hp, hstate, -⟩ := (hs.first r).1 hr
    exact ⟨p, hp, hstate⟩

omit h in
theorem length_remove_lt {y : Typesetter} {r : Nat} (hr : r ∈ y.replateTier ∨ r ∈ y.firstTier) :
    (y.remove r).replateTier.length + (y.remove r).firstTier.length <
      y.replateTier.length + y.firstTier.length := by
  have hdrop : ∀ l : List Nat, r ∈ l → (l.filter fun q => !(q == r)).length < l.length := fun l hl =>
    List.length_filter_lt_length_iff_exists.2 ⟨r, hl, by simp⟩
  have hkeep := fun l : List Nat => List.length_filter_le (fun q => !(q == r)) l
  rcases hr with hr | hr
  · exact Nat.add_lt_add_of_lt_of_le (hdrop _ hr) (hkeep _)
  · exact Nat.add_lt_add_of_le_of_lt (hkeep _) (hdrop _ hr)

omit h in
/-- A QUEUED page leaves the queue and is SENDING (R156). -/
theorem requeued_started (hs : s.pagesStand) {r : Nat} {p q : Page} (hp : s.page? r = some p)
    (hqueued : p.state = .queued) (hq : q.state = .sending) (hidle : s.typesetter.send = none) {x : Send}
    (hx : x.page = r) :
    s.typesetter.requeued { s.typesetter.remove r with send := some x } r (some q) where
  first k := by
    by_cases hk : k = r <;> simp [Typesetter.remove, hk, hq]
  replate k := by
    by_cases hk : k = r <;> simp [Typesetter.remove, hk, hq]
  once := ⟨hs.once.1.filter _, hs.once.2.filter _⟩
  sending k := by
    by_cases hk : k = r
    · simp [hk, hx, hq]
    · simp [hk, hx, hidle, Ne.symm hk]
  room := by
    have hroom := hs.room
    rw [hidle] at hroom
    have hr : r ∈ s.typesetter.replateTier ∨ r ∈ s.typesetter.firstTier := by
      cases htier : p.tier
      · exact .inr ((queued_first_iff hs hp).2 ⟨hqueued, htier⟩)
      · exact .inl ((queued_replate_iff hs hp).2 ⟨hqueued, htier⟩)
    have hshort := length_remove_lt hr
    simp only [Option.isSome_some, Option.isSome_none, if_true] at hroom ⊢
    simp at hroom
    omega

theorem State.agrees.startSend {r : Nat} {p : Page} (hp : s.page? r = some p) (hqueued : p.state = .queued)
    (hidle : s.typesetter.send = none) : (s.startSend r).agrees e w ending := by
  have hmoved := h.move hp (p.still_inState .sending) (fun _ => h.stand.gated hp (.inr (.inl hqueued)))
    (requeued_started h.stand hp hqueued (q := p.inState .sending) rfl hidle (x := Send.initial r) rfl)
    (by simp [hqueued])
    (fun _ _ => leavesWhole_of_idle s r (by simp [Page.inState]) (by simp [Page.inState])
      (by simp [Page.inState])) .typesetter
  unfold State.startSend
  rw [page_of_made hp]
  exact hmoved.callDue

theorem State.agrees.startTest : s.startTest.agrees e w ending := by
  unfold State.startTest
  split
  · exact h
  · rename_i r hr
    split
    · rename_i hmay
      obtain ⟨p, hp, hstate⟩ := queued_of_tiers h.stand (mem_of_head hr)
      refine h.startSend hp hstate ?_
      simp only [State.mayStart, Bool.and_eq_true, Option.isNone_iff_eq_none] at hmay
      exact hmay.1.1.1.2
    · exact h

/-! ### Blocks on the line (R163, R166) -/

theorem State.agrees.judgeReady : s.judgeReady.agrees e w ending := by
  unfold State.judgeReady
  split
  · exact h
  · split
    · exact h
    · exact h.tables rfl rfl rfl rfl

theorem State.agrees.clearStall : s.clearStall.agrees e w ending := by
  unfold State.clearStall
  split
  · refine State.agrees.offer ?_ _
    exact h.putTypesetter rfl rfl rfl
  · exact h

omit h in
theorem nextBlock_page {x y : Send} {b : Block} (hb : x.nextBlock = some (b, y)) : y.page = x.page := by
  unfold Send.nextBlock at hb
  split at hb
  · cases hb
    rfl
  · split at hb
    · cases hb
      rfl
    · cases hb

theorem State.agrees.beginBlock : s.beginBlock.agrees e w ending := by
  unfold State.beginBlock
  dsimp only
  split
  · refine State.agrees.startTest (State.agrees.clearStall ?_)
    exact h.putTypesetter rfl rfl rfl
  · split
    · rename_i b y hb
      obtain ⟨x, hx, hnext⟩ := Option.bind_eq_some_iff.1 hb
      refine State.agrees.callDue (State.agrees.clearStall (h.putTypesetter ?_ rfl rfl))
      rw [hx, Option.map_some, Option.map_some, nextBlock_page hnext]
    · exact h

theorem State.agrees.tsProceed : s.tsProceed.agrees e w ending := by
  unfold State.tsProceed
  dsimp only
  split
  · exact h.putTypesetter rfl rfl rfl
  · split
    · exact h.beginBlock
    · split
      · exact h
      · exact h.putTypesetter rfl rfl rfl

theorem State.agrees.tsLine : s.tsLine.agrees e w ending := h.judgeReady.tsProceed

end

/-! ### The end of a send (R165, R167) -/

section
variable {e w : Prop} {s : State} (h : s.agrees e w none)
include h

theorem State.agrees.sendingPage {x : Send} (hx : s.typesetter.send = some x) :
    ∃ p, s.page? x.page = some p ∧ p.state = .sending := (h.stand.sending x.page).2 ⟨x, hx, rfl⟩

/-- An edition's send is about to end. -/
theorem State.agrees.loosen (d : Nat) : s.agrees e w (some d) := by
  refine ⟨h.stand, fun he => ?_, h.sections⟩
  obtain ⟨hnumbered, hrunning, hclosed, hpending, hmarked, hsole⟩ := h.editions he
  exact ⟨hnumbered, hrunning, hclosed, hpending, hmarked, fun c _ hc => hsole c (by simp) hc⟩

omit h in
/-- The page SENDING leaves the send record, and goes where its state says (R165, R167). -/
theorem sending_ended {x : Send} (hx : s.typesetter.send = some x) {q : Page}
    (hq : q.state ≠ .sending) (k : Nat) :
    (∃ y, (none : Option Send) = some y ∧ y.page = k) ↔
      if k = x.page then ∃ o, some q = some o ∧ o.state = .sending
      else ∃ y, s.typesetter.send = some y ∧ y.page = k := by
  by_cases hk : k = x.page
  · simp [hk, hq]
  · simp [hk, hx, Ne.symm hk]

omit h in
theorem requeued_completed (hs : s.pagesStand) {x : Send} (hx : s.typesetter.send = some x) {p q : Page}
    (hp : s.page? x.page = some p) (hsending : p.state = .sending) (hq : q.state ≠ .sending)
    (hqueued : q.state ≠ .queued) :
    s.typesetter.requeued { s.typesetter with send := none } x.page (some q) where
  first k := by
    by_cases hk : k = x.page
    · simp [hk, hqueued, queued_first_iff hs hp, hsending]
    · simp [hk]
  replate k := by
    by_cases hk : k = x.page
    · simp [hk, hqueued, queued_replate_iff hs hp, hsending]
    · simp [hk]
  once := hs.once
  sending := sending_ended hx hq
  room := by
    have hroom := hs.room
    simp only [Option.isSome_none, Bool.false_eq_true, if_false]
    omega

theorem State.agrees.setMode (m : OutputMode) : (s.setMode m).agrees e w none := h.putTypesetter rfl rfl rfl

omit h in
/-- The state in which page `p` at record `r` has completed, with what follows the end of its send (R148, R165). -/
def State.sentOff (s : State) (r : Nat) (p : Page) : State :=
  ((s.putTypesetter { s.typesetter with send := none }).movePage r p.completed .typesetter).afterSend
    p.edition

omit h in
theorem completeSend_eq {x : Send} (hx : s.typesetter.send = some x) :
    s.completeSend =
      ((s.sentOff x.page (s.page x.page)).setMode
        (s.sentOff x.page (s.page x.page)).typesetter.mode.afterCompletion).startTest := by
  simp only [State.completeSend, hx, State.sentOff, State.setMode]

/-- The completion of a send (R165). -/
theorem State.agrees.sentOff {x : Send} (hx : s.typesetter.send = some x) :
    (s.sentOff x.page (s.page x.page)).agrees e w none := by
  obtain ⟨p, hp, hstate⟩ := h.sendingPage hx
  have hgone : p.completed.state = .stale ∨ p.completed.state = .sent := ite_eq_or_eq _ _ _
  have hne : ∀ y, y ≠ .stale → y ≠ .sent → p.completed.state ≠ y := fun y hstale hsent heq =>
    hgone.elim (fun h => hstale (heq.symm.trans h)) (fun h => hsent (heq.symm.trans h))
  have hmoved := (h.loosen p.edition).move hp (q := p.completed) ⟨rfl, rfl, rfl⟩
    (fun hgate => by rcases hgate with hgate | hgate | hgate <;> exact absurd hgate (hne _ (by decide) (by decide)))
    (requeued_completed h.stand hx hp hstate (hne _ (by decide) (by decide)) (hne _ (by decide) (by decide)))
    (fun _ hother => absurd rfl hother)
    (fun _ _ => leavesWhole_of_idle s x.page (fun hq => hne _ (by decide) (by decide) hq.1)
      (hne _ (by decide) (by decide)) (hne _ (by decide) (by decide))) .typesetter
  rw [page_of_made hp]
  exact hmoved.afterSend (by rw [typesetter_movePage]; rfl)

theorem State.agrees.completeSend : s.completeSend.agrees e w none := by
  cases hx : s.typesetter.send with
  | none =>
    unfold State.completeSend
    rw [hx]
    exact h
  | some x =>
    rw [completeSend_eq hx]
    exact ((h.sentOff hx).setMode _).startTest

omit h in
theorem requeued_returned (hs : s.pagesStand) {x : Send} (hx : s.typesetter.send = some x) {p q : Page}
    (hp : s.page? x.page = some p) (hsending : p.state = .sending) (hq : q.state = .queued)
    (htier : q.tier = p.tier) {z : Typesetter}
    (hfirst : z.firstTier = (s.typesetter.putBack p.tier x.page).firstTier)
    (hreplate : z.replateTier = (s.typesetter.putBack p.tier x.page).replateTier) (hsend : z.send = none) :
    s.typesetter.requeued z x.page (some q) := by
  obtain ⟨hofffirst, hoffreplate⟩ := off_tiers hs hp (by simp [hsending])
  obtain ⟨honcefirst, honcereplate⟩ := hs.once
  have hroom := hs.room
  have hlength : z.replateTier.length + z.firstTier.length =
      s.typesetter.replateTier.length + s.typesetter.firstTier.length + 1 := by
    rw [hfirst, hreplate]
    cases p.tier <;> simp [Typesetter.putBack] <;> omega
  rw [hx, Option.isSome_some, if_pos rfl] at hroom
  refine requeued_added hs hp (by simp [hsending]) hq (fun k => ?_) (fun k => ?_) ⟨?_, ?_⟩
    (hsend ▸ sending_ended hx (by simp [hq])) ?_
  · rw [hfirst, htier]
    cases p.tier <;> simp [Typesetter.putBack]
  · rw [hreplate, htier]
    cases p.tier <;> simp [Typesetter.putBack]
  · rw [hfirst]
    cases p.tier <;> simp [Typesetter.putBack, hofffirst, honcefirst]
  · rw [hreplate]
    cases p.tier <;> simp [Typesetter.putBack, hoffreplate, honcereplate]
  · rw [hlength, hsend]
    exact hroom

omit h in
theorem sectionUnready_iff (hs : s.pagesStand) {r : Nat} {p : Page} (hp : s.page? r = some p) :
    s.sectionUnready p = true ↔
      ∃ k o, s.page? k = some o ∧ s.abreast p o ∧ (o.state = .opened ∨ o.state = .armed) := by
  simp only [State.sectionUnready, List.any_eq_true, mem_sectionRecords hs, Bool.or_eq_true, beq_iff_eq]
  refine exists_congr fun k => ?_
  constructor
  · rintro ⟨⟨o, ho, hin⟩, hstate⟩
    rw [page_of_made ho] at hstate
    exact ⟨o, ho, (inSection_pageSection hs hp ho).1 hin, hstate⟩
  · rintro ⟨o, ho, hab, hstate⟩
    rw [page_of_made ho]
    exact ⟨⟨o, ho, (inSection_pageSection hs hp ho).2 hab⟩, hstate⟩

omit h in
theorem editionsAlike_withdraw (u : State) (r : Nat) : u.editionsAlike (u.withdraw r) :=
  editionsAlike_movePage (u.dequeue r) r _ _

omit h in
theorem State.rewrites.withdraw {u : State} {r : Nat} {q : Page} (hu : s.rewrites u r (some q)) :
    s.rewrites (u.withdraw r) r (some (q.inState .ready)) := fun k => by
  rw [withdraw_eq_move hu.self, pageAt_movePage]
  split
  · rfl
  · rename_i hk
    rw [State.pageAt_putTypesetter_frame, hu.other hk]

/-- The page of an abandoned send is QUEUED again, or READY if its section is not whole (R167). -/
theorem State.agrees.returnPage {x : Send} (hx : s.typesetter.send = some x) :
    ((s.cutSend x).returnPage x.page).agrees e w (some (s.page x.page).edition) := by
  obtain ⟨p, hp, hstate⟩ := h.sendingPage hx
  have hpage : (s.cutSend x).page x.page = p := page_of_made (s := s.cutSend x) hp
  have hqueue := requeued_returned h.stand hx hp hstate (q := p.returned) rfl rfl (z :=
    { s.typesetter.putBack (s.page x.page).tier x.page with
      send := none,
      cancel := some { page := some x.page, sequence := x.nextSequence },
      block := s.typesetter.block.map Block.cutLoose })
    (by rw [page_of_made hp]) (by rw [page_of_made hp]) rfl
  have hloose : s.agrees e False (some p.edition) := ⟨h.stand, (h.loosen p.edition).editions, False.elim⟩
  have hback : ((s.cutSend x).movePage x.page p.returned .typesetter).agrees e False (some p.edition) :=
    hloose.move hp (q := p.returned) ⟨rfl, rfl, rfl⟩ (fun _ => h.stand.gated hp (.inr (.inr hstate)))
      hqueue (fun _ hother => absurd rfl hother) (fun hw => hw.elim) .typesetter
  have hbackpage : s.rewrites ((s.cutSend x).movePage x.page p.returned .typesetter) x.page
      (some p.returned) := fun k => pageAt_movePage ..
  have halike : s.editionsAlike ((s.cutSend x).movePage x.page p.returned .typesetter) :=
    editionsAlike_movePage (s.cutSend x) x.page p.returned .typesetter
  unfold State.returnPage
  dsimp only
  rw [hpage, page_of_made hp]
  split
  · obtain ⟨hstand, heditions, -⟩ := hback.withdraw hbackpage.self rfl
    refine ⟨hstand, heditions, fun hw => (h.sections hw).rewrite (r := x.page)
      (o := some (p.returned.inState .ready)) hbackpage.withdraw (halike.trans (editionsAlike_withdraw _ _))
      fun q hq => ?_⟩
    cases hq
    exact leavesWhole_of_idle s x.page (by simp [Page.inState]) (by simp [Page.inState])
        (by simp [Page.inState])
  · rename_i hready
    refine ⟨hback.stand, hback.editions, fun hw => (h.sections hw).rewrite hbackpage halike fun q hq => ?_⟩
    cases hq
    refine ⟨fun _ htier k o hk ho hab => ?_, fun hopen => hopen.elim nofun nofun⟩
    rw [not_and] at hready
    have hnone := mt (sectionUnready_iff hback.stand hbackpage.self).2 (hready htier)
    have hunready : ¬ (o.state = .opened ∨ o.state = .armed) := fun hstate =>
      hnone ⟨k, o, (hbackpage.other hk).trans ho, (halike.abreast _ _).2 hab, hstate⟩
    exact not_or.1 hunready

/-- The steps of an abandon that put its page back (R167). -/
theorem State.agrees.abandonSend {x : Send} (hx : s.typesetter.send = some x) (c : AbandonCause) :
    (s.abandonSend c).agrees e w (some (s.page x.page).edition) := by
  unfold State.abandonSend
  rw [hx]
  dsimp only
  split
  · exact h.returnPage hx
  · exact (h.returnPage hx).offer _

omit h in
theorem send_returnPage (s : State) (x : Send) :
    ((s.cutSend x).returnPage x.page).typesetter.send = none := by
  have hback : ((s.cutSend x).movePage x.page ((s.cutSend x).page x.page).returned
      .typesetter).typesetter.send = none := by
    rw [typesetter_movePage]
    rfl
  unfold State.returnPage
  dsimp only
  split
  · rw [← hback, State.withdraw, typesetter_movePage]
    rfl
  · exact hback

omit h in
theorem send_abandonSend (s : State) (c : AbandonCause) :
    (s.abandonSend c).typesetter.send = none := by
  unfold State.abandonSend
  split
  · assumption
  · rename_i x hx
    dsimp only
    split
    · exact send_returnPage s x
    · rw [(onlyChanges_offer _ _).queueOf]
      exact send_returnPage s x

theorem State.agrees.abandon (c : AbandonCause) : (s.abandon c).agrees e w none := by
  unfold State.abandon
  split
  · exact h
  · rename_i x hx
    exact ((h.abandonSend hx c).afterSend (send_abandonSend s c)).tsLine.startTest

/-! ### What the typesetter line and the store processor tell (R160, R164, R168) -/

theorem State.agrees.takePageData (y : PageDataOrder) : (s.takePageData y).agrees e w none := by
  unfold State.takePageData
  split
  · exact h
  · rename_i x hx
    exact State.agrees.tsLine (State.agrees.callDue (h.putSend hx rfl))

theorem State.agrees.endBlock (level : Bool) : (s.endBlock level).agrees e w none := by
  unfold State.endBlock
  split
  · exact h
  · have hfreed : ((s.setReady level).putTypesetter { s.typesetter with block := none }).agrees e w none :=
      State.agrees.putTypesetter (s := s.setReady level) (h.tables rfl rfl rfl rfl) rfl rfl rfl
    dsimp only
    refine State.agrees.tsProceed ?_
    split
    · exact hfreed.completeSend
    · exact hfreed
    · exact hfreed

theorem State.agrees.stall : s.stall.agrees e w none := by
  unfold State.stall
  dsimp only
  split
  · exact h.putTypesetter rfl rfl rfl
  · refine State.agrees.offer ?_ _
    exact (h.putTypesetter rfl rfl rfl).putTypesetter rfl rfl rfl

end

end Sys2Proof.Machine
end

section
/-! SUPPORT. The orders on editions and the page unit's invariants (R127 to R132). -/

namespace Sys2Proof.Machine

/-- One edition record is written, without the seal-pending mark (R126). -/
theorem State.editionsStandBut.putEdition {s : State} (h : s.editionsStandBut none) {d : Nat} {x : Edition}
    (hrange : 1 ≤ d ∧ d ≤ 8) (hunmarked : x.sealPending = false)
    (hrunning : x.state = .running → ∀ c, (s.edition c).state = .running → c = d)
    (hclosed : x.state = .closed → ∀ c, (s.edition c).state = .closed →
      (s.edition c).sealPending = false → c = d) : (s.putEdition d x).editionsStandBut none := by
  have hself : (s.putEdition d x).edition d = x := by rw [State.edition_putEdition, if_pos rfl]
  have hother : ∀ c, c ≠ d → (s.putEdition d x).edition c = s.edition c := fun c hc => by
    rw [State.edition_putEdition, if_neg hc]
  have hmark : ∀ c, ((s.putEdition d x).edition c).sealPending = true → c ≠ d ∧ (s.edition c).sealPending = true :=
    fun c hc => by
      by_cases hcd : c = d
      · rw [hcd, hself, hunmarked] at hc
        cases hc
      · exact ⟨hcd, hother c hcd ▸ hc⟩
  refine ⟨fun c hc => ?_, fun b c hb hc => ?_, fun b c hb hb' hc hc' => ?_, fun b c hb hc => ?_,
    fun c hc => ?_, fun c _ hc => ?_⟩
  · by_cases hcd : c = d
    · exact hcd ▸ hrange
    · exact h.numbered c (hother c hcd ▸ hc)
  · by_cases hbd : b = d <;> by_cases hcd : c = d
    · rw [hbd, hcd]
    · rw [hbd, hself] at hb
      rw [hother c hcd] at hc
      exact absurd (hrunning hb c hc) hcd
    · rw [hcd, hself] at hc
      rw [hother b hbd] at hb
      exact absurd (hrunning hc b hb) hbd
    · rw [hother b hbd] at hb
      rw [hother c hcd] at hc
      exact h.running b c hb hc
  · by_cases hbd : b = d <;> by_cases hcd : c = d
    · rw [hbd, hcd]
    · rw [hbd, hself] at hb
      rw [hother c hcd] at hc hc'
      exact absurd (hclosed hb c hc hc') hcd
    · rw [hcd, hself] at hc
      rw [hother b hbd] at hb hb'
      exact absurd (hclosed hc b hb hb') hbd
    · rw [hother b hbd] at hb hb'
      rw [hother c hcd] at hc hc'
      exact h.closed b c hb hb' hc hc'
  · exact h.pending b c (hmark b hb).2 (hmark c hc).2
  · obtain ⟨hcd, hc⟩ := hmark c hc
    rw [hother c hcd]
    exact h.marked c hc
  · exact h.sole c (by simp) (hmark c hc).2

section
variable {e w : Prop} {s : State} (h : s.agrees e w none)
include h

/-! ### PLAN and START EDITION (R127, R129) -/

/-- An edition record is written; the pages and the queue are as before. -/
theorem State.agrees.putEdition {d : Nat} {x : Edition} (hstand : (s.putEdition d x).pagesStand)
    (hedition : e → (s.putEdition d x).editionsStandBut none)
    (hsize : (∃ r p, s.page? r = some p ∧ p.edition = d) → x.size = (s.edition d).size) :
    (s.putEdition d x).agrees e w none := by
  refine ⟨hstand, hedition, fun hw r p q o hp ho hsame hsection => ?_⟩
  have hkept : ((s.putEdition d x).edition p.edition).size = (s.edition p.edition).size := by
    rw [State.edition_putEdition]
    split
    · rename_i hd
      rw [hsize ⟨r, p, hp, hd⟩, hd]
    · rfl
  rw [hkept] at hsection
  exact h.sections hw r p q o hp ho hsame hsection

/-- An edition that is neither EMPTY nor SEALED is the one that a page of it needs (R136). -/
theorem State.agrees.pageless {d : Nat}
    (hdead : (s.edition d).state = .empty ∨ (s.edition d).state = .sealed) :
    ¬ ∃ r p, s.page? r = some p ∧ p.edition = d := by
  rintro ⟨r, p, hp, rfl⟩
  have halive := h.stand.alive r p hp
  rcases hdead with hdead | hdead <;> simp [hdead] at halive

omit h in
theorem plannedEdition_slots (p n a : Nat) :
    (plannedEdition p n a).slots.length = (plannedEdition p n a).planned := List.length_replicate

omit h in
theorem plannedEdition_sized (p n a : Nat) : 1 ≤ (plannedEdition p n a).size := by
  simp only [plannedEdition, sectionSize]
  split
  · decide
  · split
    · decide
    · split <;> decide

/-- PLAN EDITION writes an edition that has no page (R127). -/
theorem State.agrees.planEdition {d : Nat} (hrange : 1 ≤ d ∧ d ≤ 8)
    (hdead : (s.edition d).state = .empty ∨ (s.edition d).state = .sealed) (p n a : Nat) :
    (s.putEdition d (plannedEdition p n a)).agrees e w none := by
  have hnone := h.pageless hdead
  have hother : ∀ {r q}, s.page? r = some q →
      (s.putEdition d (plannedEdition p n a)).edition q.edition = s.edition q.edition := fun hq => by
    rw [State.edition_putEdition, if_neg fun heq => hnone ⟨_, _, hq, heq⟩]
  obtain ⟨hcanonical, hinRange, hdistinct, halive, hslots, hsized, hrest⟩ := h.stand
  refine h.putEdition ⟨hcanonical, fun r q hq => ?_, hdistinct, fun r q hq => ?_, fun c => ?_,
    fun c => ?_, h.stand.listed, h.stand.placed, h.stand.first, h.stand.replate, h.stand.once,
    h.stand.sending, h.stand.room⟩ (fun he => ?_) fun hsome => absurd hsome hnone
  · rw [hother hq]
    exact hinRange r q hq
  · rw [hother hq]
    exact halive r q hq
  · rw [State.edition_putEdition]
    split
    · exact plannedEdition_slots p n a
    · exact hslots c
  · rw [State.edition_putEdition]
    split
    · exact .inr (plannedEdition_sized p n a)
    · exact hsized c
  · exact (h.editions he).putEdition hrange rfl nofun nofun

omit h in
theorem running_of_editionRunning (hnone : s.editionRunning = false) (c : Nat) :
    (s.edition c).state ≠ .running := fun hc => by
  have hmem : (c, s.edition c) ∈ s.editions := Table.mem_of_get_ne (by
    change s.edition c ≠ Edition.initial
    intro heq
    rw [heq] at hc
    cases hc)
  rw [editionRunning_eq, List.any_eq_false] at hnone
  exact hnone _ hmem (by rw [hc]; rfl)

/-- START EDITION makes a PLANNED edition RUNNING, where none is (R129). -/
theorem State.agrees.takeStart {d : Nat} (hrange : 1 ≤ d ∧ d ≤ 8)
    (hplanned : (s.edition d).state = .planned) (hnone : s.editionRunning = false) :
    (s.takeStart d).agrees e w none := by
  have hunmarked : e → (s.edition d).sealPending = false := fun he => Bool.eq_false_iff.2 fun hmark => by
    rw [(h.editions he).marked d hmark] at hplanned
    cases hplanned
  refine State.agrees.startTest (State.agrees.evaluateJoins (h.putEdition
    (pagesStand_putEdition h.stand rfl rfl (h.stand.slots d) (.inr (.inl rfl))) (fun he => ?_)
    fun _ => rfl))
  exact (h.editions he).putEdition hrange (hunmarked he)
    (fun _ c hc => absurd hc (running_of_editionRunning hnone c)) nofun

/-! ### CLOSE EDITION (R132) -/

omit h in
theorem not_sending_of_idle (hs : s.pagesStand) {d : Nat} (hidle : ¬ s.editionSending d = true) :
    ∀ r p, s.page? r = some p → p.edition = d → p.state ≠ .sending := fun r p hp hpd hstate =>
  hidle ((editionSending_iff hs.canonical d).2 ⟨r, p, hp, hpd, hstate⟩)

omit h in
/-- One page at most is SENDING (R158). -/
theorem one_sending (hs : s.pagesStand) {r k : Nat} {p o : Page} (hp : s.page? r = some p)
    (ho : s.page? k = some o) (hpstate : p.state = .sending) (hostate : o.state = .sending) : k = r := by
  obtain ⟨x, hx, hxr⟩ := (hs.sending r).1 ⟨p, hp, hpstate⟩
  obtain ⟨y, hy, hyk⟩ := (hs.sending k).1 ⟨o, ho, hostate⟩
  cases hx.symm.trans hy
  exact hyk.symm.trans hxr

/-- Another CLOSED edition, whose page is SENDING, is marked, and its other pages swept (R132). -/
theorem State.agrees.markedAndSwept {d : Nat}
    (hajar : (s.edition d).state = .closed ∧ (s.edition d).sealPending = false)
    (hgoing : s.editionSending d = true) : (s.markedAndSwept d).agrees e w none := by
  obtain ⟨r, p, hp, hpd, hsending⟩ := (editionSending_iff h.stand.canonical d).1 hgoing
  have hmarked := h.stand.remark (e := d) (x := { s.edition d with sealPending := true }) rfl rfl rfl rfl
  have hedition : ∀ c, (s.markedAndSwept d).edition c =
      if c = d then { s.edition d with sealPending := true } else s.edition c := fun c =>
    (edition_sealPages hmarked d c).trans (State.edition_putEdition ..)
  have hpage : ∀ k, (s.markedAndSwept d).page? k = if s.swept d k = true then none else s.page? k :=
    pageAt_sealPages hmarked d
  refine ⟨hmarked.sealPages d, fun he => ?_, fun hw => (h.sections hw).without hpage fun c => ?_⟩
  · have hE := h.editions he
    have hstate : ∀ c, ((s.markedAndSwept d).edition c).state = (s.edition c).state := fun c => by
      rw [hedition]
      split
      · subst_vars; rfl
      · rfl
    have honly : ∀ c, ((s.markedAndSwept d).edition c).sealPending = true → c = d := fun c hc => by
      by_contra hcd
      rw [hedition, if_neg hcd] at hc
      obtain ⟨k, o, ho, hoc, hostate, -⟩ := hE.sole c (by simp) hc
      obtain rfl := one_sending h.stand hp ho hsending hostate
      cases hp.symm.trans ho
      exact hcd (hoc.symm.trans hpd)
    have hopen : ∀ c, ((s.markedAndSwept d).edition c).sealPending = false →
        (s.edition c).sealPending = false := fun c hc => by
      rw [hedition] at hc
      split at hc
      · cases hc
      · exact hc
    refine ⟨fun c hc => hE.numbered c (hstate c ▸ hc), fun b c hb hc => ?_, fun b c hb hb' hc hc' => ?_,
      fun b c hb hc => (honly b hb).trans (honly c hc).symm, fun c hc => ?_, fun c _ hc => ?_⟩
    · exact hE.running b c (hstate b ▸ hb) (hstate c ▸ hc)
    · exact hE.closed b c (hstate b ▸ hb) (hopen b hb') (hstate c ▸ hc) (hopen c hc')
    · rw [hstate, honly c hc]
      exact hajar.1
    · rw [honly c hc]
      have hkept : s.swept d r = false := Bool.eq_false_iff.2 fun hswept =>
        swept_not_sending hp hswept hsending
      refine ⟨r, p, by rw [hpage, hkept]; exact hp, hpd, hsending, fun k o ho hod => ?_⟩
      rw [hpage] at ho
      split at ho
      · cases ho
      · rename_i hswept
        refine one_sending h.stand hp ho hsending ?_
        by_contra hidle
        exact hswept ((isOf_iff ..).2 ⟨o, ho, hod, by simpa using hidle⟩)
  · rw [hedition]
    split
    · subst_vars; rfl
    · rfl

theorem State.agrees.closeOther (d : Nat) : (s.closeOther d).agrees e w none := by
  by_cases hajar : s.closedOpenly d = true
  · have hclosed := (closedOpenly_iff s d).1 hajar
    by_cases hgoing : s.editionSending d = true
    · unfold State.closeOther
      rw [if_pos hajar, if_pos hgoing]
      exact h.markedAndSwept hclosed hgoing
    · unfold State.closeOther
      rw [if_pos hajar, if_neg hgoing]
      exact h.seal (not_sending_of_idle h.stand hgoing)
        (fun he => (h.editions he).numbered d (by rw [hclosed.1]; decide)) (by simp)
  · unfold State.closeOther
    rwa [if_neg hajar]

/-- What closes another edition leaves the others' records. -/
theorem edition_closeOther_of_ne {d c : Nat} (hc : c ≠ d) : (s.closeOther d).edition c = s.edition c := by
  have hmarked := h.stand.remark (e := d) (x := { s.edition d with sealPending := true }) rfl rfl rfl rfl
  unfold State.closeOther
  split
  · split
    · rw [edition_sealPages hmarked, State.edition_putEdition, if_neg hc]
    · rw [edition_seal h.stand, if_neg hc]
  · rfl

theorem ajar_closeOther {d : Nat} :
    ¬ (((s.closeOther d).edition d).state = .closed ∧ ((s.closeOther d).edition d).sealPending = false) := by
  have hmarked := h.stand.remark (e := d) (x := { s.edition d with sealPending := true }) rfl rfl rfl rfl
  unfold State.closeOther
  split
  · split
    · rw [edition_sealPages hmarked, State.edition_putEdition, if_pos rfl]
      simp
    · rw [edition_seal h.stand, if_pos rfl]
      simp
  · rename_i hajar
    rwa [← closedOpenly_iff]

theorem State.agrees.closeOthers (d : Nat) : (s.closeOthers d).agrees e w none := by
  have hall : ∀ (l : List Nat) (u : State), u.agrees e w none →
      (l.foldl State.closeOther u).agrees e w none := by
    intro l
    induction l with
    | nil => exact fun u hu => hu
    | cons c rest ih => exact fun u hu => ih _ (hu.closeOther c)
  unfold State.closeOthers
  dsimp only
  split
  · exact h
  · exact (hall _ s h).evaluateJoins

/-- After step 1 of a CLOSE of the RUNNING edition, it is RUNNING still, and no edition is CLOSED without the mark
(R132). -/
theorem closeOthers_states (he : e) {d : Nat} (hrunning : (s.edition d).state = .running) :
    ((s.closeOthers d).edition d).state = .running ∧ ∀ c, ((s.closeOthers d).edition c).state = .closed →
      ((s.closeOthers d).edition c).sealPending = true := by
  have hE := h.editions he
  have hajar : ∀ c, (s.edition c).state = .closed → (s.edition c).sealPending = false → c ∈ s.othersAjar d :=
    fun c hc hopen => by
      obtain ⟨hlow, hhigh⟩ := hE.numbered c (by rw [hc]; decide)
      refine (mem_othersAjar s d c).2 ⟨hlow, hhigh, ?_, hc, hopen⟩
      rintro rfl
      rw [hrunning] at hc
      cases hc
  by_cases hsome : ∃ c, c ∈ s.othersAjar d
  · obtain ⟨c, hc⟩ := hsome
    obtain ⟨-, -, hcd, hclosed, hopen⟩ := (mem_othersAjar s d c).1 hc
    have hone : ∀ b, b ∈ s.othersAjar d ↔ b = c := fun b => by
      refine ⟨fun hb => ?_, fun hb => hb ▸ hc⟩
      obtain ⟨-, -, -, hbclosed, hbopen⟩ := (mem_othersAjar s d b).1 hb
      exact hE.closed b c hbclosed hbopen hclosed hopen
    have halike : (s.closeOther c).editionsAlike (s.closeOthers d) := by
      rw [closeOthers_of_one hone]
      obtain ⟨_, _, _, ht⟩ := evaluateJoins_evaluated (h.closeOther c).stand
      exact ht.joins.alike
    refine ⟨?_, fun b hb => ?_⟩
    · rw [(halike d).state, edition_closeOther_of_ne h (Ne.symm hcd), hrunning]
    · rw [(halike b).state] at hb
      rw [(halike b).pending, ← Bool.not_eq_false]
      intro hbopen
      by_cases hbc : b = c
      · subst hbc
        exact ajar_closeOther h ⟨hb, hbopen⟩
      · rw [edition_closeOther_of_ne h hbc] at hb hbopen
        exact hbc ((hone b).1 (hajar b hb hbopen))
  · rw [closeOthers_of_none fun c hc => hsome ⟨c, hc⟩]
    refine ⟨hrunning, fun c hc => ?_⟩
    rw [← Bool.not_eq_false]
    exact fun hopen => hsome ⟨c, hajar c hc hopen⟩

/-- Steps 2 and 3 of a CLOSE (R132). -/
theorem State.agrees.closeItself {d : Nat} (hrange : 1 ≤ d ∧ d ≤ 8)
    (hstates : e → (s.edition d).state = .running ∧
      ∀ c, (s.edition c).state = .closed → (s.edition c).sealPending = true) :
    (s.closeItself d).agrees e w none := by
  have hclosed : (s.closedNow d).agrees e w none := by
    refine h.putEdition (pagesStand_putEdition h.stand rfl rfl (h.stand.slots d) (.inr (.inr (.inl rfl))))
      (fun he => ?_) fun _ => rfl
    obtain ⟨hrunning, hmarked⟩ := hstates he
    have hunmarked : (s.edition d).sealPending = false := Bool.eq_false_iff.2 fun hmark => by
      rw [(h.editions he).marked d hmark] at hrunning
      cases hrunning
    refine (h.editions he).putEdition hrange hunmarked nofun fun _ c hc hopen => ?_
    rw [hmarked c hc] at hopen
    cases hopen
  unfold State.closeItself
  dsimp only
  split
  · rename_i hseals
    have hsealed := hclosed.sealTest d
    rw [sealTest_of_seals (s := s.closedNow d) hseals] at hsealed
    exact hsealed.evaluateJoins
  · exact hclosed

theorem State.agrees.takeClose {d : Nat} (hrange : 1 ≤ d ∧ d ≤ 8)
    (hrunning : (s.edition d).state = .running) : (s.takeClose d).agrees e w none :=
  ((h.closeOthers d).closeItself hrange fun he => closeOthers_states h he hrunning).startTest

/-! ### SEAL EDITION (R131) -/

theorem State.agrees.takeSeal {d : Nat} (hrange : 1 ≤ d ∧ d ≤ 8) (hidle : s.editionSending d = false) :
    (s.takeSeal d).agrees e w none :=
  ((h.seal (not_sending_of_idle h.stand (by simp [hidle])) (fun _ => hrange)
    (by simp)).evaluateJoins).startTest

end

end Sys2Proof.Machine
end

section
/-! SUPPORT. Changes of placed stories (R142 to R144) and the orders on pages (R137 to R141, R147), and the page
unit's invariants. -/

namespace Sys2Proof.Machine

/-! ### Changes of one story -/

/-- One story's record is rewritten: on the records outside `but` it stands as it stood, neither SPIKED nor, having
been SET, anything else. -/
theorem placesKept_of_one {s t : State} {n : Nat} {st st' : Story} {but : Nat → Prop}
    (hst : s.story? n = some st) (hself : t.story? n = some st')
    (hother : ∀ m, m ≠ n → t.story? m = s.story? m)
    (hpage : ∀ k, ¬ but k → (st'.page = some k ↔ st.page = some k))
    (hkept : ∀ k, ¬ but k → st.page = some k → (st.state ≠ .spiked → st'.state ≠ .spiked) ∧
      (st.state = .set → st'.state = .set)) : s.placesKept t but where
  there m sm k hk hm hplace := by
    by_cases hmn : m = n
    · subst hmn
      cases hst.symm.trans hm
      exact ⟨st', hself, (hpage k hk).2 hplace, hkept k hk hplace⟩
    · exact ⟨sm, (hother m hmn).trans hm, hplace, id, id⟩
  back m sm k hk hm hplace := by
    by_cases hmn : m = n
    · subst hmn
      cases hself.symm.trans hm
      exact ⟨st, hst, (hpage k hk).1 hplace⟩
    · exact ⟨sm, (hother m hmn).symm.trans hm, hplace⟩

section
variable {e w : Prop} {ending : Option Nat} {s : State} (h : s.agrees e w ending)
include h

/-- A story's record is rewritten with its page kept; it is not SPIKED on a page, and stays SET if it was. -/
theorem State.agrees.putLive {n : Nat} {st st' : Story} (hst : s.story? n = some st)
    (hpage : st'.page = st.page) (hspiked : st.page ≠ none → st'.state ≠ .spiked)
    (hset : st.page ≠ none → st.state = .set → st'.state = .set) :
    (s.putStory n (some st')).agrees e w ending :=
  h.stories (by decide) (onlyChanges_putStory s n _) (placesKept_of_one hst (storyAt_putStory_self s n st')
    (fun m hm => by rw [State.storyAt_putStory, if_neg hm]) (fun k _ => by rw [hpage])
    fun k _ hk => ⟨fun _ => hspiked (by simp [hk]), hset (by simp [hk])⟩)

/-- A story that is on no page comes or goes. -/
theorem State.agrees.putStory {n : Nat} {o : Option Story} (hold : ∀ st, s.story? n = some st → st.page = none)
    (hnew : ∀ st, o = some st → st.page = none) : (s.putStory n o).agrees e w ending := by
  refine h.stories (by decide) (onlyChanges_putStory s n o)
    ⟨fun m st k _ hst hplace => ?_, fun m st k _ hst hplace => ?_⟩
  · have hm : m ≠ n := fun heq => by
      rw [hold st (heq ▸ hst)] at hplace
      cases hplace
    exact ⟨st, by rw [State.storyAt_putStory, if_neg hm]; exact hst, hplace, id, id⟩
  · rw [State.storyAt_putStory] at hst
    split at hst
    · rw [hnew st hst] at hplace
      cases hplace
    · exact ⟨st, hst, hplace⟩

theorem State.agrees.tellChange (k : Change) (n : Nat) (c : CopyCause) :
    (s.tellChange k n c).agrees e w ending := h.frame (by decide) (onlyChanges_tellChange s k n c)

/-! ### Pages that change with their stories (R142 to R144) -/

/-- A page changes state, or its marks, where it stands. -/
theorem State.agrees.restand {r : Nat} {p q : Page} (hp : s.page? r = some p) (hsame : q.still p)
    (hgate : q.state = .ready ∨ q.state = .queued ∨ q.state = .sending →
      ∀ n ∈ p.placement, (s.story n).state = .set)
    (hqueued : ∀ x, q.state = .queued ∧ q.tier = x ↔ p.state = .queued ∧ p.tier = x)
    (hsending : q.state = .sending ↔ p.state = .sending)
    (hwhole : w → s.sectionsWhole → s.leavesWhole r q) (c : PageCause) :
    (s.movePage r q c).agrees e w ending :=
  h.move hp hsame hgate (requeued_kept h.stand hp hqueued hsending) (fun hstate _ => hsending.2 hstate)
    hwhole c

/-- A SENT page becomes STALE. -/
theorem State.agrees.staleNow {r : Nat} {p : Page} (hp : s.page? r = some p) (hsent : p.state = .sent)
    (c : PageCause) : (s.movePage r (p.inState .stale) c).agrees e w ending :=
  h.restand hp (p.still_inState .stale) (by simp [Page.inState]) (by simp [Page.inState, hsent])
    (by simp [Page.inState, hsent]) (fun _ _ => leavesWhole_of_idle s r (by simp [Page.inState])
      (by simp [Page.inState]) (by simp [Page.inState])) c

/-- An ARMED page whose stories are all SET becomes READY. -/
theorem State.agrees.gateOpens {r : Nat} {p : Page} (hp : s.page? r = some p) (harmed : p.state = .armed)
    (hall : s.allSet p.placement = true) (c : PageCause) :
    (s.movePage r (p.inState .ready) c).agrees e w ending :=
  h.restand hp (p.still_inState .ready) (fun _ => (allSet_iff s _).1 hall) (by simp [Page.inState, harmed])
    (by simp [Page.inState, harmed]) (fun _ _ => leavesWhole_of_idle s r (by simp [Page.inState])
      (by simp [Page.inState]) (by simp [Page.inState])) c

/-- The record a placed story names (R139). -/
theorem State.agrees.placedOn {n r : Nat} (hr : (s.story n).page = some r) :
    ∃ st p, s.story? n = some st ∧ s.page? r = some p ∧ n ∈ p.placement := by
  cases hst : s.story? n with
  | none =>
    rw [State.story, hst] at hr
    cases hr
  | some st =>
    rw [story_of_live hst] at hr
    obtain ⟨p, hp, hn⟩ := h.stand.placed n st r hst hr
    exact ⟨st, p, rfl, hp, hn⟩

theorem State.agrees.storySet (n : Nat) : (s.storySet n).agrees e w ending := by
  unfold State.storySet
  split
  · exact h
  · rename_i r hr
    obtain ⟨-, p, -, hp, -⟩ := h.placedOn hr
    dsimp only
    rw [page_of_made hp]
    split
    · rename_i hgate
      exact (h.gateOpens hp hgate.1 hgate.2 .gate).evaluateJoins
    · exact h

theorem State.agrees.storyRevised (n : Nat) : (s.storyRevised n).agrees e w ending := by
  unfold State.storyRevised
  split
  · exact h
  · rename_i r hr
    obtain ⟨-, p, -, hp, -⟩ := h.placedOn hr
    dsimp only
    rw [page_of_made hp]
    split
    case h_1 hsending =>
      exact h.restand hp (q := { p with stalePending := true }) ⟨rfl, rfl, rfl⟩
        (fun hgate => h.stand.gated hp hgate) (fun _ => Iff.rfl) Iff.rfl
        (fun _ hwhole => hwhole.leavesWhole hp rfl rfl (fun hq ht => ⟨hq, ht⟩) id) .story
    case h_2 hsent => exact (h.staleNow hp hsent .story).evaluateJoins
    all_goals exact h

end

/-! ### PULL (R10, R143) -/

section
variable {s : State} {n r : Nat} (hr : (s.story n).page = some r)
include hr

theorem storySet_eq :
    s.storySet n =
      if (s.page r).state = .armed ∧ ∀ m ∈ (s.page r).placement, (s.story m).state = .set then
        (s.movePage r ((s.page r).inState .ready) .gate).evaluateJoins
      else s := by
  unfold State.storySet
  rw [hr]
  exact if_congr (and_congr_right fun _ => allSet_iff s _) rfl rfl

theorem storyRevised_eq :
    s.storyRevised n =
      if (s.page r).state = .sending then s.movePage r { s.page r with stalePending := true } .story
      else if (s.page r).state = .sent then
        (s.movePage r ((s.page r).inState .stale) .story).evaluateJoins
      else s := by
  unfold State.storyRevised
  rw [hr]
  dsimp only
  cases (s.page r).state <;> simp [Page.inState]

theorem storyPulled_eq :
    s.storyPulled n =
      if (s.page r).state = .ready ∨ (s.page r).state = .queued then
        (((((if (s.page r).state = .queued then s.dequeue r else s).movePage r ((s.page r).inState .armed)
          .story).withdrawSection r).sealTest (s.page r).edition)).evaluateJoins
      else if (s.page r).state = .sent then
        (s.movePage r ((s.page r).inState .stale) .story).evaluateJoins
      else s := by
  unfold State.storyPulled
  rw [hr]
  dsimp only
  cases (s.page r).state <;> simp [Page.inState]

end

section
variable {e w : Prop} {ending : Option Nat} {s : State} (h : s.agrees e w ending)
include h

/-- A story on a page is rewritten, and its page with it, to one that need not have every story SET. -/
theorem State.agrees.restory {t : State} {n r : Nat} {st st' : Story} {p q : Page}
    (hcanonical : Table.wf none t.pages = true) (hpage : s.rewrites t r (some q)) (hedition : s.editionsAlike t)
    (hst : s.story? n = some st) (hself : t.story? n = some st')
    (hother : ∀ m, m ≠ n → t.story? m = s.story? m) (hplace : st.page = some r) (hplace' : st'.page = some r)
    (hspiked : st'.state ≠ .spiked) (hp : s.page? r = some p) (hsame : q.still p)
    (hgate : ¬ (q.state = .ready ∨ q.state = .queued ∨ q.state = .sending)) (hidle : p.state ≠ .sending)
    (hqueue : s.typesetter.requeued t.typesetter r (some q))
    (hwhole : w → s.sectionsWhole → s.leavesWhole r q) : t.agrees e w ending := by
  obtain ⟨hlength, hnodup, hlist⟩ := h.stand.listed r p hp
  have hfits := h.stand.fits hp hsame fun hstate => absurd hstate hgate
  have honly : ∀ k, k ≠ r → (st'.page = some k ↔ st.page = some k) := fun k hk => by
    rw [hplace, hplace']
  refine h.rewrite hcanonical hpage hedition
    (placesKept_of_one hst hself hother honly fun k hk hk' => ?_) (fun q' hq' => ?_)
    (fun m sm hm hmr => ⟨q, rfl, ?_⟩) hqueue (fun p' hp' hstate => ?_)
    (fun _ _ hnone => by rw [hp] at hnone; cases hnone) (fun p' q' hp' hq' => ?_) fun q' hq' => ?_
  · rw [hplace] at hk'
    exact absurd (Option.some.inj hk').symm hk
  · cases hq'
    refine ⟨hfits.inRange, hfits.distinct, hfits.alive, by rwa [hsame.placement], by rwa [hsame.placement],
      fun m hm => ?_⟩
    rw [hsame.placement] at hm
    by_cases hmn : m = n
    · subst hmn
      exact ⟨st', hself, hplace', hspiked, fun hstate => absurd hstate hgate⟩
    · obtain ⟨sm, hsm, hmr, hmspiked, -⟩ := hlist m hm
      exact ⟨sm, (hother m hmn).trans hsm, hmr, hmspiked, fun hstate => absurd hstate hgate⟩
  · rw [hsame.placement]
    by_cases hmn : m = n
    · subst hmn
      obtain ⟨p', hp', hm⟩ := h.stand.placed m st r hst hplace
      cases hp.symm.trans hp'
      exact hm
    · obtain ⟨p', hp', hm⟩ := h.stand.placed m sm r ((hother m hmn).symm.trans hm) hmr
      cases hp.symm.trans hp'
      exact hm
  · cases hp.symm.trans hp'
    exact absurd hstate hidle
  · cases hp.symm.trans hp'
    cases hq'
    exact hsame.edition
  · cases hq'
    exact hwhole

end

/-- A state that differs from another in story `n` alone, of what the page unit reads. -/
structure State.restoried (s v : State) (n : Nat) (st' : Story) : Prop where
  pages : v.pages = s.pages
  edition : ∀ d, v.edition d = s.edition d
  typesetter : v.typesetter = s.typesetter
  self : v.story? n = some st'
  other : ∀ m, m ≠ n → v.story? m = s.story? m

section
variable {s v : State} {n : Nat} {st' : Story} (hv : s.restoried v n st')
include hv

theorem State.restoried.pageAt (k : Nat) : v.page? k = s.page? k :=
  congrArg (Table.get none · k) hv.pages

theorem State.restoried.page (k : Nat) : v.page k = s.page k := by
  rw [State.page, State.page, hv.pageAt]

theorem State.restoried.alike : s.editionsAlike v := editionsAlike_of_eq hv.edition

end

/-- The state in which page `p` at record `r` is ARMED and out of the queue, because of a story of it (R143). -/
def State.pulledOff (v : State) (r : Nat) (p : Page) : State :=
  (if p.state = .queued then v.dequeue r else v).movePage r (p.inState .armed) .story

section
variable {e w : Prop} {s v : State} (h : s.agrees e w none) {n r : Nat} {st st' : Story} {p : Page}
  (hst : s.story? n = some st) (hplace : st.page = some r) (hplace' : st'.page = some r)
  (hspiked : st'.state ≠ .spiked) (hp : s.page? r = some p) (hv : s.restoried v n st')
include h hst hplace hplace' hspiked hp hv

/-- A story on a page that is OPEN, ARMED, SENT or STALE is rewritten (R143). -/
theorem State.agrees.restoried (hgate : ¬ (p.state = .ready ∨ p.state = .queued ∨ p.state = .sending)) :
    v.agrees e w none :=
  h.restory (hv.pages ▸ h.stand.canonical)
    (fun k => by
      rw [hv.pageAt]
      split
      · subst_vars; exact hp
      · rfl)
    hv.alike hst hv.self hv.other hplace hplace' hspiked hp ⟨rfl, rfl, rfl⟩ hgate
    (fun hstate => hgate (.inr (.inr hstate)))
    (hv.typesetter ▸ requeued_kept h.stand hp (fun _ => Iff.rfl) Iff.rfl)
    fun _ hwhole => hwhole.leavesWhole hp rfl rfl (fun hq ht => ⟨hq, ht⟩) id

/-- A page whose story has been pulled is ARMED and out of the queue; its section is still to be withdrawn. -/
theorem State.agrees.pulledOff (hgate : p.state = .ready ∨ p.state = .queued) :
    (v.pulledOff r p).agrees e False none ∧ s.rewrites (v.pulledOff r p) r (some (p.inState .armed)) ∧
      s.editionsAlike (v.pulledOff r p) := by
  have hidle : p.state ≠ .sending := by rcases hgate with hstate | hstate <;> simp [hstate]
  have hqueue : s.typesetter.requeued (if p.state = .queued then v.dequeue r else v).typesetter r
      (some (p.inState .armed)) := by
    split
    · change s.typesetter.requeued (v.typesetter.remove r) r _
      rw [hv.typesetter]
      exact requeued_removed h.stand hp (by simp [Page.inState]) (by simp [Page.inState, hidle])
    · rename_i hqueued
      rw [hv.typesetter]
      exact requeued_kept h.stand hp (by simp [Page.inState, hqueued]) (by simp [Page.inState, hidle])
  have hread : ∀ u : State, (u = v.dequeue r ∨ u = v) →
      s.typesetter.requeued u.typesetter r (some (p.inState .armed)) →
      (u.movePage r (p.inState .armed) .story).agrees e False none ∧
        s.rewrites (u.movePage r (p.inState .armed) .story) r (some (p.inState .armed)) ∧
          s.editionsAlike (u.movePage r (p.inState .armed) .story) := by
    intro u hu hqueue
    have hreads : s.restoried { u with typesetter := v.typesetter } n st' := by
      rcases hu with rfl | rfl
      · exact hv
      · exact hv
    have hpages : ∀ k, u.page? k = s.page? k := hreads.pageAt
    have hmoved : s.rewrites (u.movePage r (p.inState .armed) .story) r (some (p.inState .armed)) := fun k => by
      rw [pageAt_movePage, hpages]
    have halike : s.editionsAlike (u.movePage r (p.inState .armed) .story) :=
      State.editionsAlike.trans (t := u) hreads.alike (editionsAlike_movePage u r _ _)
    have hfalse : s.agrees e False none := ⟨h.stand, h.editions, False.elim⟩
    refine ⟨hfalse.restory (n := n) (st := st) (st' := st')
      (canonical_movePage (s := u) (hreads.pages ▸ h.stand.canonical) r _ _) hmoved halike hst ?_ (fun m hm => ?_)
      hplace hplace' hspiked hp (p.still_inState .armed) (by simp [Page.inState]) hidle
      (by rwa [typesetter_movePage]) False.elim, hmoved, halike⟩
    · rw [storyAt_movePage]
      exact hreads.self
    · rw [storyAt_movePage]
      exact hreads.other m hm
  exact hread _ (ite_eq_or_eq _ _ _) hqueue

/-- The section of a page whose story has been pulled is withdrawn (R143, R146). -/
theorem State.agrees.disarmed (hgate : p.state = .ready ∨ p.state = .queued) :
    ((v.pulledOff r p).withdrawSection r).agrees e w none := by
  obtain ⟨hoff, hmoved, halike⟩ := h.pulledOff hst hplace hplace' hspiked hp hv hgate
  exact h.arm (q := p.inState .armed) hoff hmoved halike (by simp [Page.inState])

/-- What a story's PULL does to its page (R143). -/
theorem State.agrees.storyPulled (hidle : p.state ≠ .sending) : (v.storyPulled n).agrees e w none := by
  have hr : (v.story n).page = some r := by rw [story_of_live hv.self, hplace']
  rw [storyPulled_eq hr, hv.page, page_of_made hp]
  split
  · rename_i hgate
    exact ((h.disarmed hst hplace hplace' hspiked hp hv hgate).sealTest _).evaluateJoins
  · rename_i hnot
    have hkept : v.agrees e w none := h.restoried hst hplace hplace' hspiked hp hv (by
      rintro (hstate | hstate | hstate)
      · exact hnot (.inl hstate)
      · exact hnot (.inr hstate)
      · exact hidle hstate)
    split
    · rename_i hsent
      exact (hkept.staleNow ((hv.pageAt r).trans hp) hsent .story).evaluateJoins
    · exact hkept

end

/-- A story that has been filed by a PULL, which has been told; its page is still to be told (R10, R43). -/
def State.refiled (s : State) (n : Nat) (st : Story) (d : Nat) (flash : Bool) (c : CopyCause) : State :=
  ((s.joinBasket d n flash).putStory n (some (st.arrived d flash (s.arrivalDue d)))).tellChange .moved n c

theorem refiled_onlyChanges (s : State) (n : Nat) (st : Story) (d : Nat) (flash : Bool) (c : CopyCause) :
    s.onlyChanges ([.baskets, .stories] ++ tellFields) (s.refiled n st d flash c) :=
  (((onlyChanges_putBasket _ _ _).mono (by decide)).trans ((onlyChanges_putStory _ _ _).mono (by decide))).trans
    ((onlyChanges_tellChange _ _ _ _).mono (by decide))

theorem restoried_refiled (s : State) (n : Nat) (st : Story) (d : Nat) (flash : Bool) (c : CopyCause) :
    s.restoried (s.refiled n st d flash c) n (st.arrived d flash (s.arrivalDue d)) := by
  have hframe := refiled_onlyChanges s n st d flash c
  refine ⟨hframe.pagesOf, hframe.editionAt (by decide), hframe.queueOf, ?_, fun m hm => ?_⟩
  · rw [State.refiled, storyAt_tellChange, storyAt_putStory_self]
  · rw [State.refiled, storyAt_tellChange, State.storyAt_putStory, if_neg hm]
    rfl

section
variable {e w : Prop} {s : State} (h : s.agrees e w none)
include h

/-- A story that is on no page is filed. -/
theorem State.agrees.refiled {n : Nat} {st : Story} (hst : s.story? n = some st) (hplace : st.page = none)
    (d : Nat) (flash : Bool) (c : CopyCause) : (s.refiled n st d flash c).agrees e w none := by
  have hjoined : (s.joinBasket d n flash).agrees e w none := h.frame (by decide) (onlyChanges_putBasket _ _ _)
  exact (hjoined.putLive (st := st) (st' := st.arrived d flash (s.arrivalDue d)) hst rfl
    (fun hsome => absurd hplace hsome) (fun hsome => absurd hplace hsome)).tellChange _ _ _

/-- A taken PULL: the story is SET, and its page, if it has one, is not SENDING (R10, R43). -/
theorem State.agrees.takePull {n : Nat} {st : Story} (hst : s.story? n = some st)
    (hfree : s.onSendingPage n = false) (d : Nat) (flash : Bool) (c : CopyCause) :
    (s.takePull n d flash c).agrees e w none := by
  rw [takePull_of_live hst]
  refine State.agrees.startTest ?_
  have hv := restoried_refiled s n st d flash c
  cases hplace : st.page with
  | none =>
    have hnone : (s.refiled n st d flash c).storyPulled n = s.refiled n st d flash c := by
      unfold State.storyPulled
      rw [story_of_live hv.self, show (st.arrived d flash (s.arrivalDue d)).page = none from hplace]
    exact hnone.symm ▸ h.refiled hst hplace d flash c
  | some r =>
    obtain ⟨p, hp, -⟩ := h.stand.placed n st r hst hplace
    refine h.storyPulled (st' := st.arrived d flash (s.arrivalDue d)) hst hplace hplace nofun hp hv
      fun hstate => ?_
    rw [← Bool.not_eq_true, onSendingPage_iff, story_of_live hst, hplace, Option.map_some, page_of_made hp,
      hstate] at hfree
    exact hfree rfl

/-! ### MAKE PAGE (R137) -/

omit h in
theorem lowestFrom_lt {free : Nat → Bool} {count start k : Nat}
    (hk : lowestFrom free count start = some k) : k < start + count := by
  induction count generalizing start with
  | zero => cases hk
  | succ count ih =>
    unfold lowestFrom at hk
    split at hk
    · cases hk
      omega
    · have := ih hk
      omega

omit h in
theorem lowestFreePage_free {r : Nat} (hr : s.lowestFreePage = some r) : s.page? r = none ∧ r < 128 :=
  ⟨by simpa using lowestFrom_free hr, by simpa [Config.pageRecordCount] using lowestFrom_lt hr⟩

/-- A page is made in an edition that is neither dead nor marked, with no other of its number and no FIRST-tier
page of its section QUEUED (R137). -/
theorem State.agrees.takeMakePage {d number : Nat}
    (hchecks : firstRefusal (s.makePageChecks d number) = none) :
    (s.takeMakePage d number).agrees e w none := by
  simp only [State.makePageChecks, firstRefusal_cons, Bool.or_eq_false_iff, decide_eq_false_iff_not,
    beq_eq_false_iff_ne] at hchecks
  obtain ⟨⟨⟨⟨hlow, hhigh⟩, hnumber⟩, -⟩, ⟨⟨hempty, hsealed⟩, hunmarked⟩, hplanned, hclash, -⟩ := hchecks
  have hfree : ∀ k o, s.page? k = some o → o.edition = d → o.number ≠ number ∧
      ((o.number - 1) / (s.edition d).size = (number - 1) / (s.edition d).size →
        ¬ (o.state = .queued ∧ o.tier = .first)) := by
    intro k o ho hod
    have hnot := (makePage_clash_iff h.stand d number).not.1 (by simp [hclash])
    exact ⟨fun hn => hnot ⟨k, o, ho, hod, .inl hn⟩, fun hsection hq => hnot ⟨k, o, ho, hod, .inr ⟨hsection, hq⟩⟩⟩
  have halive : (s.edition d).state = .planned ∨ (s.edition d).state = .running ∨
      (s.edition d).state = .closed := by
    cases hstate : (s.edition d).state <;> simp_all
  unfold State.takeMakePage
  split
  · exact h
  · rename_i r hr
    obtain ⟨hnone, hrange⟩ := lowestFreePage_free hr
    have hunplaced : ∀ n st, s.story? n = some st → st.page ≠ some r := fun n st hst hplace => by
      obtain ⟨p, hp, -⟩ := h.stand.placed n st r hst hplace
      rw [hnone] at hp
      cases hp
    have hoff : ∀ x : Page → Prop, ¬ ∃ p, s.page? r = some p ∧ x p := fun x ⟨p, hp, _⟩ => by
      rw [hnone] at hp
      cases hp
    refine h.rewrite (o := some (madePage d number)) (canonical_movePage h.stand.canonical r _ _)
      (fun k => pageAt_movePage ..) (editionsAlike_movePage s r _ _)
      (placesKept_of_eq (fun n => storyAt_movePage ..) _) (fun q hq => ?_)
      (fun n st hst hplace => ?_) ?_ (fun p hp => ?_) (fun q hq _ => ?_) (fun p q hp => ?_) fun q hq _ _ => ?_
    · cases hq
      exact ⟨⟨hrange, by simp only [madePage]; omega⟩, fun k o _ ho hod => (hfree k o ho hod).1, halive,
        by simp [madePage]⟩
    · rw [storyAt_movePage] at hst
      exact absurd hplace (hunplaced n st hst)
    · rw [typesetter_movePage]
      refine ⟨fun k => ?_, fun k => ?_, h.stand.once, fun k => ?_, h.stand.room⟩
      all_goals
        by_cases hk : k = r
        swap
        · rw [if_neg hk]
        rw [if_pos hk, hk]
      · rw [h.stand.first]
        exact iff_of_false (hoff _) (by simp [madePage])
      · rw [h.stand.replate]
        exact iff_of_false (hoff _) (by simp [madePage])
      · rw [← h.stand.sending]
        exact iff_of_false (hoff _) (by simp [madePage])
    · rw [hnone] at hp
      cases hp
    · cases hq
      exact hunmarked
    · rw [hnone] at hp
      cases hp
    · cases hq
      exact ⟨nofun, fun _ k o _ ho hab => (hfree k o ho hab.1).2 hab.2⟩

end

end Sys2Proof.Machine
end

section
/-! SUPPORT. DROP PAGE, PLACE, LIFT, RELEASE and REPLATE (R138 to R141, R147), and the page unit's invariants. -/

namespace Sys2Proof.Machine

section
variable {e w : Prop} {s : State} (h : s.agrees e w none)
include h

/-! ### DROP PAGE (R138) -/

omit h in
theorem canonical_dropped (hs : Table.wf none s.pages = true) (r : Nat) :
    Table.wf none (s.dropped r).pages = true := by
  unfold State.dropped
  rw [(onlyChanges_offer _ _).pagesOf, (onlyChanges_writeSlot _ _ _ _).pagesOf]
  refine Table.wf_put none _ r none ?_
  rwa [(onlyChanges_liftAll s _).pagesOf]

/-- A page that is neither QUEUED nor SENDING is freed (R138). -/
theorem State.agrees.dropped {r : Nat} {p : Page} (hp : s.page? r = some p) (hqueued : p.state ≠ .queued)
    (hsending : p.state ≠ .sending) : (s.dropped r).agrees e w none := by
  have hstory : ∀ n, (s.dropped r).story? n =
      (s.story? n).map fun st => if n ∈ p.placement then st.lifted else st := fun n => by
    rw [storyAt_dropped, page_of_made hp]
  have hleft : ∀ {n st k}, (s.dropped r).story? n = some st → st.page = some k →
      s.story? n = some st ∧ n ∉ p.placement := by
    intro n st k hst hplace
    rw [hstory] at hst
    obtain ⟨st', hst', rfl⟩ := Option.map_eq_some_iff.1 hst
    split at hplace
    · cases hplace
    · rename_i hn
      exact ⟨by rw [if_neg hn]; exact hst', hn⟩
  obtain ⟨hofffirst, hoffreplate⟩ := off_tiers h.stand hp hqueued
  refine h.rewrite (o := none) (canonical_dropped h.stand.canonical r) (pageAt_dropped s r) (fun d => ?_)
    ⟨fun n st k hk hst hplace => ?_, fun n st k hk hst hplace => ⟨st, (hleft hst hplace).1, hplace⟩⟩
    (fun _ hq => by cases hq) (fun n st hst hplace => ?_) ?_ (fun p' hp' hstate => ?_)
    (fun _ hq => by cases hq) (fun _ _ _ hq => by cases hq) fun _ hq => by cases hq
  · rw [edition_dropped]
    split
    · exact Edition.alike_withSlot ..
    · exact .refl _
  · refine ⟨st, ?_, hplace, id, id⟩
    rw [hstory, hst, Option.map_some, if_neg]
    intro hn
    obtain ⟨-, -, hlist⟩ := h.stand.listed r p hp
    obtain ⟨st', hst', hplace', -⟩ := hlist n hn
    cases hst.symm.trans hst'
    exact hk (Option.some.inj (hplace.symm.trans hplace'))
  · obtain ⟨hst', hn⟩ := hleft hst hplace
    obtain ⟨p', hp', hin⟩ := h.stand.placed n st r hst' hplace
    cases hp.symm.trans hp'
    exact absurd hin hn
  · rw [(dropped_frame s r).queueOf, (onlyChanges_liftAll s _).queueOf]
    refine ⟨fun k => ?_, fun k => ?_, h.stand.once, fun k => ?_, h.stand.room⟩
    all_goals
      by_cases hk : k = r <;>
        simp only [hk, if_true, if_false, reduceCtorEq, false_and, exists_false, iff_false]
    · exact hofffirst
    · exact hoffreplate
    · rw [sending_iff h.stand hp]
      exact hsending
  · cases hp.symm.trans hp'
    exact absurd hstate hsending

theorem State.agrees.takeDropPage {r : Nat} {p : Page} (hp : s.page? r = some p) (hqueued : p.state ≠ .queued)
    (hsending : p.state ≠ .sending) : (s.takeDropPage r).agrees e w none := by
  rw [takeDropPage_eq]
  exact (((h.dropped hp hqueued hsending).sealTest _).evaluateJoins).startTest

/-! ### PLACE and LIFT (R139, R140) -/

/-- A story comes to a page's list or leaves it. -/
theorem State.agrees.relist {t : State} {n r : Nat} {st st' : Story} {p q : Page}
    (hcanonical : Table.wf none t.pages = true) (hpage : s.rewrites t r (some q)) (hedition : s.editionsAlike t)
    (hst : s.story? n = some st) (hself : t.story? n = some st') (hother : ∀ m, m ≠ n → t.story? m = s.story? m)
    (hstate : st'.state = st.state) (hold : ∀ k, st.page = some k → k = r)
    (hnew : ∀ k, st'.page = some k → k = r) (hp : s.page? r = some p) (hqe : q.edition = p.edition)
    (hqn : q.number = p.number) (hlength : q.placement.length ≤ 12) (hnodup : q.placement.Nodup)
    (hlist : ∀ m, m ≠ n → (m ∈ q.placement ↔ m ∈ p.placement))
    (hin : n ∈ q.placement ↔ st'.page = some r) (hspiked : n ∈ q.placement → st.state ≠ .spiked)
    (hgate : q.state = .ready ∨ q.state = .queued ∨ q.state = .sending →
      (p.state = .ready ∨ p.state = .queued ∨ p.state = .sending) ∧ (n ∈ q.placement → st.state = .set))
    (hqueue : s.typesetter.requeued t.typesetter r (some q)) (hsending : p.state ≠ .sending)
    (hwhole : w → s.sectionsWhole → s.leavesWhole r q) : t.agrees e w none := by
  obtain ⟨-, -, hlisted⟩ := h.stand.listed r p hp
  refine h.rewrite hcanonical hpage hedition
    (placesKept_of_one hst hself hother (fun k hk => iff_of_false (fun hk' => hk (hnew k hk'))
      fun hk' => hk (hold k hk')) fun k hk hk' => absurd (hold k hk') hk)
    (fun q' hq' => ?_) (fun m sm hsm hmr => ⟨q, rfl, ?_⟩) hqueue (fun p' hp' hstate => ?_)
    (fun _ _ hnone => by rw [hp] at hnone; cases hnone) (fun p' q' hp' hq' => ?_) fun q' hq' => ?_
  · cases hq'
    refine ⟨?_, fun k o hk ho hod hon => ?_, ?_, hlength, hnodup, fun m hm => ?_⟩
    · rw [hqe, hqn]
      exact h.stand.inRange r p hp
    · exact hk (h.stand.distinct k r o p ho hp (hod.trans hqe) (hon.trans hqn))
    · rw [hqe]
      exact h.stand.alive r p hp
    · by_cases hmn : m = n
      · subst hmn
        exact ⟨st', hself, hin.1 hm, hstate ▸ hspiked hm, fun hq => hstate.trans ((hgate hq).2 hm)⟩
      · obtain ⟨sm, hsm, hmr, hmspiked, hmset⟩ := hlisted m ((hlist m hmn).1 hm)
        exact ⟨sm, (hother m hmn).trans hsm, hmr, hmspiked, fun hq => hmset (hgate hq).1⟩
  · by_cases hmn : m = n
    · subst hmn
      cases hself.symm.trans hsm
      exact hin.2 hmr
    · obtain ⟨p', hp', hm⟩ := h.stand.placed m sm r ((hother m hmn).symm.trans hsm) hmr
      cases hp.symm.trans hp'
      exact (hlist m hmn).2 hm
  · cases hp.symm.trans hp'
    exact absurd hstate hsending
  · cases hp.symm.trans hp'
    cases hq'
    exact hqe
  · cases hq'
    exact hwhole

omit h in
theorem replaced_reads (r : Nat) (q : Page) (n : Nat) (st : Story) (k : Change) :
    s.rewrites (s.replaced r q n st k) r (some q) ∧ (∀ d, (s.replaced r q n st k).edition d = s.edition d) ∧
      (s.replaced r q n st k).typesetter = s.typesetter ∧ (s.replaced r q n st k).story? n = some st ∧
      (∀ m, m ≠ n → (s.replaced r q n st k).story? m = s.story? m) ∧
      (Table.wf none s.pages = true → Table.wf none (s.replaced r q n st k).pages = true) := by
  have htold := onlyChanges_tellChange ((s.putPage r (some q)).putStory n (some st)) k n .order
  refine ⟨fun j => ?_, htold.editionAt, htold.queueOf, ?_, fun m hm => ?_, fun hs => ?_⟩
  · rw [State.replaced, htold.pageAt, State.pageAt_putStory_frame, State.pageAt_putPage]
  · rw [State.replaced, storyAt_tellChange, storyAt_putStory_self]
  · rw [State.replaced, storyAt_tellChange, State.storyAt_putStory, if_neg hm]
    rfl
  · rw [State.replaced, htold.pagesOf]
    exact Table.wf_put none _ r (some q) hs

/-- A page's move after a LIFT, its list and its story's page in agreement (R140). -/
theorem State.agrees.pageAfterLift {r : Nat} {p : Page} (hp : s.page? r = some p) :
    (s.pageAfterLift r).agrees e w none := by
  rw [pageAfterLift_eq, page_of_made hp]
  split
  · rename_i hgate
    exact (h.gateOpens hp hgate.1 ((allSet_iff s _).2 hgate.2) .gate).evaluateJoins
  · split
    · rename_i hsent
      exact (h.staleNow hp hsent .order).evaluateJoins
    · exact h

/-- A taken LIFT, from a page that is neither QUEUED nor SENDING (R140). -/
theorem State.agrees.takeLift {n : Nat} (hfree : s.onBusyPage n = false) : (s.takeLift n).agrees e w none := by
  cases hplace : (s.story n).page with
  | none =>
    unfold State.takeLift
    rw [hplace]
    exact h
  | some r =>
    obtain ⟨st, p, hst, hp, hn⟩ := h.placedOn hplace
    have hstory := story_of_live hst
    rw [hstory] at hplace
    rw [← Bool.not_eq_true, onBusyPage_iff (hstory.symm ▸ hplace), page_of_made hp, not_or] at hfree
    obtain ⟨hlength, hnodup, -⟩ := h.stand.listed r p hp
    rw [takeLift_of_live (hstory.symm ▸ hst) (hstory.symm ▸ hplace), page_of_made hp, hstory]
    obtain ⟨hpage, hedition, hqueue, hself, hother, hcanonical⟩ := replaced_reads (s := s) r
      { p with placement := p.placement.filter (fun m => m != n) } n { st with page := none } .lifted
    refine State.agrees.startTest (State.agrees.pageAfterLift (h.relist (hcanonical h.stand.canonical) hpage
      (editionsAlike_of_eq hedition) hst hself hother rfl
      (fun k hk => (Option.some.inj (hplace.symm.trans hk)).symm) nofun hp rfl rfl
      ((List.length_filter_le _ _).trans hlength) (hnodup.filter _) (fun m hm => ?_) ?_ (fun hn' => ?_)
      (fun hq => ⟨hq, fun hn' => ?_⟩)
      (by rw [hqueue]; exact requeued_kept h.stand hp (fun _ => Iff.rfl) Iff.rfl) hfree.2
      fun _ hwhole => hwhole.leavesWhole hp rfl rfl (fun hq ht => ⟨hq, ht⟩) id) hpage.self)
    · simp [hm]
    · simp
    all_goals simp at hn'

/-- A taken PLACE, of a story that is not SPIKED, on no page, on a page that has room and is neither QUEUED nor
SENDING (R139). -/
theorem State.agrees.takePlace {n r : Nat} (hchecks : firstRefusal (s.placeChecks n r) = none) :
    (s.takePlace n r).agrees e w none := by
  simp only [State.placeChecks, firstRefusal_cons, ← Bool.not_eq_true, isFree_iff, pageFree_iff, busy_iff,
    Bool.or_eq_true, decide_eq_true_eq, beq_iff_eq, not_or] at hchecks
  obtain ⟨-, hmade, hlive, ⟨hqueued, hsending⟩, hunplaced, hspiked, hroom, -⟩ := hchecks
  obtain ⟨p, hp⟩ := Option.ne_none_iff_exists'.1 hmade
  have hst := live_of_not_free hlive
  rw [page_of_made hp] at hqueued hsending hroom
  have hnone : (s.story n).page = none := by simpa using hunplaced
  have hnotin : n ∉ p.placement := fun hn => by
    obtain ⟨-, -, hlist⟩ := h.stand.listed r p hp
    obtain ⟨st, hst', hplace, -⟩ := hlist n hn
    rw [story_of_live hst'] at hnone
    rw [hnone] at hplace
    cases hplace
  obtain ⟨-, hnodup, -⟩ := h.stand.listed r p hp
  have hplaced : ∀ (v : Prop) (x : PageState) (t : State), (v → w) → Table.wf none t.pages = true →
      s.rewrites t r (some { p with placement := p.placement ++ [n], state := x }) → s.editionsAlike t →
      t.story? n = some { s.story n with page := some r } → (∀ m, m ≠ n → t.story? m = s.story? m) →
      t.typesetter = s.typesetter → x ≠ .queued → x ≠ .sending →
      (x = .ready → p.state = .ready ∧ (s.story n).state = .set) →
      (v → x = .opened ∨ x = .armed → p.state = .opened ∨ p.state = .armed) → t.agrees e v none := by
    intro v x t hv hcanonical hpage hedition hself hother hqueue hxq hxs hgate hopen
    have hweak : s.agrees e v none := ⟨h.stand, h.editions, h.sections ∘ hv⟩
    refine hweak.relist hcanonical hpage hedition hst hself hother rfl (by simp [hnone])
      (fun k hk => (Option.some.inj hk).symm) hp rfl rfl (by simp; omega) ?_ (fun m hm => by simp [hm])
      (by simp) (fun _ => hspiked) (fun hq => ?_) ?_ hsending fun hw hwhole =>
        hwhole.leavesWhole hp rfl rfl (fun hq _ => absurd hq hxq) (hopen hw)
    · exact List.nodup_append_comm.1 (List.nodup_cons.2 ⟨hnotin, hnodup⟩)
    · obtain ⟨hready, hset⟩ := hgate (by simpa [hxq, hxs] using hq)
      exact ⟨.inl hready, fun _ => hset⟩
    · rw [hqueue]
      exact requeued_kept h.stand hp (by simp [hxq, hqueued]) (by simp [hxs, hsending])
  rw [takePlace_of_live hst, page_of_made hp]
  obtain ⟨hpage, hedition, hqueue, hself, hother, hcanonical⟩ := replaced_reads (s := s) r
    { p with placement := p.placement ++ [n] } n { s.story n with page := some r } .placed
  refine State.agrees.startTest ?_
  by_cases hbad : p.state = .ready ∧ (s.story n).state ≠ .set
  · rw [pageAfterPlace_eq, replaced_page, if_pos ⟨hbad.1, beq_eq_false_iff_ne.2 hbad.2⟩]
    have hmoved : s.rewrites ((s.replaced r { p with placement := p.placement ++ [n] } n
        { s.story n with page := some r } .placed).movePage r
          { p with placement := p.placement ++ [n], state := .armed } .order) r
        (some { p with placement := p.placement ++ [n], state := .armed }) := fun k => by
      rw [pageAt_movePage]
      split
      · rfl
      · rename_i hk
        exact hpage.other hk
    have halike := State.editionsAlike.trans (editionsAlike_of_eq hedition) (editionsAlike_movePage
      (s.replaced r { p with placement := p.placement ++ [n] } n { s.story n with page := some r } .placed) r
      { p with placement := p.placement ++ [n], state := .armed } .order)
    refine State.agrees.evaluateJoins (State.agrees.sealTest (h.arm (hplaced False .armed _ False.elim
      (canonical_movePage (hcanonical h.stand.canonical) _ _ _) hmoved halike ?_ (fun m hm => ?_) ?_
      (by decide) (by decide) nofun False.elim) hmoved halike (by simp)) _)
    · rw [storyAt_movePage, hself]
    · rw [storyAt_movePage, hother m hm]
    · rw [typesetter_movePage, hqueue]
  · have hkept := hplaced w p.state _ id (hcanonical h.stand.canonical) hpage (editionsAlike_of_eq hedition)
      hself hother hqueue hqueued hsending
      (fun hready => ⟨hready, by_contra fun hset => hbad ⟨hready, hset⟩⟩) (fun _ => id)
    rw [pageAfterPlace_eq, replaced_page, if_neg fun hno => hbad ⟨hno.1, beq_eq_false_iff_ne.1 hno.2⟩]
    split
    · rename_i hsent
      exact (hkept.staleNow hpage.self hsent .order).evaluateJoins
    · exact hkept

/-! ### RELEASE and REPLATE (R141, R147) -/

/-- A page goes through its gate: READY with every story SET, or else ARMED, with its section withdrawn. -/
theorem State.agrees.throughGate {r : Nat} {p q : Page} {x : PageState} (hp : s.page? r = some p)
    (hsame : q.still p) (hqueued : p.state ≠ .queued) (hsending : p.state ≠ .sending)
    (hx : s.gateState p = x) : (s.throughGate r q x).agrees e w none := by
  have hstill : ∀ y, (q.inState y).still p := fun y => ⟨hsame.edition, hsame.number, hsame.placement⟩
  have hidle : ∀ y, y ≠ .queued → y ≠ .sending → (∀ z, (q.inState y).state = .queued ∧ (q.inState y).tier = z ↔
      p.state = .queued ∧ p.tier = z) ∧ ((q.inState y).state = .sending ↔ p.state = .sending) := by
    intro y hyq hys
    exact ⟨fun z => iff_of_false (fun hy => hyq hy.1) fun hp => hqueued hp.1, iff_of_false hys hsending⟩
  rw [gateState_eq] at hx
  unfold State.throughGate
  dsimp only
  by_cases hall : ∀ n ∈ p.placement, (s.story n).state = .set
  · rw [if_pos hall] at hx
    subst hx
    rw [if_neg (by decide)]
    obtain ⟨hq, hs⟩ := hidle .ready (by decide) (by decide)
    exact h.restand hp (hstill .ready) (fun _ => hall) hq hs (fun _ _ => leavesWhole_of_idle s r
      (by simp [Page.inState]) (by simp [Page.inState]) (by simp [Page.inState])) .order
  · rw [if_neg hall] at hx
    subst hx
    rw [if_pos rfl]
    obtain ⟨hq, hs⟩ := hidle .armed (by decide) (by decide)
    have hweak : s.agrees e False none := ⟨h.stand, h.editions, False.elim⟩
    exact h.arm (q := q.inState .armed) (hweak.restand hp (hstill .armed) (by simp [Page.inState]) hq hs
      False.elim .order) (fun k => pageAt_movePage ..) (editionsAlike_movePage s r (q.inState .armed) .order)
      (by simp [Page.inState])

theorem State.agrees.takeRelease {r : Nat} {p : Page} (hp : s.page? r = some p) (hopen : p.state = .opened) :
    (s.takeRelease r).agrees e w none := by
  rw [takeRelease_eq rfl, page_of_made hp]
  exact ((h.throughGate hp ⟨rfl, rfl, rfl⟩ (by simp [hopen]) (by simp [hopen]) rfl).evaluateJoins).startTest

omit h in
theorem spendJoin_frame (s : State) (d : Nat) : s.onlyChanges [.editions] (s.spendJoin d) := by
  unfold State.spendJoin
  dsimp only
  split
  · exact onlyChanges_putEdition _ _ _
  · exact .refl _ s

omit h in
theorem editionsAlike_spendJoin (s : State) (d : Nat) : s.editionsAlike (s.spendJoin d) := by
  unfold State.spendJoin
  dsimp only
  split
  · intro c
    rw [State.edition_putEdition]
    split
    · subst_vars
      exact ⟨rfl, rfl, rfl, rfl, rfl⟩
    · exact .refl _
  · exact fun _ => .refl _

theorem State.agrees.spendJoin (d : Nat) : (s.spendJoin d).agrees e w none := by
  have hframe := spendJoin_frame s d
  exact h.elsewhere hframe.pagesOf (editionsAlike_spendJoin s d) (placesKept_of_eq (hframe.storyAt (by decide)) _)
    (by rw [hframe.queueOf]) (by rw [hframe.queueOf]) (by rw [hframe.queueOf])

theorem State.agrees.takeReplate {r : Nat} {p : Page} (hp : s.page? r = some p)
    (hgone : p.state = .sent ∨ p.state = .stale) : (s.takeReplate r).agrees e w none := by
  have hspent := h.spendJoin p.edition
  have hframe := spendJoin_frame s p.edition
  have hp' : (s.spendJoin p.edition).page? r = some p := (hframe.pageAt (by decide) r).trans hp
  have hgate : (s.spendJoin p.edition).gateState p = s.gateState p := by
    have hstory : ∀ n, (s.spendJoin p.edition).story n = s.story n := fun n => by
      rw [State.story, State.story, hframe.storyAt]
    simp only [gateState_eq, hstory]
  rw [takeReplate_eq rfl, page_of_made hp]
  exact (((hspent.throughGate (q := { p with tier := .replate }) hp' ⟨rfl, rfl, rfl⟩
    (by rcases hgone with hstate | hstate <;> simp [hstate])
    (by rcases hgone with hstate | hstate <;> simp [hstate]) hgate).sealTest _).evaluateJoins).startTest

end

end Sys2Proof.Machine
end

section
/-! SUPPORT. Moves of stories, darkness, RUN and IDLE, and restarts (R7 to R11, R32 to R43, R90, R186 to R191), and
the page unit's invariants. -/

namespace Sys2Proof.Machine

/-- A story on a page is not SPIKED (R42, R139). -/
theorem State.pagesStand.unspiked {s : State} (h : s.pagesStand) {n : Nat} {st : Story}
    (hst : s.story? n = some st) (hplace : st.page ≠ none) : st.state ≠ .spiked := by
  obtain ⟨r, hr⟩ := Option.ne_none_iff_exists'.1 hplace
  obtain ⟨p, hp, hn⟩ := h.placed n st r hst hr
  obtain ⟨-, -, hlist⟩ := h.listed r p hp
  obtain ⟨st', hst', -, hspiked, -⟩ := hlist n hn
  cases hst.symm.trans hst'
  exact hspiked

section
variable {e w : Prop} {s : State} (h : s.agrees e w none)
include h

/-! ### Moves of stories (R7 to R11, R32 to R43) -/

theorem State.agrees.attend (t : Nat) (b : AttentionBody) : (s.attend t b).agrees e w none :=
  h.frame (by decide) (onlyChanges_attend s t b)

theorem State.agrees.putTerminal (t : Nat) (r : Terminal) : (s.putTerminal t r).agrees e w none :=
  h.frame (by decide) (onlyChanges_putTerminal s t r)

theorem State.agrees.lineTurn (l : LineId) : (s.lineTurn l).agrees e w none :=
  h.frame (by decide) (onlyChanges_lineTurn s l)

theorem State.agrees.reach (due : Nat) : (s.reach due).agrees e w none :=
  h.frame (by decide) (onlyChanges_reach s due)

theorem State.agrees.refuseOrder (k : Byte) (c : Code) (i : Option Nat) :
    (s.refuseOrder k c i).agrees e w none := h.offer _

/-- A created story is on no page (R7). -/
theorem State.agrees.createStory {n : Nat} (hfree : s.story? n = none) (d c : Nat) (flash : Bool)
    (slug : List Byte) : (s.createStory n d c flash slug).agrees e w none := by
  rw [createStory_eq]
  have hwritten := h.putStory (n := n)
    (o := some { announcedStory d c flash slug with nudgeDue := s.arrivalDue d })
    (fun st hst => by rw [hfree] at hst; cases hst) (fun st hst => by cases hst; rfl)
  exact (hwritten.frame (by decide) (onlyChanges_putBasket _ _ _)).offer _

/-- A story that is on no page is forgotten (R11). -/
theorem State.agrees.takePurge {n : Nat} (hplace : (s.story n).page = none) :
    (s.takePurge n).agrees e w none := by
  rw [takePurge_eq]
  have hforgotten := ((h.frame (by decide) (unbasketed_onlyChanges s n)).tellChange .gone n .order).frame (by decide)
    (onlyChanges_forgetStory _ n)
  refine hforgotten.putStory (fun st hst => ?_) nofun
  rw [(onlyChanges_forgetStory _ n).storyAt (by decide), storyAt_tellChange, storyAt_unbasketed] at hst
  rwa [story_of_live hst] at hplace

section
variable {n : Nat} {st : Story} (hst : s.story? n = some st)
include hst

theorem State.agrees.takeRevise (slug : List Byte) : (s.takeRevise n slug).agrees e w none := by
  rw [takeRevise_of_live hst]
  have hrevised := h.putLive (st' := st.revised slug) hst rfl (h.stand.unspiked hst) fun _ => id
  exact ((hrevised.tellChange _ _ _).storyRevised n).startTest

/-- A story that is not SET arrives at a desk. -/
theorem State.agrees.fileAt (hset : st.state ≠ .set) (d : Nat) (flash : Bool) :
    (s.fileAt n d flash).agrees e w none := by
  rw [fileAt_of_live hst]
  have hjoined : (s.joinBasket d n flash).agrees e w none := h.frame (by decide) (onlyChanges_putBasket _ _ _)
  exact hjoined.putLive (st' := st.arrived d flash (s.arrivalDue d)) hst rfl (fun _ => nofun)
    fun _ hstate => absurd hstate hset

theorem State.agrees.takeMove (hset : st.state ≠ .set) (d : Nat) (flash : Bool) :
    (s.takeMove n d flash).agrees e w none := by
  have hleft := h.frame (by decide) (onlyChanges_leaveBasket s (s.story n).desk n)
  have hlive : (s.leaveBasket (s.story n).desk n).story? n = some st := hst
  exact (hleft.fileAt hlive hset d flash).tellChange .moved n .order

theorem State.agrees.sendToDesk (hset : st.state ≠ .set) (t d : Nat) (flash : Bool) :
    (s.sendToDesk t n d flash).agrees e w none := by
  have hleft := h.frame (by decide) (onlyChanges_leaveBasket s (s.story n).desk n)
  have hlive : (s.leaveBasket (s.story n).desk n).story? n = some st := hst
  exact (((hleft.fileAt hlive hset d flash).frame (by decide) (onlyChanges_dropHold _ t n)).frame (by decide)
    (onlyChanges_done _ t .send n false)).tellChange .moved n (.terminal t)

theorem State.agrees.sendToSet (t : Nat) : (s.sendToSet t n).agrees e w none := by
  rw [sendToSet_of_live hst]
  have hleft := (h.frame (by decide) (onlyChanges_leaveBasket s st.desk n)).frame (by decide)
    (onlyChanges_dropHold _ t n)
  have hset := hleft.putLive (st := st)
    (st' := { st with state := .set, holder := none, overdue := false, nudgeDue := none })
    hst rfl (fun _ => nofun) fun _ _ => rfl
  exact (((hset.attend _ _).tellChange .set n _).storySet n).startTest

theorem State.agrees.takeSend (hset : st.state ≠ .set) (t : Nat) (known desk : Option Nat) (flash : Bool) :
    (s.takeSend t n known desk flash).agrees e w none := by
  unfold State.takeSend
  split
  · exact h.attend _ _
  · exact h.sendToSet hst t
  · exact h.sendToDesk hst hset t _ flash

/-- A story that is on no page is SPIKED (R42). -/
theorem State.agrees.takeSpike (hplace : st.page = none) (t : Nat) :
    (s.takeSpike t n).agrees e w none := by
  rw [takeSpike_of_live hst]
  have hleft := h.frame (by decide) (onlyChanges_leaveBasket s st.desk n)
  have hspiked := hleft.putLive (st := st) (st' := { st with state := .spiked, holder := none, nudgeDue := none })
    hst rfl (fun hsome => absurd hplace hsome) fun hsome => absurd hplace hsome
  exact ((hspiked.frame (by decide) (onlyChanges_dropHold _ t n)).attend _ _).tellChange .spiked n _

theorem State.agrees.holdStory (hfiled : st.state = .filed) (t : Nat) (q : RequestKind) :
    (s.holdStory t n q).agrees e w none := by
  rw [holdStory_of_live hst]
  have hheld := h.putLive (st' := { st with state := .held, holder := some t, nudgeDue := none }) hst rfl
    (fun _ => nofun) fun _ hset => by rw [hfiled] at hset; cases hset
  exact ((hheld.putTerminal t _).offer _).tellChange .held n _

/-- A held story is released in place (R18). -/
theorem State.agrees.releaseInPlace (hheld : st.state = .held) : (s.releaseInPlace n).agrees e w none := by
  rw [releaseInPlace_eq_putStory hst]
  exact h.putLive hst rfl (fun _ => nofun) fun _ hset => by rw [hheld] at hset; cases hset

theorem State.agrees.takeReturn (hheld : st.state = .held) (t : Nat) :
    (s.takeReturn t n).agrees e w none :=
  (((h.releaseInPlace hst hheld).frame (by decide) (onlyChanges_dropHold _ t n)).frame (by decide)
    (onlyChanges_done _ t .returnStory n false)).tellChange .released n (.terminal t)

/-- A reminder expires (R50, R52): the story keeps its page and its state. -/
theorem State.agrees.nudge : (s.nudge n).agrees e w none := by
  have hlive : (s.remind n st).story? n = some st :=
    ((onlyChanges_remind s n st).storyAt (by decide) n).trans hst
  have hreminded : (s.remind n st).agrees e w none := h.frame (by decide) (onlyChanges_remind s n st)
  have hspiked := h.stand.unspiked hst
  rw [nudge_of_live hst]
  split
  · exact (hreminded.putLive (st' := st.overdueNow) hlive rfl hspiked fun _ => id).offer _
  · exact hreminded.putLive (st' := st.remindedUntil (s.nextReminder st)) hlive rfl hspiked fun _ => id

end

/-! ### Darkness (R90) -/

/-- The held stories of a terminal that goes DARK are released one by one. -/
theorem agrees_releaseAll {c : CopyCause} {t : Nat} {l : List Nat} (hl : l.Nodup)
    (hheld : ∀ n ∈ l, ∃ st, s.story? n = some st ∧ st.state = .held) :
    (l.foldl (State.releaseHeld c t) s).agrees e w none := by
  induction l generalizing s with
  | nil => exact h
  | cons n rest ih =>
    obtain ⟨hn, hrest⟩ := List.nodup_cons.1 hl
    obtain ⟨st, hst, hstate⟩ := hheld n List.mem_cons_self
    refine ih (((h.releaseInPlace hst hstate).frame (by decide) (onlyChanges_dropHold _ t n)).tellChange
      .released n c) hrest fun m hm => ?_
    have hne : m ≠ n := fun heq => hn (heq ▸ hm)
    rw [storyAt_releaseHeld_of_ne hst hne]
    exact hheld m (List.mem_cons_of_mem _ hm)

theorem State.agrees.goDark (hs : s.standsBut none) (t : Nat) : (s.goDark t).agrees e w none := by
  obtain ⟨hnodup, hheld⟩ := held_of_mem_holds hs t
  have hreleased := agrees_releaseAll (s := s.putTerminal t (s.terminal t).darkened) (c := .darkness) (t := t)
    (h.putTerminal t (s.terminal t).darkened) hnodup hheld
  unfold State.goDark
  exact (hreleased.frame (by decide) (onlyChanges_discardFrames _ t _)).offer _

theorem State.agrees.countMiss (hs : s.standsBut none) {t : Nat} {r : Terminal} (fallback : Liveness)
    (hholds : r.holds = (s.terminal t).holds) (hconf : r.configured = (s.terminal t).configured)
    (hlive : r.liveness = (s.terminal t).liveness) : (s.countMiss t r fallback).agrees e w none := by
  unfold State.countMiss
  split
  · exact (h.putTerminal t r).goDark (hs.kept (moves_putTerminal_same hholds hconf hlive)) t
  · exact h.putTerminal t _

theorem State.agrees.miss (hs : s.standsBut none) (t : Nat) : (s.miss t).agrees e w none := by
  unfold State.miss
  dsimp only
  split
  case h_1 => exact h
  case h_2 => exact h.countMiss hs _ rfl rfl rfl
  case h_3 => exact h.countMiss hs _ rfl rfl rfl
  case h_4 => exact h.countMiss hs _ rfl rfl rfl
  case h_5 => exact h

/-! ### RUN and IDLE (R54, R186, R187) -/

omit h in
/-- Every story is rewritten, none of them moved, SPIKED or taken out of SET. -/
theorem State.agrees.mapStories {ending : Option Nat} (h : s.agrees e w ending) {t : State} {g : Story → Story}
    (hg : ∀ st, (g st).page = st.page ∧ ((g st).state = .spiked → st.state = .spiked) ∧
      (st.state = .set → (g st).state = .set))
    (hstory : ∀ n, t.story? n = (s.story? n).map g) (hpages : t.pages = s.pages)
    (heditions : t.editions = s.editions) (hfirst : t.typesetter.firstTier = s.typesetter.firstTier)
    (hreplate : t.typesetter.replateTier = s.typesetter.replateTier)
    (hsend : t.typesetter.send.map Send.page = s.typesetter.send.map Send.page) : t.agrees e w ending := by
  refine h.elsewhere hpages (editionsAlike_of_eq fun d => congrArg (Table.get Edition.initial · d) heditions)
    ⟨fun n st k _ hst hplace => ?_, fun n st k _ hst hplace => ?_⟩ hfirst hreplate hsend
  · obtain ⟨hpage, hspiked, hset⟩ := hg st
    exact ⟨g st, by rw [hstory, hst, Option.map_some], hpage.trans hplace,
      fun hnot hstate => hnot (hspiked hstate), hset⟩
  · rw [hstory] at hst
    obtain ⟨st', hst', rfl⟩ := Option.map_eq_some_iff.1 hst
    exact ⟨st', hst', (hg st').1.symm.trans hplace⟩

theorem State.agrees.takeRun : s.takeRun.agrees e w none := by
  refine State.agrees.startTest (h.mapStories (g := fun st =>
    if st.waits ∧ st.overdue = false then { st with nudgeDue := some (s.nudgeDueFor st) } else st)
    (fun st => ?_) (fun n => storyAt_nudgeResume n) rfl rfl rfl rfl rfl)
  split
  · exact ⟨rfl, id, id⟩
  · exact ⟨rfl, id, id⟩

theorem State.agrees.takeIdle : s.takeIdle.agrees e w none :=
  h.mapStories (g := fun st => { st with nudgeDue := none }) (fun _ => ⟨rfl, id, id⟩)
    (fun n => storyAt_nudgeStop n) rfl rfl rfl rfl rfl

/-! ### The store-silence timer (R177, R188, R189) -/

theorem State.agrees.hearFrame : s.hearFrame.agrees e w none := by
  unfold State.hearFrame State.endStoreLost
  split
  · refine State.agrees.startTest (State.agrees.frame ?_ (by decide) (onlyChanges_attendAll _ _ _))
    exact h.tables rfl rfl rfl rfl
  · exact h.tables rfl rfl rfl rfl

theorem State.agrees.enterStoreLost : s.enterStoreLost.agrees e w none := by
  refine State.agrees.abandon (State.agrees.frame (State.agrees.frame ?_ (by decide) (onlyChanges_attendAll _ _ _))
    (by decide) (onlyChanges_discardOpenFrames _)) _
  exact h.tables rfl rfl rfl rfl

/-! ### Restarts (R20, R171, R172, R191) -/

theorem State.agrees.restartLines : s.restartLines.agrees e w none :=
  State.agrees.tsLine (h.frame (by decide)
    (State.onlyChanges.foldl _ (fun s l => onlyChanges_beginCycle s l 0) allLines s))

omit h in
theorem State.agrees.relink {ending : Option Nat} (h : s.agrees e w ending) (cause : RestartCause) :
    (s.relink cause).agrees e w ending := by
  unfold State.relink
  refine State.agrees.offer ?_ _
  exact h.tables rfl rfl rfl rfl

omit h in
theorem agrees_reset : State.reset.agrees e w none :=
  ⟨pagesStand_reset, fun _ => (editionsStand_iff _).1 editionsStand_reset, fun _ _ _ _ _ hp => by cases hp⟩

omit h in
theorem agrees_coldRestart (s : State) (cause : RestartCause) : (s.coldRestart cause).agrees e w none := by
  unfold State.coldRestart
  refine State.agrees.restartLines (State.agrees.relink ?_ cause)
  exact agrees_reset.mapStories (g := id) (fun _ => ⟨rfl, id, id⟩) (fun _ => Option.map_id_apply.symm)
    rfl rfl rfl rfl rfl

omit h in
/-- A warm restart files the held stories (R20). -/
theorem Story.afterWarm_keeps (st : Story) : st.afterWarm.page = st.page ∧
    (st.afterWarm.state = .spiked → st.state = .spiked) ∧ (st.state = .set → st.afterWarm.state = .set) := by
  by_cases hheld : st.state = .held <;> simp [Story.afterWarm, hheld]

omit h in
/-- The blocks a warm restart rewrites, given the state after the abandon of the page it finds SENDING. -/
theorem agrees_warmBlocks {ending : Option Nat} (h : (s.abandonSend .restart).agrees e w ending) :
    s.warmBlocks.agrees e w ending :=
  h.mapStories Story.afterWarm_keeps
    (fun n => (storyAt_warmBlocks n).trans
      (congrArg (Option.map _) ((onlyChanges_abandonSend s .restart).storyAt (by decide) n)).symm)
    rfl rfl rfl rfl (by rw [send_abandonSend]; rfl)

/-- A page that was SENDING is ARMED again or READY, and a pending seal of its edition follows (R153, R191). -/
theorem State.agrees.warmRestart : s.warmRestart.agrees e w none := by
  unfold State.warmRestart
  refine State.agrees.restartLines ?_
  cases hx : s.typesetter.send with
  | some x =>
    exact ((agrees_warmBlocks (h.abandonSend hx .restart)).relink _).afterSend rfl
  | none =>
    have hidle : s.abandonSend .restart = s := by
      unfold State.abandonSend
      rw [hx]
    exact (agrees_warmBlocks (hidle.symm ▸ h)).relink _

theorem State.agrees.orderedRestart (k : RestartKind) : (s.orderedRestart k).agrees e w none := by
  cases k with
  | full => exact agrees_coldRestart s .fullOrder
  | warm => exact h.warmRestart

end

end Sys2Proof.Machine
end

section
/-! SUPPORT. Every command, and so every step, keeps pages, stories, editions and the typesetter queue in agreement
(R3, R4, R126, R128, R136, R142, R146, R149, R155, R158). -/

namespace Sys2Proof.Machine

/-! ### Judging -/

/-- Whatever state a meaning answers, the page unit's invariants hold there. -/
def Answer.agreed (e w : Prop) (a : Answer) : Prop := ∀ t, a = .next t → t.agrees e w none

section
variable {e w : Prop}

theorem agreed_next {t : State} (h : t.agrees e w none) : Answer.agreed e w (.next t) := by
  rintro _ ⟨⟩
  exact h

theorem page_of_not_free {s : State} {r : Nat} (h : s.pageFree r = false) : s.page? r = some (s.page r) := by
  rw [← Bool.not_eq_true, pageFree_iff] at h
  obtain ⟨p, hp⟩ := Option.ne_none_iff_exists'.1 h
  rw [page_of_made hp, hp]

theorem editionInside {d : Nat} (h : editionOutside d = false) : 1 ≤ d ∧ d ≤ 8 := by
  rw [← Bool.not_eq_true, editionOutside_iff] at h
  omega

section
variable {s : State} (h : s.agrees e w none)
include h

theorem State.agrees.judge {kind : Byte} {ident : Option Nat} {checks : List (Bool × Code)} {taken : State}
    (htaken : firstRefusal checks = none → taken.agrees e w none) :
    (s.judge kind ident checks taken).agrees e w none := by
  unfold State.judge
  split
  · exact h.refuseOrder _ _ _
  · exact htaken ‹_›

theorem State.agrees.judgeRequest {t : Nat} {q : RequestKind} {known full : Option Nat}
    {checks : List (Bool × Code)} {taken : State}
    (htaken : firstRefusal checks = none → taken.agrees e w none) :
    (s.judgeRequest t q known full checks taken).agrees e w none := by
  unfold State.judgeRequest
  split
  · exact h.attend _ _
  · exact htaken ‹_›

theorem State.agrees.failFrame (kind : Byte) (code : Code) : (s.failFrame kind code).agrees e w none := by
  refine State.agrees.refuseOrder ?_ _ _ _
  exact h.tables rfl rfl rfl rfl

theorem State.agrees.takeFrame (kind : Byte) (body : List Byte) {judge : State → State}
    (hjudge : ∀ u : State, u.agrees e w none → (judge u).agrees e w none) :
    (s.takeFrame kind body judge).agrees e w none := by
  unfold State.takeFrame
  split
  · exact h.failFrame kind .framing
  · split
    · exact h.hearFrame
    · exact hjudge _ h.hearFrame

/-- An order keeps the invariants when its judging of a body that has been read does. -/
theorem agreed_order {α : Type} {kind : Byte} {body : List Byte} {ident : Option Nat} {fields : Option α}
    {judge : State → α → State} (hjudge : ∀ (u : State) (x : α), u.agrees e w none → (judge u x).agrees e w none) :
    Answer.agreed e w (.next (s.takeFrame kind body fun u => u.readBody kind ident fields (judge u))) := by
  refine agreed_next (h.takeFrame kind body fun u hu => ?_)
  unfold State.readBody
  split
  · exact hu.refuseOrder _ _ _
  · exact hjudge u _ hu

section
variable (hs : s.standsBut none)
include hs

/-- The content of an answer is acted on after the liveness update, and the line turn follows (R85, R87). -/
theorem agreed_answer (l : LineId) (drop size : Nat) {content : State → State}
    (hcontent : ∀ u : State, u.agrees e w none → u.standsBut none → (content u).agrees e w none) :
    Answer.agreed e w (.next (s.takeAnswer l drop size content)) := by
  have hupdated := h.frame (by decide) (onlyChanges_answerLiveness s (terminalOf l drop))
  refine agreed_next ?_
  unfold State.takeAnswer
  split
  case h_1 =>
    split
    · exact (h.miss hs _).lineTurn l
    · split
      · refine State.agrees.lineTurn ?_ l
        unfold State.applyAnswer
        dsimp only
        split
        · exact hcontent _ hupdated (hs.kept (moves_answerLiveness s _))
        · exact hupdated
      · exact h
  all_goals exact h

theorem agreed_request {α : Type} {l : LineId} {drop : Nat} {q : RequestKind} {args : List Byte}
    {read : List Byte → Option α} {judge : State → Nat → α → State}
    (hjudge : ∀ (u : State) (x : α), u.agrees e w none → u.standsBut none →
      (judge u (terminalOf l drop) x).agrees e w none) :
    Answer.agreed e w (.next (s.takeRequest l drop q args read judge)) := by
  refine agreed_answer h hs l drop _ fun u hu hus => ?_
  split
  · exact hu.attend _ _
  · exact hjudge u _ hu hus

end

/-! ### Orders -/

section
variable (b : List Byte)

theorem agreed_restart : Answer.agreed e w (execRestart b s) := by
  refine agreed_order h fun u _ hu => ?_
  split
  · exact hu.refuseOrder _ _ _
  · unfold State.takeRestart
    split
    · exact hu.orderedRestart _
    · exact hu.tables rfl rfl rfl rfl

theorem agreed_loadDesk : Answer.agreed e w (execLoadDesk b s) := by
  refine agreed_order h fun u x hu => hu.judge fun _ => ?_
  have hwritten : ∀ r : Desk, (u.putDesk x.desk r).agrees e w none := fun _ => hu.tables rfl rfl rfl rfl
  exact (hwritten _).frame (by decide) (onlyChanges_deskTurns _ _ _ _)

theorem agreed_read : Answer.agreed e w (execRead b s) := by
  refine agreed_order h fun u _ hu => ?_
  unfold State.judgeRead
  split
  · exact hu.refuseOrder _ _ _
  · exact hu.frame (by decide) (onlyChanges_answerStatus u)
  · exact hu.judge fun _ => hu.offer _

/-- A story is announced under the lowest free number (R7). -/
theorem agreed_announce : Answer.agreed e w (execAnnounce b s) := by
  refine agreed_order h fun u x hu => hu.judge fun _ => ?_
  unfold State.takeAnnounce
  split
  · exact hu
  · exact hu.createStory (lowestFree_free ‹_›) _ _ _ _

theorem agreed_revise : Answer.agreed e w (execRevise b s) :=
  agreed_order h fun _ _ hu => hu.judge fun hchecks => by
    simp only [firstRefusal_cons, isFree_eq_false] at hchecks
    obtain ⟨-, hlive, -⟩ := hchecks
    exact hu.takeRevise hlive _

/-- A story is purged when it is on no page (R11). -/
theorem agreed_purge : Answer.agreed e w (execPurge b s) :=
  agreed_order h fun _ _ hu => hu.judge fun hchecks => by
    simp only [State.purgeChecks, firstRefusal_cons, Option.isSome_eq_false_iff, Option.isNone_iff_eq_none] at hchecks
    obtain ⟨-, -, -, hplace, -⟩ := hchecks
    exact hu.takePurge hplace

/-- A story that is SET is not moved (R9). -/
theorem agreed_move : Answer.agreed e w (execMove b s) :=
  agreed_order h fun _ _ hu => hu.judge fun hchecks => by
    simp only [State.moveChecks, firstRefusal_cons, isFree_eq_false, Bool.or_eq_false_iff,
      beq_eq_false_iff_ne] at hchecks
    obtain ⟨-, hlive, -, ⟨hset, -⟩, -⟩ := hchecks
    exact hu.takeMove hlive hset _ _

/-- A story on a page SENDING is not pulled (R10). -/
theorem agreed_pull : Answer.agreed e w (execPull b s) :=
  agreed_order h fun _ _ hu => hu.judge fun hchecks => by
    simp only [State.pullChecks, firstRefusal_cons, isFree_eq_false] at hchecks
    obtain ⟨-, hlive, -, -, hfree, -⟩ := hchecks
    exact hu.takePull hlive hfree _ _ _

/-- An edition is planned where there is none, or where one is SEALED (R127). -/
theorem agreed_planEdition : Answer.agreed e w (execPlanEdition b s) :=
  agreed_order h fun _ _ hu => hu.judge fun hchecks => by
    simp only [State.planChecks, firstRefusal_cons, Bool.not_eq_false', Bool.or_eq_true, beq_iff_eq] at hchecks
    obtain ⟨hrange, hdead, -⟩ := hchecks
    exact hu.planEdition (editionInside hrange) hdead _ _ _

theorem agreed_startEdition : Answer.agreed e w (execStartEdition b s) :=
  agreed_order h fun _ _ hu => hu.judge fun hchecks => by
    simp only [State.startChecks, firstRefusal_cons, Bool.not_eq_false', beq_iff_eq] at hchecks
    obtain ⟨hrange, hplanned, hnone, -⟩ := hchecks
    exact hu.takeStart (editionInside hrange) hplanned hnone

theorem agreed_closeEdition : Answer.agreed e w (execCloseEdition b s) :=
  agreed_order h fun _ _ hu => hu.judge fun hchecks => by
    simp only [State.closeChecks, firstRefusal_cons, Bool.not_eq_false', beq_iff_eq] at hchecks
    obtain ⟨hrange, hrunning, -⟩ := hchecks
    exact hu.takeClose (editionInside hrange) hrunning

theorem agreed_sealEdition : Answer.agreed e w (execSealEdition b s) :=
  agreed_order h fun _ _ hu => hu.judge fun hchecks => by
    simp only [State.sealChecks, firstRefusal_cons] at hchecks
    obtain ⟨hrange, -, hidle, -⟩ := hchecks
    exact hu.takeSeal (editionInside hrange) hidle

theorem agreed_lift : Answer.agreed e w (execLift b s) :=
  agreed_order h fun _ _ hu => hu.judge fun hchecks => by
    simp only [State.liftChecks, firstRefusal_cons] at hchecks
    obtain ⟨-, -, -, hfree, -⟩ := hchecks
    exact hu.takeLift hfree

/-- An OPEN page is released (R141). -/
theorem agreed_release : Answer.agreed e w (execRelease b s) :=
  agreed_order h fun _ _ hu => hu.judge fun hchecks => by
    simp only [State.releaseChecks, firstRefusal_cons, Bool.not_eq_false', beq_iff_eq] at hchecks
    obtain ⟨-, hmade, hopen, -⟩ := hchecks
    exact hu.takeRelease (page_of_not_free hmade) hopen

/-- A page that is SENT or STALE is replated (R147). -/
theorem agreed_replate : Answer.agreed e w (execReplate b s) :=
  agreed_order h fun _ _ hu => hu.judge fun hchecks => by
    simp only [State.replateChecks, firstRefusal_cons, Bool.not_eq_false', gone_iff] at hchecks
    obtain ⟨-, hmade, -, hgone, -⟩ := hchecks
    exact hu.takeReplate (page_of_not_free hmade) hgone

/-- A page that is neither QUEUED nor SENDING is dropped (R138). -/
theorem agreed_dropPage : Answer.agreed e w (execDropPage b s) :=
  agreed_order h fun _ _ hu => hu.judge fun hchecks => by
    simp only [State.dropPageChecks, firstRefusal_cons] at hchecks
    obtain ⟨-, hmade, hbusy, -⟩ := hchecks
    rw [← Bool.not_eq_true, busy_iff, not_or] at hbusy
    exact hu.takeDropPage (page_of_not_free hmade) hbusy.1 hbusy.2

theorem agreed_typesetMode : Answer.agreed e w (execTypesetMode b s) := by
  refine agreed_order h fun u _ hu => ?_
  split
  · exact hu.refuseOrder _ _ _
  · exact (hu.setMode _).startTest

end

/-! ### Events -/

theorem agreed_fullRestart : Answer.agreed e w (execFullRestart s) := by
  refine agreed_next ?_
  split
  · exact h.orderedRestart _
  · exact h

theorem agreed_warmRestart : Answer.agreed e w (execWarmRestart s) := by
  refine agreed_next ?_
  split
  · exact h.orderedRestart _
  · exact h

theorem agreed_noticeFrameEnd : Answer.agreed e w (execNoticeFrameEnd s) := by
  refine agreed_next ?_
  split
  · exact h
  · split
    · exact h.orderedRestart _
    · have hended : ({ s with sending := none } : State).agrees e w none := h.tables rfl rfl rfl rfl
      exact hended.frame (by decide) (onlyChanges_startNotice _)

theorem agreed_pageCallOwedOffered : Answer.agreed e w (execPageCallOwedOffered s) := by
  refine agreed_next ?_
  split
  · exact h
  · split
    · exact h.offerCall
    · exact h

theorem agreed_storeSilenceExpiry : Answer.agreed e w (execStoreSilenceExpiry s) := by
  refine agreed_next ?_
  split
  · exact h
  · exact (h.reach _).enterStoreLost

theorem agreed_samplePeriod : Answer.agreed e w (execSamplePeriod s) := by
  refine agreed_next ?_
  split
  · exact h
  · rename_i due _
    have hagain : ({ s.reach due with
        sampleTimer := some ((s.reach due).after s.timing.samplePeriod) } : State).agrees e w none :=
      (h.reach due).tables rfl rfl rfl rfl
    exact (hagain.frame (by decide) (State.onlyChanges.foldl _ onlyChanges_periodAtDesk _ _)).frame (by decide)
      (onlyChanges_stream _)

theorem agreed_dataTimerExpiry : Answer.agreed e w (execDataTimerExpiry s) := by
  refine agreed_next ?_
  split
  · exact h
  · exact (h.reach _).abandon _

theorem agreed_waitTimerExpiry : Answer.agreed e w (execWaitTimerExpiry s) := by
  refine agreed_next ?_
  split
  · exact h
  · exact (h.reach _).stall

/-- A reminder that expires is one of a live story (R45, R50). -/
theorem agreed_nudgeExpiry (n : Nat) : Answer.agreed e w (execNudgeExpiry n s) := by
  refine agreed_next ?_
  split
  · exact h
  · rename_i due hdue
    have hlive : s.story? n ≠ none := fun hfree => by
      rw [nudgeDue_eq_none (.inr (.inr hfree))] at hdue
      cases hdue
    exact (h.reach due).nudge (s := s.reach due) (live_of_not_free hlive)

section
variable (l : LineId)

theorem agreed_pollFrameSent : Answer.agreed e w (execPollFrameSent l s) := by
  refine agreed_next ?_
  split
  · exact h.frame (by decide) (onlyChanges_putLine _ _ _)
  all_goals exact h

theorem agreed_idleWaitExpiry : Answer.agreed e w (execIdleWaitExpiry l s) := by
  refine agreed_next ?_
  split
  · exact (h.reach _).lineTurn l
  all_goals exact h

theorem agreed_outputFrameEnd : Answer.agreed e w (execOutputFrameEnd l s) := by
  refine agreed_next ?_
  split
  · refine State.agrees.lineTurn ?_ l
    exact h.tables rfl rfl rfl rfl
  all_goals exact h

variable (hs : s.standsBut none)
include hs

theorem agreed_badAnswerFrame : Answer.agreed e w (execBadAnswerFrame l s) := by
  refine agreed_next ?_
  split
  · exact (h.miss hs _).lineTurn l
  all_goals exact h

theorem agreed_pollWindowExpiry : Answer.agreed e w (execPollWindowExpiry l s) := by
  refine agreed_next ?_
  split
  · exact ((h.reach _).miss (hs.kept (moves_reach s _)) _).lineTurn l
  all_goals exact h

/-! ### Requests -/

variable (drop : Nat) (args : List Byte)

/-- A story that is FILED is checked out (R32). -/
theorem agreed_get : Answer.agreed e w (execGet l drop args s) := by
  refine agreed_request h hs fun u named hu _ => hu.judgeRequest fun hchecks => ?_
  simp only [State.getChecks, firstRefusal_append, firstRefusal_cons, Bool.or_eq_false_iff,
    beq_eq_false_iff_ne] at hchecks
  obtain ⟨hrequest, ⟨hset, hspiked⟩, hheld, -⟩ := hchecks
  exact hu.holdStory (live_of_requestChecks hrequest) (filed_of_ne hheld hset hspiked) _ _

theorem agreed_getNext : Answer.agreed e w (execGetNext l drop args s) := by
  refine agreed_request h hs fun u _ hu hus => hu.judgeRequest fun hchecks => ?_
  simp only [State.getNextChecks, firstRefusal_cons] at hchecks
  obtain ⟨-, -, -, hsome, -⟩ := hchecks
  cases hnext : u.nextUnheld (terminalOf l drop) with
  | none => rw [hnext] at hsome; cases hsome
  | some n =>
    obtain ⟨hst, hfiled⟩ := nextUnheld_filed hus hnext
    exact hu.holdStory hst hfiled _ _

/-- A story that is sent is held, so not SET (R34). -/
theorem agreed_send : Answer.agreed e w (execSend l drop args s) := by
  refine agreed_request h hs fun u x hu _ => hu.judgeRequest fun hchecks => ?_
  simp only [State.sendChecks, firstRefusal_append, firstRefusal_cons, Bool.not_eq_false', heldBy_iff] at hchecks
  obtain ⟨hrequest, -, ⟨hheld, -⟩, -⟩ := hchecks
  exact hu.takeSend (live_of_requestChecks hrequest) (by simp [hheld]) _ _ _ _

theorem agreed_returnStory : Answer.agreed e w (execReturn l drop args s) := by
  refine agreed_request h hs fun u named hu _ => hu.judgeRequest fun hchecks => ?_
  simp only [State.returnChecks, firstRefusal_append, firstRefusal_cons, Bool.not_eq_false', heldBy_iff] at hchecks
  obtain ⟨hrequest, ⟨hheld, -⟩, -⟩ := hchecks
  exact hu.takeReturn (live_of_requestChecks hrequest) hheld _

/-- A story on a page is not spiked (R42). -/
theorem agreed_spike : Answer.agreed e w (execSpike l drop args s) := by
  refine agreed_request h hs fun u named hu _ => hu.judgeRequest fun hchecks => ?_
  simp only [State.spikeChecks, firstRefusal_append, firstRefusal_cons, Option.isSome_eq_false_iff,
    Option.isNone_iff_eq_none] at hchecks
  obtain ⟨hrequest, hplace, -⟩ := hchecks
  exact hu.takeSpike (live_of_requestChecks hrequest) hplace _

theorem agreed_pullRequest : Answer.agreed e w (execPullRequest l drop args s) := by
  refine agreed_request h hs fun u x hu _ => hu.judgeRequest fun hchecks => ?_
  simp only [State.pullRequestChecks, firstRefusal_append, firstRefusal_cons] at hchecks
  obtain ⟨hrequest, -, -, -, hfree, -⟩ := hchecks
  exact (hu.takePull (live_of_requestChecks hrequest) hfree _ _ _).frame (by decide) (onlyChanges_done _ _ _ _ _)

end

/-! ### Every command, and every step -/

/-- Every command keeps the page unit's invariants. -/
theorem agreed_exec (hs : s.standsBut none) (c : Instr) : Answer.agreed e w (exec c s) := by
  cases c with
  | idle b => exact agreed_order h fun _ _ hu => hu.judge fun _ => hu.takeIdle
  | run b => exact agreed_order h fun _ _ hu => hu.judge fun _ => hu.takeRun
  | restart b => exact agreed_restart h b
  | ackRestart b => exact agreed_order h fun _ _ hu => hu.tables rfl rfl rfl rfl
  | loadDesk b => exact agreed_loadDesk h b
  | loadRoute b => exact agreed_order h fun _ _ hu => hu.judge fun _ => hu.tables rfl rfl rfl rfl
  | loadDiversion b => exact agreed_order h fun _ _ hu => hu.judge fun _ => hu.tables rfl rfl rfl rfl
  | loadTerminal b =>
    exact agreed_order h fun u x hu => hu.judge fun _ => hu.frame (by decide) (onlyChanges_takeLoadTerminal u x)
  | setPressure b => exact agreed_order h fun _ _ hu => hu.judge fun _ => hu.tables rfl rfl rfl rfl
  | reseed b =>
    exact agreed_order h fun u x hu => hu.judge fun _ => hu.frame (by decide) (onlyChanges_takeReseed u x.toNat)
  | setTiming b => exact agreed_order h fun _ _ hu => hu.tables rfl rfl rfl rfl
  | setReporting b => exact agreed_order h fun _ _ hu => hu.tables rfl rfl rfl rfl
  | read b => exact agreed_read h b
  | readStatus b => exact agreed_order h fun u _ hu => hu.frame (by decide) (onlyChanges_answerStatus u)
  | announce b => exact agreed_announce h b
  | revise b => exact agreed_revise h b
  | purge b => exact agreed_purge h b
  | move b => exact agreed_move h b
  | pull b => exact agreed_pull h b
  | screen b | screenContinuation b =>
    exact agreed_order h fun u x hu => hu.judge fun _ => hu.frame (by decide) (onlyChanges_takeScreen u x)
  | planEdition b => exact agreed_planEdition h b
  | startEdition b => exact agreed_startEdition h b
  | closeEdition b => exact agreed_closeEdition h b
  | sealEdition b => exact agreed_sealEdition h b
  | makePage b => exact agreed_order h fun _ _ hu => hu.judge hu.takeMakePage
  | place b => exact agreed_order h fun _ _ hu => hu.judge hu.takePlace
  | lift b => exact agreed_lift h b
  | release b => exact agreed_release h b
  | replate b => exact agreed_replate h b
  | dropPage b => exact agreed_dropPage h b
  | typesetMode b => exact agreed_typesetMode h b
  | abortSend b => exact agreed_order h fun _ _ hu => (hu.setMode .hold).abandon .abort
  | pageData b => exact agreed_order h fun _ x hu => hu.judge fun _ => hu.takePageData x
  | unknownOrder k b => exact agreed_next (h.takeFrame k b fun _ hu => hu.refuseOrder _ _ _)
  | frameLengthOver k => exact agreed_next (h.failFrame k .framing)
  | frameBadCheck k => exact agreed_next (h.failFrame k .check)
  | powerOn | rstinRelease => exact agreed_next (agrees_coldRestart s _)
  | fullRestart => exact agreed_fullRestart h
  | warmRestart => exact agreed_warmRestart h
  | noticeFrameEnd => exact agreed_noticeFrameEnd h
  | pageCallOwedOffered => exact agreed_pageCallOwedOffered h
  | storeSilenceExpiry => exact agreed_storeSilenceExpiry h
  | pollFrameSent l => exact agreed_pollFrameSent h l
  | nil l d k b => exact agreed_answer h hs l d _ fun _ hu _ => hu
  | keys l d b => exact agreed_answer h hs l d _ fun u hu _ => hu.frame (by decide) (onlyChanges_takeKeys u _ b)
  | get l d a => exact agreed_get h l hs d a
  | getNext l d a => exact agreed_getNext h l hs d a
  | send l d a => exact agreed_send h l hs d a
  | returnStory l d a => exact agreed_returnStory h l hs d a
  | spike l d a => exact agreed_spike h l hs d a
  | pullRequest l d a => exact agreed_pullRequest h l hs d a
  | view l d a =>
    exact agreed_request h hs fun u _ hu _ => hu.judgeRequest fun _ =>
      (hu.frame (by decide) (onlyChanges_pushView u _ _)).offer _
  | back l d a =>
    exact agreed_request h hs fun u _ hu _ => hu.judgeRequest fun _ => hu.frame (by decide) (onlyChanges_takeBack u _)
  | list l d a =>
    exact agreed_request h hs fun u _ hu _ => hu.judgeRequest fun _ =>
      hu.frame (by decide) (onlyChanges_appendFrame u _ _)
  | watch l d a =>
    exact agreed_request h hs fun u _ hu _ => hu.judgeRequest fun _ =>
      hu.frame (by decide) (onlyChanges_takeWatch u _ _)
  | unwatch l d a =>
    exact agreed_request h hs fun u _ hu _ => hu.judgeRequest fun _ =>
      hu.frame (by decide) (onlyChanges_takeUnwatch u _ _)
  | badAnswerFrame l => exact agreed_badAnswerFrame h l hs
  | pollWindowExpiry l => exact agreed_pollWindowExpiry h l hs
  | idleWaitExpiry l => exact agreed_idleWaitExpiry h l
  | outputFrameEnd l => exact agreed_outputFrameEnd h l
  | nudgeExpiry n => exact agreed_nudgeExpiry h n
  | samplePeriod => exact agreed_samplePeriod h
  | tsrdyAsserted =>
    have hready : (s.setReady true).agrees e w none := h.tables rfl rfl rfl rfl
    exact agreed_next hready.tsProceed
  | galleyBlockEnd r => exact agreed_next (h.endBlock r)
  | dataTimerExpiry => exact agreed_dataTimerExpiry h
  | waitTimerExpiry => exact agreed_waitTimerExpiry h
  | unknownRequest l d b =>
    exact agreed_answer h hs l d _ fun u hu _ => hu.frame (by decide) (onlyChanges_refuseUnknown u _ b)

end

end

/-- Settles O56: an idle step touches none of it, and every command keeps the pages, and with them what it finds of
the editions and of the sections. -/
theorem pagesStandWhereTheirRecordsSay : Obligations.PagesStandWhereTheirRecordsSay := by
  unfold Obligations.PagesStandWhereTheirRecordsSay
  intro s t h hs hstep
  rw [storiesStand_iff] at hs
  have hfound : s.agrees s.editionsStand s.sectionsWhole none := ⟨h, fun he => (editionsStand_iff s).1 he, id⟩
  have hleft : t.agrees s.editionsStand s.sectionsWhole none := by
    unfold step at hstep
    split at hstep
    · cases hstep
      exact hfound.frame (by decide) (onlyChanges_idleStep s)
    · rename_i c rest _
      have hrest : ({ s with pending := rest } : State).standsBut none := hs.kept (moves_of_tables [] rfl rfl rfl)
      exact agreed_exec (s := { s with pending := rest }) (hfound.tables rfl rfl rfl rfl) hrest c t hstep
  exact ⟨hleft.stand, fun he => (editionsStand_iff t).2 (hleft.editions he), hleft.sections⟩

end Sys2Proof.Machine
end

section
/-! SUPPORT. What a change of a placed story does to its page (R143, R144, R145, R146): the joins and the start test
move READY and QUEUED pages only, and no page joins beside an ARMED one. -/

namespace Sys2Proof.Machine

/-! ### What the joins and the start test leave of a page -/

section
variable {s : State}

theorem onlyChanges_callDue_call (s : State) : s.onlyChanges ([.typesetter] ++ noticeFields) s.callDue := by
  have hput : ∀ (u : State) (x : Send), u.onlyChanges ([.typesetter] ++ noticeFields) (u.putSend x) := fun u x =>
    (onlyChanges_putSend u x).mono (by decide)
  have hcall : s.onlyChanges ([.typesetter] ++ noticeFields) s.offerCall := by
    unfold State.offerCall
    split
    · exact State.onlyChanges.refl _ s
    · split
      · exact ((onlyChanges_offer _ _).mono (by decide)).trans (hput _ _)
      · exact hput _ _
  unfold State.callDue
  split
  · exact State.onlyChanges.refl _ s
  · split
    · exact hcall
    · exact State.onlyChanges.refl _ s

/-- The start test starts one QUEUED page, or does nothing (R156). -/
theorem startTest_starts (hs : s.pagesStand) :
    s.startTest = s ∨ ∃ r p, s.page? r = some p ∧ p.state = .queued ∧
      s.rewrites s.startTest r (some (p.inState .sending)) ∧ s.editionsAlike s.startTest := by
  unfold State.startTest
  split
  · exact .inl rfl
  · rename_i r hr
    split
    · obtain ⟨p, hp, hqueued⟩ := queued_of_tiers hs (mem_of_head hr)
      have hcall := onlyChanges_callDue_call
        (((s.dequeue r).putSend (Send.initial r)).movePage r (p.inState .sending) .typesetter)
      have halike : s.editionsAlike
          (((s.dequeue r).putSend (Send.initial r)).movePage r (p.inState .sending) .typesetter) :=
        editionsAlike_movePage ((s.dequeue r).putSend (Send.initial r)) r _ _
      refine .inr ⟨r, p, hp, hqueued, fun k => ?_, ?_⟩
      · rw [State.startSend, page_of_made hp]
        exact (hcall.pageAt (by decide) k).trans (pageAt_movePage ..)
      · rw [State.startSend, page_of_made hp]
        exact halike.trans (editionsAlike_of_eq (hcall.editionAt (by decide)))
    · exact .inl rfl

theorem alike_startTest (hs : s.pagesStand) : s.editionsAlike s.startTest := by
  rcases startTest_starts hs with heq | ⟨-, -, -, -, -, halike⟩
  · exact editionsAlike_of_eq fun d => by rw [heq]
  · exact halike

theorem pageAt_startTest (hs : s.pagesStand) (k : Nat) :
    s.startTest.page? k = s.page? k ∨
      ∃ p, s.page? k = some p ∧ p.state = .queued ∧ s.startTest.page? k = some (p.inState .sending) := by
  rcases startTest_starts hs with heq | ⟨r, p, hp, hqueued, hstarted, -⟩
  · exact .inl (by rw [heq])
  · by_cases hk : k = r
    · subst hk
      exact .inr ⟨p, hp, hqueued, hstarted.self⟩
    · exact .inl (hstarted.other hk)

/-- A record that holds no QUEUED page is left as it was. -/
theorem pageAt_startTest_of_idle (hs : s.pagesStand) {k : Nat} (hidle : ∀ p, s.page? k = some p → p.state ≠ .queued) :
    s.startTest.page? k = s.page? k := by
  rcases pageAt_startTest hs k with hsame | ⟨p, hp, hqueued, -⟩
  · exact hsame
  · exact absurd hqueued (hidle p hp)

theorem alike_evaluateJoins (hs : s.pagesStand) : s.editionsAlike s.evaluateJoins := by
  obtain ⟨joined, passed, stopped, heval⟩ := evaluateJoins_evaluated hs
  exact heval.joins.alike

theorem pageAt_evaluateJoins (hs : s.pagesStand) (k : Nat) :
    s.evaluateJoins.page? k = s.page? k ∨
      ∃ p, s.page? k = some p ∧ p.state = .ready ∧ s.evaluateJoins.page? k = some (p.inState .queued) := by
  obtain ⟨joined, passed, stopped, heval⟩ := evaluateJoins_evaluated hs
  by_cases hk : k ∈ s.waitingReplates.take s.typesetter.free ++ s.readyOf joined
  · obtain ⟨p, hp, hready⟩ := heval.joins.made k hk
    exact .inr ⟨p, hp, hready, heval.joins.joined hp hk⟩
  · exact .inl (heval.joins.waiting hk)

/-- A record that holds no READY page is left as it was. -/
theorem pageAt_evaluateJoins_of_idle (hs : s.pagesStand) {k : Nat}
    (hidle : ∀ p, s.page? k = some p → p.state ≠ .ready) : s.evaluateJoins.page? k = s.page? k := by
  rcases pageAt_evaluateJoins hs k with hsame | ⟨p, hp, hready, -⟩
  · exact hsame
  · exact absurd hready (hidle p hp)

end

/-! ### A section without a FIRST-tier page QUEUED (R146) -/

/-- No FIRST-tier page of the section of page `p` is QUEUED. -/
def State.clearBeside (s : State) (p : Page) : Prop :=
  ∀ k q, s.page? k = some q → s.abreast p q → q.tier = .first → q.state ≠ .queued

section
variable {s : State} (hs : s.pagesStand) {r : Nat} {p : Page} (hp : s.page? r = some p)
include hs

theorem State.clearBeside.startTest (h : s.clearBeside p) : s.startTest.clearBeside p := by
  intro k q hq hab htier hqueued
  rw [(alike_startTest hs).abreast] at hab
  rcases pageAt_startTest hs k with hsame | ⟨o, -, -, hstarted⟩
  · exact h k q (hsame ▸ hq) hab htier hqueued
  · cases hstarted.symm.trans hq
    cases hqueued

include hp

theorem clearBeside_withdrawSection (hidle : p.state ≠ .queued) : (s.withdrawSection r).clearBeside p := by
  intro k q hq hab htier hqueued
  rw [(restates_withdrawSection hs hp).alike.abreast] at hab
  rw [pageAt_withdrawSection hs hp] at hq
  obtain ⟨o, ho, rfl⟩ := Option.map_eq_some_iff.1 hq
  split at hqueued
  · cases hqueued
  · rename_i hk
    rw [if_neg hk] at hab htier
    refine hk ((mem_others hs hp k).2 ⟨o, ho, ?_, hab.1, hab.2, hqueued, htier⟩)
    rintro rfl
    cases ho.symm.trans hp
    exact hidle hqueued

/-- No FIRST-tier page joins beside a page that is ARMED (R145). -/
theorem State.clearBeside.evaluateJoins (h : s.clearBeside p) (harmed : p.state = .armed) :
    s.evaluateJoins.clearBeside p := by
  obtain ⟨joined, passed, stopped, heval⟩ := evaluateJoins_evaluated hs
  intro k q hq hab htier hqueued
  rw [heval.joins.alike.abreast] at hab
  by_cases hk : k ∈ s.waitingReplates.take s.typesetter.free ++ s.readyOf joined
  · obtain ⟨o, ho, -⟩ := heval.joins.made k hk
    cases (heval.joins.joined ho hk).symm.trans hq
    rcases List.mem_append.1 hk with hwaits | hready
    · obtain ⟨o', ho', -, hreplate⟩ := (mem_waitingReplates hs k).1 (List.mem_of_mem_take hwaits)
      cases ho.symm.trans ho'
      cases hreplate.symm.trans htier
    · obtain ⟨i, hi, hmem⟩ := List.mem_flatMap.1 hready
      obtain ⟨o', ho', hin, -⟩ := (mem_sectionReady hs i.1 i.2 k).1 hmem
      cases ho.symm.trans ho'
      have hbeside : s.abreast o p := (show s.abreast p o from hab).symm
      exact ((heval.eligible i hi).unready hs ho hin hp hbeside).2 harmed
  · exact h k q (heval.joins.waiting hk ▸ hq) hab htier hqueued

end

/-! ### What the page of a story that is pulled becomes (R143) -/

/-- Page `p` at record `r` is ARMED and its section clear, or its CLOSED edition is SEALED. -/
def State.disarms (s t : State) (r : Nat) (p : Page) : Prop :=
  (s.editionsAlike t ∧ t.page? r = some (p.inState .armed) ∧ t.clearBeside (p.inState .armed)) ∨
    (t.page? r = none ∧ (s.edition p.edition).state = .closed ∧ (t.edition p.edition).state = .sealed)

section
variable {s t u : State} {r : Nat} {p : Page}

/-- What leaves the section clear and keeps ARMED pages, free records and the states of editions. -/
theorem State.disarms.after (h : s.disarms t r p) (halike : t.editionsAlike u)
    (hkept : (∀ q, t.page? r = some q → q.state = .armed) → u.page? r = t.page? r)
    (hclear : t.page? r = some (p.inState .armed) → t.clearBeside (p.inState .armed) →
      u.clearBeside (p.inState .armed)) : s.disarms u r p := by
  rcases h with ⟨hst, harmed, hbeside⟩ | ⟨hnone, hclosed, hsealed⟩
  · refine .inl ⟨hst.trans halike, (hkept fun q hq => ?_).trans harmed, hclear harmed hbeside⟩
    cases harmed.symm.trans hq
    rfl
  · refine .inr ⟨(hkept fun q hq => ?_).trans hnone, hclosed, (halike _).state.trans hsealed⟩
    rw [hnone] at hq
    cases hq

theorem State.disarms.evaluateJoins (h : s.disarms t r p) (ht : t.pagesStand) :
    s.disarms t.evaluateJoins r p :=
  h.after (alike_evaluateJoins ht)
    (fun hstate => pageAt_evaluateJoins_of_idle ht fun q hq => by rw [hstate q hq]; decide)
    fun hp hbeside => hbeside.evaluateJoins ht hp rfl

theorem State.disarms.startTest (h : s.disarms t r p) (ht : t.pagesStand) : s.disarms t.startTest r p :=
  h.after (alike_startTest ht)
    (fun hstate => pageAt_startTest_of_idle ht fun q hq => by rw [hstate q hq]; decide)
    fun _ hbeside => hbeside.startTest ht

/-- The seal test either keeps an ARMED page or frees it with the rest of its edition (R134). -/
theorem disarms_sealTest (hs : s.pagesStand) (hp : s.page? r = some p) (harmed : p.state = .armed)
    (hclear : s.clearBeside p) : s.disarms (s.sealTest p.edition) r p := by
  have hsame : p.inState .armed = p := by rw [← harmed]; rfl
  by_cases hseals : s.sealsItself p.edition = true
  · obtain ⟨hclosed, -⟩ := (sealsItself_iff hs.canonical p.edition).1 hseals
    refine .inr ⟨?_, hclosed, ?_⟩
    · rw [sealTest_of_seals hseals, pageAt_seal hs]
      exact if_pos ((isOf_iff ..).2 ⟨p, hp, rfl, by simp [harmed]⟩)
    · rw [sealTest_of_seals hseals, edition_seal hs, if_pos rfl]
  · rw [sealTest_of_not hseals]
    exact .inl ⟨editionsAlike_of_eq fun _ => rfl, hp.trans (congrArg some hsame.symm), hsame.symm ▸ hclear⟩

/-- Where the editions are as they were, what is said of an ARMED page after is said of it before. -/
theorem State.disarms.before (h : t.disarms u r (p.inState .armed)) (halike : s.editionsAlike t) :
    s.disarms u r p := by
  rcases h with ⟨htu, hp, hclear⟩ | ⟨hnone, hclosed, hsealed⟩
  · exact .inl ⟨halike.trans htu, hp, hclear⟩
  · exact .inr ⟨hnone, (halike _).state.symm.trans hclosed, hsealed⟩

end

section
variable {e w : Prop} {s v : State} (h : s.agrees e w none) {n r : Nat} {st st' : Story} {p : Page}
  (hst : s.story? n = some st) (hplace : st.page = some r) (hplace' : st'.page = some r)
  (hspiked : st'.state ≠ .spiked) (hp : s.page? r = some p) (hv : s.restoried v n st')
include h hst hplace hplace' hspiked hp hv

/-- A READY or QUEUED page whose story has been pulled (R134, R143, R146). -/
theorem State.agrees.storyPulled_disarms (hgate : p.state = .ready ∨ p.state = .queued) :
    s.disarms (v.storyPulled n) r p := by
  obtain ⟨hoff, hmoved, halike⟩ := h.pulledOff hst hplace hplace' hspiked hp hv hgate
  have hwithdrawn := h.disarmed hst hplace hplace' hspiked hp hv hgate
  have harmed : ((v.pulledOff r p).withdrawSection r).page? r = some (p.inState .armed) := by
    rw [pageAt_withdrawSection hoff.stand hmoved.self, hmoved.self, Option.map_some, if_neg]
    intro hother
    obtain ⟨-, -, hne, -⟩ := (mem_others hoff.stand hmoved.self r).1 hother
    exact hne rfl
  have hclear := clearBeside_withdrawSection hoff.stand hmoved.self (by simp [Page.inState])
  have hsealed := disarms_sealTest hwithdrawn.stand harmed rfl hclear
  have hall := halike.trans (restates_withdrawSection hoff.stand hmoved.self).alike
  have hr : (v.story n).page = some r := by rw [story_of_live hv.self, hplace']
  rw [storyPulled_eq hr, hv.page, page_of_made hp, if_pos hgate]
  exact (hsealed.before hall).evaluateJoins (hwithdrawn.sealTest _).stand

/-- A SENT page whose story has been pulled is STALE (R143). -/
theorem State.agrees.storyPulled_sent (hsent : p.state = .sent) :
    (v.storyPulled n).page? r = some (p.inState .stale) := by
  have hr : (v.story n).page = some r := by rw [story_of_live hv.self, hplace']
  have hkept := h.restoried hst hplace hplace' hspiked hp hv (by simp [hsent])
  have hstale : (v.movePage r (p.inState .stale) .story).page? r = some (p.inState .stale) :=
    (pageAt_movePage ..).trans (if_pos rfl)
  rw [storyPulled_eq hr, hv.page, page_of_made hp, if_neg (by simp [hsent]), if_pos hsent,
    pageAt_evaluateJoins_of_idle (hkept.staleNow ((hv.pageAt r).trans hp) hsent .story).stand fun q hq => ?_]
  · exact hstale
  · cases hstale.symm.trans hq
    simp [Page.inState]

end

section
variable {s v : State} {n r : Nat} {st' : Story} {p : Page} (hplace' : st'.page = some r) (hp : s.page? r = some p)
  (hv : s.restoried v n st')
include hplace' hp hv

/-- A page that is OPEN, ARMED or STALE is left as it was by the PULL of a story of it (R143). -/
theorem State.restoried.storyPulled_idle (hidle : p.state = .opened ∨ p.state = .armed ∨ p.state = .stale) :
    (v.storyPulled n).page? r = some p := by
  have hr : (v.story n).page = some r := by rw [story_of_live hv.self, hplace']
  rw [storyPulled_eq hr, hv.page, page_of_made hp, if_neg (by rcases hidle with hx | hx | hx <;> simp [hx]),
    if_neg (by rcases hidle with hx | hx | hx <;> simp [hx])]
  exact (hv.pageAt r).trans hp

end

/-! ### What the page of a story that is revised becomes (R144) -/

/-- A page of which a placed story has been revised. -/
def Page.afterRevision (p : Page) : Page :=
  if p.state = .sending then { p with stalePending := true }
  else if p.state = .sent then p.inState .stale
  else p

theorem State.agrees.pageAt_storyRevised {e w : Prop} {s : State} (h : s.agrees e w none) {n r : Nat} {p : Page}
    (hr : (s.story n).page = some r) (hp : s.page? r = some p) :
    (s.storyRevised n).page? r = some p.afterRevision := by
  have hmoved : ∀ q c, (s.movePage r q c).page? r = some q := fun q c => (pageAt_movePage ..).trans (if_pos rfl)
  rw [storyRevised_eq hr, page_of_made hp, Page.afterRevision]
  split
  · exact hmoved _ _
  · split
    · rename_i hsent
      rw [pageAt_evaluateJoins_of_idle (h.staleNow hp hsent .story).stand fun q hq => ?_]
      · exact hmoved _ _
      · cases (hmoved _ _).symm.trans hq
        simp [Page.inState]
    · exact hp

/-! ### The orders -/

section
variable {s : State} (hlisten : s.listening) {hi lo : Byte} (hrange : nat2 hi lo ≤ 1023)
  {st : Story} (hst : s.story? (nat2 hi lo) = some st)
include hlisten hrange hst

/-- A PULL that nothing refuses is taken (R10). -/
theorem exec_pull_of_taken {r : Nat} {p : Page} {d f : Byte} (hplace : st.page = some r) (hp : s.page? r = some p)
    (hset : st.state = .set) (hdesk : d.toNat ≤ 15) (hinUse : (s.desk d.toNat).inUse = true)
    (hidle : p.state ≠ .sending) (hroom : (s.basket d.toNat).count < (s.desk d.toNat).capacity) :
    exec (.pull [hi, lo, d, f]) s =
      .next (((s.heard.refiled (nat2 hi lo) st d.toNat (readFlag f) .order).storyPulled (nat2 hi lo)).startTest) := by
  have hjudged : exec (.pull [hi, lo, d, f]) s = .next
      (s.heard.judge Kind.pull (some (nat2 hi lo)) (s.heard.pullChecks (nat2 hi lo) d.toNat)
        (s.heard.takePull (nat2 hi lo) d.toNat (readFlag f) .order)) :=
    congrArg Host.Outcome.next (takeFrame_of_listening s hlisten _ _ (by simp) _)
  have htaken := takePull_of_live (s := s.heard) hst d.toNat (readFlag f) .order
  rw [hjudged, htaken]
  simp only [State.pullChecks, judge_cons, judge_nil, basketFull_iff, isFree_iff, onSendingPage_iff, Bool.or_eq_true,
    decide_eq_true_eq, Bool.not_eq_true', beq_eq_false_iff_ne, storyAt_heard, story_heard, desk_heard,
    basket_heard, page_heard, hst, story_of_live hst, hset, hplace]
  rw [if_neg (by omega), if_neg nofun, if_neg (by simp), if_neg (by simp [hinUse]),
    if_neg (by simp [page_of_made hp, hidle]), if_neg (by omega)]
  rfl

/-- A story in use is revised; with no slug, it keeps the one it has (R8). -/
theorem exec_revise_of_taken : exec (.revise [hi, lo, 0]) s =
    .next ((((s.heard.putStory (nat2 hi lo) (some (st.revised []))).tellChange .revised (nat2 hi lo)
      .order).storyRevised (nat2 hi lo)).startTest) := by
  have htaken := takeRevise_of_live (s := s.heard) hst []
  rw [exec_revise_of_listening hlisten rfl, htaken]
  simp only [judge_cons, judge_nil, isFree_iff, decide_eq_true_eq, storyAt_heard, hst]
  rw [if_neg (by omega), if_neg nofun]

end

/-- Pages in agreement, as the walk over the page unit's operations takes them. -/
theorem State.pagesStand.agrees {s : State} (h : s.pagesStand) : s.agrees False False none :=
  ⟨h, False.elim, False.elim⟩

section
variable {s : State} (h : s.pagesStand) (hlisten : s.listening) {hi lo : Byte} (hrange : nat2 hi lo ≤ 1023)
  {st : Story} (hst : s.story? (nat2 hi lo) = some st) {r : Nat} {p : Page} (hplace : st.page = some r)
  (hp : s.page? r = some p)
include h hlisten hrange hst hplace hp

/-- What a PULL that nothing refuses leaves of the story's page (R143). -/
theorem pull_moves_page {d f : Byte} (hset : st.state = .set) (hdesk : d.toNat ≤ 15)
    (hinUse : (s.desk d.toNat).inUse = true) (hidle : p.state ≠ .sending)
    (hroom : (s.basket d.toNat).count < (s.desk d.toNat).capacity) :
    ∃ t, exec (.pull [hi, lo, d, f]) s = .next t ∧ t.pagesStand ∧
      (p.state = .ready ∨ p.state = .queued → s.disarms t r p) ∧
      (p.state = .sent → t.page? r = some (p.inState .stale)) ∧
      (p.state = .opened ∨ p.state = .armed ∨ p.state = .stale → t.page? r = some p) := by
  have hheard := (pagesStand_heard h).agrees
  have hv := restoried_refiled s.heard (nat2 hi lo) st d.toNat (readFlag f) .order
  have hplace' : (st.arrived d.toNat (readFlag f) (s.heard.arrivalDue d.toNat)).page = some r := hplace
  have hspiked : (st.arrived d.toNat (readFlag f) (s.heard.arrivalDue d.toNat)).state ≠ .spiked := nofun
  have hpulled := hheard.storyPulled hst hplace hplace' hspiked hp hv hidle
  refine ⟨_, exec_pull_of_taken hlisten hrange hst hplace hp hset hdesk hinUse hidle hroom, hpulled.startTest.stand,
    fun hgate => ?_, fun hsent => ?_, fun hother => ?_⟩
  · exact (hheard.storyPulled_disarms hst hplace hplace' hspiked hp hv hgate).startTest hpulled.stand
  · have hstale := hheard.storyPulled_sent hst hplace hplace' hspiked hp hv hsent
    rw [pageAt_startTest_of_idle hpulled.stand fun q hq => ?_, hstale]
    cases hstale.symm.trans hq
    simp [Page.inState]
  · have hkept := hv.storyPulled_idle (s := s.heard) hplace' hp hother
    rw [pageAt_startTest_of_idle hpulled.stand fun q hq => ?_, hkept]
    cases hkept.symm.trans hq
    rcases hother with hx | hx | hx <;> simp [hx]

/-- What a REVISE leaves of the story's page: revised, it may start if it is QUEUED (R144, R156). -/
theorem revise_moves_page :
    ∃ t, exec (.revise [hi, lo, 0]) s = .next t ∧
      (t.page? r = some p.afterRevision ∨
        p.afterRevision.state = .queued ∧ t.page? r = some (p.afterRevision.inState .sending)) := by
  have hheard := (pagesStand_heard h).agrees
  have hrevised := (hheard.putLive (st' := st.revised []) hst rfl (hheard.stand.unspiked hst)
    fun _ => id).tellChange .revised (nat2 hi lo) .order
  have hplaced := fun k => (onlyChanges_tellChange (s.heard.putStory (nat2 hi lo) (some (st.revised [])))
    .revised (nat2 hi lo) .order).pageAt (by decide) k
  have hself := (storyAt_tellChange (s.heard.putStory (nat2 hi lo) (some (st.revised []))) (nat2 hi lo) .revised
    .order (nat2 hi lo)).trans (storyAt_putStory_self ..)
  have hread := hrevised.pageAt_storyRevised ((congrArg Story.page (story_of_live hself)).trans hplace)
    ((hplaced r).trans hp)
  refine ⟨_, exec_revise_of_taken hlisten hrange hst, ?_⟩
  rcases pageAt_startTest (hrevised.storyRevised (nat2 hi lo)).stand r with hsame | ⟨q, hq, hqueued, hstarted⟩
  · exact .inl (hsame.trans hread)
  · cases hread.symm.trans hq
    exact .inr ⟨hqueued, hstarted⟩

end

/-- Settles O55: what the change of a story writes is the page's row of R143 or R144, and what follows it moves no
page that is neither READY nor QUEUED. -/
theorem changesToPlacedStoriesReachThePage : Obligations.ChangesToPlacedStoriesReachThePage := by
  unfold Obligations.ChangesToPlacedStoriesReachThePage
  intro s n r st p hst hplace hp
  have hr : (s.story n).page = some r := by rw [story_of_live hst, hplace]
  have hset := storySet_eq hr
  have hpulled := storyPulled_eq hr
  have hrevised := storyRevised_eq hr
  rw [page_of_made hp] at hset hpulled hrevised
  refine ⟨hset, hpulled, hrevised, fun h hlisten => ⟨fun _ => ⟨fun harmed hall => ?_, fun hnot => ?_⟩,
    fun hi lo d f hn hrange hstate hdesk hinUse hidle hroom => ?_, fun hi lo hn hrange => ?_⟩⟩
  · have hopened := h.agrees.gateOpens hp harmed ((allSet_iff s _).2 hall) .gate
    have hready : (s.movePage r (p.inState .ready) .gate).page? r = some (p.inState .ready) :=
      (pageAt_movePage ..).trans (if_pos rfl)
    rw [hset, if_pos ⟨harmed, hall⟩]
    rcases pageAt_evaluateJoins hopened.stand r with hsame | ⟨q, -, -, hjoined⟩
    · exact ⟨_, hsame.trans hready, .inl rfl⟩
    · exact ⟨_, hjoined, .inr rfl⟩
  · refine hset.trans (if_neg fun ⟨harmed, hall⟩ => ?_)
    rcases hnot with hne | ⟨m, hm, hne⟩
    · exact hne harmed
    · exact hne (hall m hm)
  · subst hn
    obtain ⟨t, htaken, hstand, hgate, hsent, hother⟩ :=
      pull_moves_page h hlisten hrange hst hplace hp (f := f) hstate hdesk hinUse hidle hroom
    refine ⟨t, htaken, fun hx => (hgate hx).imp (fun ⟨halike, harmed, hclear⟩ => ?_) id, hsent, hother⟩
    refine ⟨harmed, fun hfirst => ?_, fun hreplate => ?_, fun k q hq hedition htier hsection => ?_⟩
    · obtain ⟨q, hq, hqueued, -⟩ := (hstand.first r).1 hfirst
      cases harmed.symm.trans hq
      cases hqueued
    · obtain ⟨q, hq, hqueued, -⟩ := (hstand.replate r).1 hreplate
      cases harmed.symm.trans hq
      cases hqueued
    · exact hclear k q hq ((halike.abreast _ _).2 ⟨hedition, hsection⟩) htier
  · subst hn
    obtain ⟨t, htaken, hmoved⟩ := revise_moves_page h hlisten hrange hst hplace hp
    refine ⟨t, htaken, fun hx => ?_, fun hx => ?_, fun hx hy hz => ?_, fun hx => ?_⟩
    · simpa [Page.afterRevision, hx] using hmoved
    · simpa [Page.afterRevision, hx, Page.inState] using hmoved
    · simpa [Page.afterRevision, hx, hy, hz] using hmoved
    · simpa [Page.afterRevision, hx, Page.inState] using hmoved

end Sys2Proof.Machine
end

section
/-! SUPPORT. What the page unit leaves of the typesetter unit (R130, R134, R142 to R148): its operations change the
two tiers of the queue, and neither the mode, the send, the pending CANCEL, the line nor the wait. -/

namespace Sys2Proof.Machine

/-! ### The relation -/

/-- From one state to the other the typesetter unit has changed in nothing but its two tiers. -/
def State.tiersOnly (s t : State) : Prop :=
  ∃ replates firsts, t.typesetter = { s.typesetter with replateTier := replates, firstTier := firsts }

theorem tiersOnly_of_eq {s t : State} (h : t.typesetter = s.typesetter) : s.tiersOnly t := ⟨_, _, h⟩

theorem State.tiersOnly.refl (s : State) : s.tiersOnly s := tiersOnly_of_eq rfl

/-- A composition of two operations, from the last one back to the first. -/
theorem State.tiersOnly.after {s t u : State} (k : t.tiersOnly u) (h : s.tiersOnly t) : s.tiersOnly u := by
  obtain ⟨a, b, h⟩ := h
  obtain ⟨c, d, k⟩ := k
  exact ⟨c, d, by rw [k, h]⟩

theorem State.tiersOnly.foldl {β : Type} (g : State → β → State)
    (h : ∀ (s : State) (b : β), s.tiersOnly (g s b)) (l : List β) (s : State) : s.tiersOnly (l.foldl g s) := by
  induction l generalizing s with
  | nil => exact .refl s
  | cons b rest ih => exact (ih (g s b)).after (h s b)

theorem tiersOnly_of_frame {fs : List Field} {s t : State} (h : s.onlyChanges fs t)
    (hd : Field.typesetter ∉ fs := by decide) : s.tiersOnly t :=
  tiersOnly_of_eq (h.queueOf hd)

section
variable {s t : State} (h : s.tiersOnly t)
include h

theorem State.tiersOnly.mode : t.typesetter.mode = s.typesetter.mode := by
  obtain ⟨_, _, h⟩ := h; rw [h]

theorem State.tiersOnly.send : t.typesetter.send = s.typesetter.send := by
  obtain ⟨_, _, h⟩ := h; rw [h]

theorem State.tiersOnly.cancel : t.typesetter.cancel = s.typesetter.cancel := by
  obtain ⟨_, _, h⟩ := h; rw [h]

theorem State.tiersOnly.stalled : t.typesetter.stalled = s.typesetter.stalled := by
  obtain ⟨_, _, h⟩ := h; rw [h]

theorem State.tiersOnly.block : t.typesetter.block = s.typesetter.block := by
  obtain ⟨_, _, h⟩ := h; rw [h]

end

/-! ### Pages, sections and the joins (R128, R145, R146) -/

section
variable (s : State)

theorem tiersOnly_movePage (r : Nat) (p : Page) (c : PageCause) : s.tiersOnly (s.movePage r p c) :=
  tiersOnly_of_eq (typesetter_movePage s r p c)

theorem tiersOnly_dequeue (r : Nat) : s.tiersOnly (s.dequeue r) := ⟨_, _, rfl⟩

theorem tiersOnly_withdraw (r : Nat) : s.tiersOnly (s.withdraw r) :=
  (tiersOnly_movePage _ _ _ _).after (tiersOnly_dequeue s r)

theorem tiersOnly_withdrawSection (r : Nat) : s.tiersOnly (s.withdrawSection r) :=
  .foldl _ tiersOnly_withdraw _ s

theorem tiersOnly_append (x : Tier) (r : Nat) : s.tiersOnly (s.putTypesetter (s.typesetter.append x r)) := by
  cases x <;> exact ⟨_, _, rfl⟩

theorem tiersOnly_joinPage (r : Nat) : s.tiersOnly (s.joinPage r) :=
  (tiersOnly_movePage _ _ _ _).after (tiersOnly_append s _ r)

theorem tiersOnly_joinReplates (l : List Nat) : s.tiersOnly (joinReplates l s).1 := by
  induction l generalizing s with
  | nil => exact .refl s
  | cons r rest ih =>
    unfold joinReplates
    split
    · exact (ih _).after (tiersOnly_joinPage s r)
    · exact .refl s

theorem tiersOnly_joinSections (l : List (Nat × Nat)) : s.tiersOnly (joinSections l s) := by
  induction l generalizing s with
  | nil => exact .refl s
  | cons x rest ih =>
    unfold joinSections
    split
    · split
      · exact (ih _).after ((State.tiersOnly.foldl _ tiersOnly_joinPage _ _).after
          (tiersOnly_of_frame (spendJoin_frame s x.1)))
      · exact .refl s
    · exact ih s

theorem tiersOnly_evaluateJoins : s.tiersOnly s.evaluateJoins := by
  have hreplates := tiersOnly_joinReplates s s.waitingReplates
  unfold State.evaluateJoins
  split <;> rename_i heq <;> rw [heq] at hreplates
  · exact (tiersOnly_joinSections _ _).after hreplates
  · exact hreplates

/-! ### Seals and the end of a send (R130, R134, R148, R149) -/

theorem tiersOnly_sealPages (e : Nat) : s.tiersOnly (s.sealPages e) :=
  (tiersOnly_of_frame (freeAll_onlyChanges .seal _)).after (.foldl _ tiersOnly_dequeue _ s)

theorem tiersOnly_seal (e : Nat) : s.tiersOnly (s.seal e) :=
  (tiersOnly_of_frame (onlyChanges_putEdition _ _ _)).after
    ((tiersOnly_of_frame (onlyChanges_offer _ _)).after (tiersOnly_sealPages s e))

theorem tiersOnly_sealTest (e : Nat) : s.tiersOnly (s.sealTest e) := by
  unfold State.sealTest
  split
  · exact tiersOnly_seal s e
  · exact .refl s

theorem tiersOnly_afterSend (e : Nat) : s.tiersOnly (s.afterSend e) := by
  refine (tiersOnly_evaluateJoins _).after (State.tiersOnly.after ?_
    (tiersOnly_of_frame (completeTest_frame s e)))
  split
  · exact tiersOnly_seal _ e
  · exact tiersOnly_sealTest _ e

/-! ### What the directory tells the page unit (R142 to R144) -/

theorem tiersOnly_storySet (n : Nat) : s.tiersOnly (s.storySet n) := by
  unfold State.storySet
  split
  · exact .refl s
  · dsimp only
    split
    · exact (tiersOnly_evaluateJoins _).after (tiersOnly_movePage _ _ _ _)
    · exact .refl s

/-- A page that becomes ARMED withdraws its section, and the seal test and the joins follow (R143, R146). -/
theorem tiersOnly_disarm (r e : Nat) (p : Page) (c : PageCause) :
    s.tiersOnly ((((s.movePage r p c).withdrawSection r).sealTest e).evaluateJoins) :=
  (tiersOnly_evaluateJoins _).after ((tiersOnly_sealTest _ _).after
    ((tiersOnly_withdrawSection _ _).after (tiersOnly_movePage s r p c)))

theorem tiersOnly_storyPulled (n : Nat) : s.tiersOnly (s.storyPulled n) := by
  unfold State.storyPulled
  split
  · exact .refl s
  · dsimp only
    split
    · exact tiersOnly_disarm _ _ _ _ _
    · exact (tiersOnly_disarm _ _ _ _ _).after (tiersOnly_dequeue _ _)
    · exact (tiersOnly_evaluateJoins _).after (tiersOnly_movePage _ _ _ _)
    all_goals exact .refl s

theorem tiersOnly_storyRevised (n : Nat) : s.tiersOnly (s.storyRevised n) := by
  unfold State.storyRevised
  split
  · exact .refl s
  · dsimp only
    split
    · exact tiersOnly_movePage _ _ _ _
    · exact (tiersOnly_evaluateJoins _).after (tiersOnly_movePage _ _ _ _)
    all_goals exact .refl s

/-! ### Orders (R132, R139, R140) -/

theorem tiersOnly_closeOther (c : Nat) : s.tiersOnly (s.closeOther c) := by
  unfold State.closeOther
  split
  · split
    · exact (tiersOnly_sealPages _ _).after (tiersOnly_of_frame (onlyChanges_putEdition _ _ _))
    · exact tiersOnly_seal _ _
  · exact .refl s

theorem tiersOnly_closeOthers (e : Nat) : s.tiersOnly (s.closeOthers e) := by
  unfold State.closeOthers
  dsimp only
  split
  · exact .refl s
  · exact (tiersOnly_evaluateJoins _).after (.foldl _ tiersOnly_closeOther _ s)

theorem tiersOnly_closeItself (e : Nat) : s.tiersOnly (s.closeItself e) := by
  have hclosed := tiersOnly_of_frame (onlyChanges_putEdition s e
    { s.edition e with state := .closed, counter := (s.edition e).allowance })
  unfold State.closeItself
  dsimp only
  split
  · exact (tiersOnly_evaluateJoins _).after ((tiersOnly_seal _ _).after hclosed)
  · exact hclosed

theorem tiersOnly_pageAfterPlace (r : Nat) (b : Bool) : s.tiersOnly (s.pageAfterPlace r b) := by
  unfold State.pageAfterPlace
  dsimp only
  split
  case h_3 =>
    split
    · exact .refl s
    · exact tiersOnly_disarm _ _ _ _ _
  case h_6 => exact (tiersOnly_evaluateJoins _).after (tiersOnly_movePage _ _ _ _)
  all_goals exact .refl s

theorem tiersOnly_pageAfterLift (r : Nat) : s.tiersOnly (s.pageAfterLift r) := by
  unfold State.pageAfterLift
  dsimp only
  split
  case h_2 =>
    split
    · exact (tiersOnly_evaluateJoins _).after (tiersOnly_movePage _ _ _ _)
    · exact .refl s
  case h_6 => exact (tiersOnly_evaluateJoins _).after (tiersOnly_movePage _ _ _ _)
  all_goals exact .refl s

end

end Sys2Proof.Machine
end

section
/-! SUPPORT. The galley buffer (R158, R159, R160, R162): a send's buffer holds at most 32 blocks, and 16 of them are
free while a call is in hand; every operation of the typesetter unit keeps that, and the page unit touches no send. -/

namespace Sys2Proof.Machine

/-! ### One send, and the relation -/

/-- The bounds of one send's buffer and offset (R158, R162). -/
def Send.fits (x : Send) : Prop :=
  x.buffer.length ≤ 2048 ∧ (x.call ≠ .none → x.buffer.length ≤ 1024) ∧ x.expected ≤ 16777215

/-- From one state to the other no bound of the galley buffer is broken. -/
def State.galleyKept (s t : State) : Prop := s.galleyFits → t.galleyFits

theorem State.galleyKept.refl (s : State) : s.galleyKept s := id

/-- A composition of two operations, from the last one back to the first. -/
theorem State.galleyKept.after {s t u : State} (k : t.galleyKept u) (h : s.galleyKept t) : s.galleyKept u :=
  fun hs => k (h hs)

theorem State.galleyKept.foldl {β : Type} (g : State → β → State)
    (h : ∀ (s : State) (b : β), s.galleyKept (g s b)) (l : List β) (s : State) : s.galleyKept (l.foldl g s) := by
  induction l generalizing s with
  | nil => exact .refl s
  | cons b rest ih => exact (ih (g s b)).after (h s b)

theorem State.galleyFits.send {s : State} (h : s.galleyFits) {x : Send} (hx : s.typesetter.send = some x) :
    x.fits := h x hx

theorem galleyFits_of_send {t : State} {x : Send} (ht : t.typesetter.send = some x) (hx : x.fits) :
    t.galleyFits := fun y hy => by
  cases ht.symm.trans hy
  exact hx

theorem galleyFits_of_none {t : State} (ht : t.typesetter.send = none) : t.galleyFits :=
  fun _ hy => nomatch ht.symm.trans hy

theorem galleyKept_of_send {s t : State} (h : t.typesetter.send = s.typesetter.send) : s.galleyKept t :=
  fun hs x hx => hs x (h.symm.trans hx)

theorem galleyKept_of_frame {fs : List Field} {s t : State} (h : s.onlyChanges fs t)
    (hd : Field.typesetter ∉ fs := by decide) : s.galleyKept t :=
  galleyKept_of_send (congrArg Typesetter.send (h.queueOf hd))

theorem State.tiersOnly.galleyKept {s t : State} (h : s.tiersOnly t) : s.galleyKept t := galleyKept_of_send h.send

section
variable (s : State)

theorem galleyKept_offer (n : Notice) : s.galleyKept (s.offer n) := galleyKept_of_frame (onlyChanges_offer s n)

theorem galleyKept_putTerminal (t : Nat) (r : Terminal) : s.galleyKept (s.putTerminal t r) :=
  galleyKept_of_frame (onlyChanges_putTerminal s t r)

theorem galleyKept_attend (t : Nat) (b : AttentionBody) : s.galleyKept (s.attend t b) :=
  galleyKept_of_frame (onlyChanges_attend s t b)

theorem galleyKept_attendAll (ts : List Nat) (b : AttentionBody) : s.galleyKept (s.attendAll ts b) :=
  galleyKept_of_frame (onlyChanges_attendAll s ts b)

theorem galleyKept_tellChange (k : Change) (n : Nat) (c : CopyCause) : s.galleyKept (s.tellChange k n c) :=
  galleyKept_of_frame (onlyChanges_tellChange s k n c)

theorem galleyKept_modStory (n : Nat) (f : Story → Story) : s.galleyKept (s.modStory n f) :=
  galleyKept_of_frame (onlyChanges_modStory s n f)

theorem galleyKept_reach (due : Nat) : s.galleyKept (s.reach due) := galleyKept_of_frame (onlyChanges_reach s due)

/-! ### Calls (R159, R162) -/

theorem sixteen_le_freeGalley_iff (x : Send) : 16 ≤ x.freeGalley ↔ x.buffer.length ≤ 1024 := by
  simp only [Send.freeGalley, Config.galleyBlocks]
  omega

theorem Send.fits.calling {x : Send} (hx : x.fits) (hroom : x.buffer.length ≤ 1024) (c : CallState)
    (due : Option Nat) : ({ x with call := c, dataTimer := due } : Send).fits := by
  obtain ⟨hbuffer, -, hoffset⟩ := hx
  exact ⟨hbuffer, fun _ => hroom, hoffset⟩

theorem galleyKept_offerCall {s : State}
    (hroom : ∀ x, s.typesetter.send = some x → x.fits → x.buffer.length ≤ 1024) : s.galleyKept s.offerCall := by
  intro hs
  unfold State.offerCall
  split
  · exact hs
  · rename_i x hx
    have hcalling := (hs.send hx).calling (hroom x hx (hs.send hx))
    split
    · exact galleyFits_of_send rfl (hcalling .outstanding _)
    · exact galleyFits_of_send rfl (hcalling .owed x.dataTimer)

theorem galleyKept_callDue : s.galleyKept s.callDue := by
  unfold State.callDue
  split
  · exact .refl s
  · rename_i x hx
    split
    · rename_i hdue
      obtain ⟨-, -, hfree⟩ := hdue
      refine galleyKept_offerCall fun y hy _ => ?_
      cases hx.symm.trans hy
      exact (sixteen_le_freeGalley_iff x).1 hfree
    · exact .refl s

/-! ### Starts and blocks (R156, R162, R163) -/

theorem Send.fits_initial (r : Nat) : (Send.initial r).fits :=
  ⟨Nat.zero_le _, fun _ => Nat.zero_le _, Nat.zero_le _⟩

theorem galleyKept_startTest : s.galleyKept s.startTest := by
  unfold State.startTest
  split
  · exact .refl s
  · rename_i r _
    split
    · have hfresh : s.galleyKept ((s.dequeue r).putSend (Send.initial r)) :=
        fun _ => galleyFits_of_send rfl (Send.fits_initial r)
      exact (galleyKept_callDue _).after ((tiersOnly_movePage _ _ _ _).galleyKept.after hfresh)
    · exact .refl s

/-- A block that begins takes its bytes off the front of the buffer (R162). -/
theorem Send.fits.nextBlock {x y : Send} {b : Block} (hx : x.fits) (hb : x.nextBlock = some (b, y)) : y.fits := by
  obtain ⟨hbuffer, hcall, hoffset⟩ := hx
  unfold Send.nextBlock at hb
  split at hb
  · cases hb
    have hdrop : (x.buffer.drop 64).length ≤ x.buffer.length := by rw [List.length_drop]; exact Nat.sub_le _ _
    exact ⟨hdrop.trans hbuffer, fun hne => hdrop.trans (hcall hne), hoffset⟩
  · split at hb
    · cases hb
      exact ⟨Nat.zero_le _, fun _ => Nat.zero_le _, hoffset⟩
    · cases hb

theorem galleyKept_clearStall : s.galleyKept s.clearStall := by
  unfold State.clearStall
  dsimp only
  split
  · exact (galleyKept_offer _ _).after (galleyKept_of_send rfl)
  · exact .refl s

theorem galleyKept_beginBlock : s.galleyKept s.beginBlock := by
  unfold State.beginBlock
  dsimp only
  split
  · exact (galleyKept_startTest _).after ((galleyKept_clearStall _).after (galleyKept_of_send rfl))
  · split
    · rename_i b y hb
      obtain ⟨x, hx, hnext⟩ := Option.bind_eq_some_iff.1 hb
      exact (galleyKept_callDue _).after ((galleyKept_clearStall _).after
        fun hs => galleyFits_of_send rfl ((hs.send hx).nextBlock hnext))
    · exact .refl s

theorem galleyKept_tsProceed : s.galleyKept s.tsProceed := by
  unfold State.tsProceed
  dsimp only
  split
  · exact galleyKept_of_send rfl
  · split
    · exact galleyKept_beginBlock s
    · split
      · exact .refl s
      · exact galleyKept_of_send rfl

theorem galleyKept_tsLine : s.galleyKept s.tsLine :=
  (galleyKept_tsProceed _).after (galleyKept_of_frame (onlyChanges_judgeReady s))

/-! ### The end of a send (R165, R167) -/

theorem galleyKept_setMode (m : OutputMode) : s.galleyKept (s.setMode m) := galleyKept_of_send rfl

theorem galleyKept_completeSend : s.galleyKept s.completeSend := by
  cases hx : s.typesetter.send with
  | none =>
    unfold State.completeSend
    rw [hx]
    exact .refl s
  | some x =>
    have hended : ∀ p : Page, s.galleyKept (s.sentOff x.page p) := fun p =>
      (tiersOnly_afterSend _ _).galleyKept.after ((tiersOnly_movePage _ _ _ _).galleyKept.after
        fun _ => galleyFits_of_none rfl)
    rw [completeSend_eq hx]
    exact (galleyKept_startTest _).after ((galleyKept_setMode _ _).after (hended _))

theorem galleyKept_abandonSend (c : AbandonCause) : s.galleyKept (s.abandonSend c) :=
  fun _ => galleyFits_of_none (send_abandonSend s c)

theorem galleyKept_abandon (c : AbandonCause) : s.galleyKept (s.abandon c) := by
  unfold State.abandon
  split
  · exact .refl s
  · exact (galleyKept_startTest _).after ((galleyKept_tsLine _).after
      ((tiersOnly_afterSend _ _).galleyKept.after (galleyKept_abandonSend s c)))

/-! ### PAGE DATA, the end of a block and a stall (R160, R165, R166) -/

/-- A piece of at most 1,024 bytes that answers a call fits beside what is buffered (R160, R162). -/
theorem Send.fits.accept {x : Send} (hx : x.fits) (hcall : x.call ≠ .none) {y : PageDataOrder}
    (hsize : y.bytes.length ≤ 1024) (hend : x.expected + y.bytes.length ≤ 16777215) : (x.accept y).fits := by
  obtain ⟨-, hheld, -⟩ := hx
  refine ⟨?_, fun hne => absurd rfl hne, hend⟩
  rw [Send.accept, List.length_append]
  exact Nat.add_le_add (hheld hcall) hsize

theorem galleyKept_takePageData {s : State} {y : PageDataOrder}
    (hchecks : firstRefusal (s.pageDataChecks y) = none) (hsize : y.bytes.length ≤ 1024) :
    s.galleyKept (s.takePageData y) := by
  unfold State.takePageData
  split
  · exact .refl s
  · rename_i x hx
    simp only [State.pageDataChecks, State.callState, State.expectedOffset, hx, firstRefusal_cons,
      Bool.not_eq_false', beq_iff_eq, decide_eq_false_iff_not, Nat.not_lt] at hchecks
    obtain ⟨-, -, hcall, hoffset, -, hend, -⟩ := hchecks
    rw [hoffset] at hend
    exact (galleyKept_tsLine _).after ((galleyKept_callDue _).after fun hs =>
      galleyFits_of_send rfl ((hs.send hx).accept (by rw [hcall]; nofun) hsize hend))

theorem galleyKept_endBlock (level : Bool) : s.galleyKept (s.endBlock level) := by
  unfold State.endBlock
  split
  · exact .refl s
  · have hfreed : s.galleyKept ((s.setReady level).putTypesetter { s.typesetter with block := none }) :=
      galleyKept_of_send rfl
    dsimp only
    refine (galleyKept_tsProceed _).after ?_
    split
    · exact (galleyKept_completeSend _).after hfreed
    · exact hfreed
    · exact hfreed

theorem galleyKept_stall : s.galleyKept s.stall := by
  unfold State.stall
  dsimp only
  split
  · exact galleyKept_of_send rfl
  · exact (galleyKept_offer _ _).after (galleyKept_of_send rfl)

end

end Sys2Proof.Machine
end

section
/-! SUPPORT. Every command, and so every step, keeps the galley buffer within its bounds (R158, R160, R162). -/

namespace Sys2Proof.Machine

/-! ### Judging -/

/-- Whatever state a meaning answers, no bound of the galley buffer is broken on the way there from `s`. -/
def Answer.galleyKept (s : State) (a : Answer) : Prop := ∀ t, a = .next t → s.galleyKept t

theorem galley_next {s t : State} (h : s.galleyKept t) : Answer.galleyKept s (.next t) := by
  rintro _ ⟨⟩
  exact h

section
variable {s : State}

theorem galleyKept_refuseOrder (k : Byte) (c : Code) (i : Option Nat) : s.galleyKept (s.refuseOrder k c i) :=
  galleyKept_offer s _

theorem galleyKept_hearFrame : s.galleyKept s.hearFrame := by
  unfold State.hearFrame State.endStoreLost
  split
  · exact (galleyKept_startTest _).after ((galleyKept_attendAll _ _ _).after (galleyKept_of_send rfl))
  · exact galleyKept_of_send rfl

theorem galleyKept_failFrame (k : Byte) (c : Code) : s.galleyKept (s.failFrame k c) :=
  State.galleyKept.after (s := s) (t := { s with framer := .hunt }) (galleyKept_offer _ _)
    (galleyKept_of_send rfl)

theorem galleyKept_takeFrame (kind : Byte) (body : List Byte) {judge : State → State}
    (hjudge : ∀ u : State, u.galleyKept (judge u)) : s.galleyKept (s.takeFrame kind body judge) := by
  unfold State.takeFrame
  split
  · exact galleyKept_failFrame _ _
  · split
    · exact galleyKept_hearFrame
    · exact (hjudge _).after galleyKept_hearFrame

/-- An order keeps the bounds when its judging of the fields that its body gave does. -/
theorem galley_order {α : Type} {kind : Byte} {body : List Byte} {ident : Option Nat} {fields : Option α}
    {judge : State → α → State} (hjudge : ∀ (u : State) (x : α), fields = some x → u.galleyKept (judge u x)) :
    Answer.galleyKept s
      (.next (s.takeFrame kind body fun u => u.readBody kind ident fields (judge u))) := by
  refine galley_next (galleyKept_takeFrame kind body fun u => ?_)
  unfold State.readBody
  split
  · exact galleyKept_refuseOrder _ _ _
  · exact hjudge u _ rfl

theorem galleyKept_judge {kind : Byte} {ident : Option Nat} {checks : List (Bool × Code)} {taken : State}
    (htaken : firstRefusal checks = none → s.galleyKept taken) : s.galleyKept (s.judge kind ident checks taken) := by
  unfold State.judge
  split
  · exact galleyKept_refuseOrder _ _ _
  · exact htaken ‹_›

/-- An order whose taking keeps the bounds, whatever its checks found. -/
theorem galley_taken {α : Type} {kind : Byte} {body : List Byte} {ident : Option Nat} {fields : Option α}
    {checks : State → α → List (Bool × Code)} {named : α → Option Nat} {taken : State → α → State}
    (htaken : ∀ (u : State) (x : α), u.galleyKept (taken u x)) :
    Answer.galleyKept s (.next (s.takeFrame kind body fun u => u.readBody kind ident fields fun x =>
      u.judge kind (named x) (checks u x) (taken u x))) :=
  galley_order fun u x _ => galleyKept_judge fun _ => htaken u x

/-- The content of an answer is acted on after the liveness update, and the line turn follows (R85, R87). -/
theorem galley_answer (l : LineId) (drop size : Nat) {content : State → State}
    (hcontent : ∀ u : State, u.galleyKept (content u)) :
    Answer.galleyKept s (.next (s.takeAnswer l drop size content)) := by
  have hturn : ∀ u : State, u.galleyKept (u.lineTurn l) := fun u => galleyKept_of_frame (onlyChanges_lineTurn u l)
  have hupdate := galleyKept_of_frame (onlyChanges_answerLiveness s (terminalOf l drop))
  refine galley_next ?_
  unfold State.takeAnswer
  split
  case h_1 =>
    split
    · exact (hturn _).after (galleyKept_of_frame (onlyChanges_miss s _))
    · split
      · refine (hturn _).after ?_
        unfold State.applyAnswer
        dsimp only
        split
        · exact (hcontent _).after hupdate
        · exact hupdate
      · exact .refl s
  all_goals exact .refl s

theorem galley_request {α : Type} {l : LineId} {drop : Nat} {q : RequestKind} {args : List Byte}
    {read : List Byte → Option α} {judge : State → Nat → α → State}
    (hjudge : ∀ (u : State) (x : α), u.galleyKept (judge u (terminalOf l drop) x)) :
    Answer.galleyKept s (.next (s.takeRequest l drop q args read judge)) := by
  refine galley_answer l drop _ fun u => ?_
  split
  · exact galleyKept_attend _ _ _
  · exact hjudge u _

theorem galleyKept_judgeRequest {t : Nat} {q : RequestKind} {known full : Option Nat}
    {checks : List (Bool × Code)} {taken : State} (htaken : s.galleyKept taken) :
    s.galleyKept (s.judgeRequest t q known full checks taken) := by
  unfold State.judgeRequest
  split
  · exact galleyKept_attend _ _ _
  · exact htaken

end

/-! ### Stories (R7 to R11, R32 to R43, R50) -/

section
variable (s : State)

theorem galleyKept_leaveBasket (d n : Nat) : s.galleyKept (s.leaveBasket d n) :=
  galleyKept_of_frame (onlyChanges_leaveBasket s d n)

theorem galleyKept_fileAt (n d : Nat) (flash : Bool) : s.galleyKept (s.fileAt n d flash) :=
  galleyKept_of_frame (onlyChanges_fileAt s n d flash)

theorem galleyKept_takeAnnounce (d c : Nat) (flash : Bool) (slug : List Byte) :
    s.galleyKept (s.takeAnnounce d c flash slug) := by
  unfold State.takeAnnounce
  split
  · exact .refl s
  · exact (galleyKept_tellChange _ _ _ _).after ((galleyKept_modStory _ _ _).after (galleyKept_of_send rfl))

theorem galleyKept_takeRevise (n : Nat) (slug : List Byte) : s.galleyKept (s.takeRevise n slug) :=
  (galleyKept_startTest _).after ((tiersOnly_storyRevised _ n).galleyKept.after
    ((galleyKept_tellChange _ _ _ _).after (galleyKept_modStory s n _)))

theorem galleyKept_takePurge (n : Nat) : s.galleyKept (s.takePurge n) := by
  rw [takePurge_eq]
  exact (galleyKept_of_frame (onlyChanges_putStory _ n _)).after
    ((galleyKept_of_frame (onlyChanges_forgetStory _ n)).after ((galleyKept_tellChange _ _ _ _).after
      (galleyKept_of_frame (unbasketed_onlyChanges (s := s) (n := n)))))

theorem galleyKept_takeMove (n d : Nat) (flash : Bool) : s.galleyKept (s.takeMove n d flash) :=
  (galleyKept_tellChange _ _ _ _).after ((galleyKept_fileAt _ n d flash).after (galleyKept_leaveBasket s _ n))

theorem galleyKept_takePull (n d : Nat) (flash : Bool) (c : CopyCause) : s.galleyKept (s.takePull n d flash c) :=
  (galleyKept_startTest _).after ((tiersOnly_storyPulled _ n).galleyKept.after
    ((galleyKept_tellChange _ _ _ _).after (galleyKept_fileAt s n d flash)))

theorem galleyKept_takePlace (n r : Nat) : s.galleyKept (s.takePlace n r) :=
  (galleyKept_startTest _).after ((tiersOnly_pageAfterPlace _ r _).galleyKept.after
    ((galleyKept_tellChange _ _ _ _).after ((galleyKept_modStory _ n _).after (galleyKept_of_send rfl))))

theorem galleyKept_takeLift (n : Nat) : s.galleyKept (s.takeLift n) := by
  unfold State.takeLift
  split
  · exact .refl s
  · exact (galleyKept_startTest _).after ((tiersOnly_pageAfterLift _ _).galleyKept.after
      ((galleyKept_of_frame (onlyChanges_liftStory _ n)).after (galleyKept_of_send rfl)))

theorem galleyKept_holdStory (t n : Nat) (q : RequestKind) : s.galleyKept (s.holdStory t n q) :=
  (galleyKept_tellChange _ _ _ _).after ((galleyKept_offer _ _).after ((galleyKept_putTerminal _ t _).after
    ((galleyKept_putTerminal _ t _).after ((galleyKept_modStory _ n _).after (galleyKept_modStory s n _)))))

theorem galleyKept_sendToDesk (t n d : Nat) (flash : Bool) : s.galleyKept (s.sendToDesk t n d flash) :=
  (galleyKept_tellChange _ _ _ _).after ((galleyKept_attend _ _ _).after ((galleyKept_putTerminal _ _ _).after
    ((galleyKept_fileAt _ n d flash).after (galleyKept_leaveBasket s _ n))))

theorem galleyKept_sendToSet (t n : Nat) : s.galleyKept (s.sendToSet t n) :=
  (galleyKept_startTest _).after ((tiersOnly_storySet _ n).galleyKept.after
    ((galleyKept_tellChange _ _ _ _).after ((galleyKept_attend _ _ _).after ((galleyKept_putTerminal _ _ _).after
      ((galleyKept_modStory _ n _).after (galleyKept_leaveBasket s _ n))))))

theorem galleyKept_takeSend (t n : Nat) (known desk : Option Nat) (flash : Bool) :
    s.galleyKept (s.takeSend t n known desk flash) := by
  unfold State.takeSend
  split
  · exact galleyKept_attend _ _ _
  · exact galleyKept_sendToSet s t n
  · exact galleyKept_sendToDesk s t n _ flash

theorem galleyKept_takeReturn (t n : Nat) : s.galleyKept (s.takeReturn t n) :=
  (galleyKept_tellChange _ _ _ _).after ((galleyKept_attend _ _ _).after ((galleyKept_putTerminal _ _ _).after
    (galleyKept_of_frame (onlyChanges_releaseInPlace s n))))

theorem galleyKept_takeSpike (t n : Nat) : s.galleyKept (s.takeSpike t n) :=
  (galleyKept_tellChange _ _ _ _).after ((galleyKept_attend _ _ _).after ((galleyKept_putTerminal _ _ _).after
    ((galleyKept_modStory _ n _).after ((galleyKept_modStory _ n _).after (galleyKept_leaveBasket s _ n)))))

theorem galleyKept_nudge (n : Nat) : s.galleyKept (s.nudge n) := by
  have hafter : ∀ u : State, u.galleyKept (u.afterNudge n) := fun u => by
    unfold State.afterNudge
    dsimp only
    split
    · exact (galleyKept_tellChange _ _ _ _).after (galleyKept_modStory u n _)
    · exact galleyKept_modStory u n _
  exact (hafter _).after ((galleyKept_attendAll _ _ _).after (galleyKept_modStory s n _))

/-! ### Editions and pages (R129 to R132, R137, R138, R141, R147) -/

theorem galleyKept_joinsAndStart : s.galleyKept s.evaluateJoins.startTest :=
  (galleyKept_startTest _).after (tiersOnly_evaluateJoins s).galleyKept

theorem galleyKept_takeStart (e : Nat) : s.galleyKept (s.takeStart e) :=
  (galleyKept_joinsAndStart _).after (galleyKept_of_send rfl)

theorem galleyKept_takeSeal (e : Nat) : s.galleyKept (s.takeSeal e) :=
  (galleyKept_joinsAndStart _).after (tiersOnly_seal s e).galleyKept

theorem galleyKept_takeClose (e : Nat) : s.galleyKept (s.takeClose e) :=
  (galleyKept_startTest _).after ((tiersOnly_closeItself _ e).galleyKept.after (tiersOnly_closeOthers s e).galleyKept)

theorem galleyKept_takeMakePage (e k : Nat) : s.galleyKept (s.takeMakePage e k) := by
  unfold State.takeMakePage
  split
  · exact .refl s
  · exact (tiersOnly_movePage _ _ _ _).galleyKept

theorem galleyKept_takeRelease (r : Nat) : s.galleyKept (s.takeRelease r) := by
  have hmoved := fun p => (tiersOnly_movePage s r p .order).galleyKept
  unfold State.takeRelease
  dsimp only
  split
  · exact (galleyKept_joinsAndStart _).after (hmoved _)
  · exact (galleyKept_joinsAndStart _).after ((tiersOnly_withdrawSection _ r).galleyKept.after (hmoved _))

theorem galleyKept_takeReplate (r : Nat) : s.galleyKept (s.takeReplate r) := by
  have hmoved := fun p d => (tiersOnly_movePage (s.spendJoin d) r p .order).galleyKept.after
    (galleyKept_of_frame (spendJoin_frame s d))
  unfold State.takeReplate
  dsimp only
  refine (galleyKept_joinsAndStart _).after ((tiersOnly_sealTest _ _).galleyKept.after ?_)
  split
  · exact (tiersOnly_withdrawSection _ r).galleyKept.after (hmoved _ _)
  · exact hmoved _ _

theorem galleyKept_takeDropPage (r : Nat) : s.galleyKept (s.takeDropPage r) := by
  rw [takeDropPage_eq]
  exact (galleyKept_joinsAndStart _).after ((tiersOnly_sealTest _ _).galleyKept.after
    (galleyKept_of_frame (dropped_onlyChanges s r)))

/-! ### The store link (R186 to R191) -/

theorem galleyKept_takeRun : s.galleyKept s.takeRun :=
  (galleyKept_startTest _).after (galleyKept_of_send rfl)

theorem galleyKept_restartLines : s.galleyKept s.restartLines :=
  (galleyKept_tsLine _).after (.foldl _ (fun u l => galleyKept_of_frame (onlyChanges_beginCycle u l 0)) _ s)

theorem galleyKept_coldRestart (c : RestartCause) : s.galleyKept (s.coldRestart c) :=
  (galleyKept_restartLines _).after fun _ => galleyFits_of_none rfl

theorem galleyKept_warmRestart : s.galleyKept s.warmRestart := by
  have hlinked : s.galleyKept (s.warmBlocks.relink .warmOrder) :=
    State.galleyKept.after (t := s.warmBlocks) (galleyKept_of_send rfl) fun _ => galleyFits_of_none rfl
  unfold State.warmRestart
  dsimp only
  refine (galleyKept_restartLines _).after ?_
  split
  · exact (tiersOnly_afterSend _ _).galleyKept.after hlinked
  · exact hlinked

theorem galleyKept_orderedRestart (k : RestartKind) : s.galleyKept (s.orderedRestart k) := by
  cases k with
  | full => exact galleyKept_coldRestart s .fullOrder
  | warm => exact galleyKept_warmRestart s

theorem galleyKept_enterStoreLost : s.galleyKept s.enterStoreLost :=
  (galleyKept_abandon _ .storeLost).after ((galleyKept_of_frame (onlyChanges_discardOpenFrames _)).after
    ((galleyKept_attendAll _ _ _).after (galleyKept_of_send rfl)))

end

/-! ### Orders and events with cases of their own -/

section
variable (s : State)

theorem galley_restart (b : List Byte) : Answer.galleyKept s (execRestart b s) := by
  refine galley_order fun u _ _ => ?_
  split
  · exact galleyKept_refuseOrder _ _ _
  · unfold State.takeRestart
    split
    · exact galleyKept_orderedRestart u _
    · exact galleyKept_of_send rfl

theorem galley_read (b : List Byte) : Answer.galleyKept s (execRead b s) := by
  refine galley_order fun u _ _ => ?_
  unfold State.judgeRead
  split
  · exact galleyKept_refuseOrder _ _ _
  · exact galleyKept_of_frame (onlyChanges_answerStatus u)
  · exact galleyKept_judge fun _ => galleyKept_offer u _

theorem galley_typesetMode (b : List Byte) : Answer.galleyKept s (execTypesetMode b s) := by
  refine galley_order fun u _ _ => ?_
  split
  · exact galleyKept_refuseOrder _ _ _
  · exact (galleyKept_startTest _).after (galleyKept_setMode u _)

/-- A PAGE DATA that has been read carries at most 1,024 bytes (R160). -/
theorem readPageData_length {b : List Byte} {y : PageDataOrder} (h : readPageData b = some y) :
    y.bytes.length ≤ 1024 := by
  unfold readPageData at h
  split at h
  · split at h
    · rename_i hsize
      cases h
      exact hsize.2
    · cases h
  · cases h

theorem galley_pageData (b : List Byte) : Answer.galleyKept s (execPageData b s) :=
  galley_order fun _ _ hread => galleyKept_judge fun hchecks =>
    galleyKept_takePageData hchecks (readPageData_length hread)

theorem galley_noticeFrameEnd : Answer.galleyKept s (execNoticeFrameEnd s) := by
  refine galley_next ?_
  split
  · exact .refl s
  · split
    · exact galleyKept_orderedRestart s _
    · exact State.galleyKept.after (t := { s with sending := none })
        (galleyKept_of_frame (onlyChanges_startNotice _)) (galleyKept_of_send rfl)

/-- An owed call has the room that was free when it fell due (R159). -/
theorem galley_pageCallOwedOffered : Answer.galleyKept s (execPageCallOwedOffered s) := by
  refine galley_next ?_
  split
  · exact .refl s
  · rename_i x hx
    split
    · rename_i howed
      refine galleyKept_offerCall fun y hy hfits => ?_
      cases hx.symm.trans hy
      exact hfits.2.1 (by rw [howed]; nofun)
    · exact .refl s

theorem galley_storeSilenceExpiry : Answer.galleyKept s (execStoreSilenceExpiry s) := by
  refine galley_next ?_
  split
  · exact .refl s
  · exact (galleyKept_enterStoreLost _).after (galleyKept_reach s _)

theorem galley_dataTimerExpiry : Answer.galleyKept s (execDataTimerExpiry s) := by
  refine galley_next ?_
  split
  · exact .refl s
  · exact (galleyKept_abandon _ _).after (galleyKept_reach s _)

theorem galley_waitTimerExpiry : Answer.galleyKept s (execWaitTimerExpiry s) := by
  refine galley_next ?_
  split
  · exact .refl s
  · exact (galleyKept_stall _).after (galleyKept_reach s _)

theorem galley_nudgeExpiry (n : Nat) : Answer.galleyKept s (execNudgeExpiry n s) := by
  refine galley_next ?_
  split
  · exact .refl s
  · exact (galleyKept_nudge _ n).after (galleyKept_reach s _)

theorem galley_samplePeriod : Answer.galleyKept s (execSamplePeriod s) := by
  refine galley_next ?_
  split
  · exact .refl s
  · exact (galleyKept_of_frame (onlyChanges_stream _)).after
      ((galleyKept_of_frame (State.onlyChanges.foldl _ onlyChanges_periodAtDesk _ _)).after (galleyKept_of_send rfl))

section
variable (l : LineId)

theorem galleyKept_lineTurn : s.galleyKept (s.lineTurn l) := galleyKept_of_frame (onlyChanges_lineTurn s l)

theorem galleyKept_miss (t : Nat) : s.galleyKept (s.miss t) := galleyKept_of_frame (onlyChanges_miss s t)

theorem galley_pollFrameSent : Answer.galleyKept s (execPollFrameSent l s) := by
  refine galley_next ?_
  split
  · exact galleyKept_of_frame (onlyChanges_putLine s l _)
  all_goals exact .refl s

theorem galley_badAnswerFrame : Answer.galleyKept s (execBadAnswerFrame l s) := by
  refine galley_next ?_
  split
  · exact (galleyKept_lineTurn _ l).after (galleyKept_miss s _)
  all_goals exact .refl s

theorem galley_pollWindowExpiry : Answer.galleyKept s (execPollWindowExpiry l s) := by
  refine galley_next ?_
  split
  · exact (galleyKept_lineTurn _ l).after ((galleyKept_miss _ _).after (galleyKept_reach s _))
  all_goals exact .refl s

theorem galley_idleWaitExpiry : Answer.galleyKept s (execIdleWaitExpiry l s) := by
  refine galley_next ?_
  split
  · exact (galleyKept_lineTurn _ l).after (galleyKept_reach s _)
  all_goals exact .refl s

theorem galley_outputFrameEnd : Answer.galleyKept s (execOutputFrameEnd l s) := by
  refine galley_next ?_
  split
  · exact (galleyKept_lineTurn _ l).after (galleyKept_of_send rfl)
  all_goals exact .refl s

end

end

/-! ### Every command, and every step -/

/-- Every command keeps the galley buffer within its bounds. -/
theorem galley_exec (c : Instr) (s : State) : Answer.galleyKept s (exec c s) := by
  cases c with
  | idle b => exact galley_taken (α := Unit) fun _ _ => galleyKept_of_send rfl
  | run b => exact galley_taken fun u _ => galleyKept_takeRun u
  | restart b => exact galley_restart s b
  | ackRestart b => exact galley_order fun _ _ _ => galleyKept_of_send rfl
  | loadDesk b =>
    exact galley_taken fun u x => (galleyKept_of_frame (onlyChanges_deskTurns _ _ _ _)).after
      (galleyKept_of_frame (onlyChanges_putDesk u x.desk _))
  | loadRoute b => exact galley_taken fun _ _ => galleyKept_of_send rfl
  | loadDiversion b => exact galley_taken fun _ _ => galleyKept_of_send rfl
  | loadTerminal b =>
    exact galley_taken fun u x => galleyKept_of_frame (onlyChanges_takeLoadTerminal u x)
  | setPressure b => exact galley_taken fun _ _ => galleyKept_of_send rfl
  | reseed b => exact galley_taken fun u x => galleyKept_of_frame (onlyChanges_takeReseed u x.toNat)
  | setTiming b => exact galley_order fun _ _ _ => galleyKept_of_send rfl
  | setReporting b => exact galley_order fun _ _ _ => galleyKept_of_send rfl
  | read b => exact galley_read s b
  | readStatus b => exact galley_order fun u _ _ => galleyKept_of_frame (onlyChanges_answerStatus u)
  | announce b => exact galley_taken fun u x => galleyKept_takeAnnounce u _ _ _ _
  | revise b => exact galley_taken fun u x => galleyKept_takeRevise u x.1 x.2
  | purge b => exact galley_taken fun u n => galleyKept_takePurge u n
  | move b => exact galley_taken fun u x => galleyKept_takeMove u x.1 x.2.1 x.2.2
  | pull b => exact galley_taken fun u x => galleyKept_takePull u x.1 x.2.1 x.2.2 .order
  | screen b | screenContinuation b =>
    exact galley_taken fun u x => galleyKept_of_frame (onlyChanges_takeScreen u x)
  | planEdition b => exact galley_taken fun u x => galleyKept_of_frame (onlyChanges_putEdition u x.1 _)
  | startEdition b => exact galley_taken fun u x => galleyKept_takeStart u x.toNat
  | closeEdition b => exact galley_taken fun u x => galleyKept_takeClose u x.toNat
  | sealEdition b => exact galley_taken fun u x => galleyKept_takeSeal u x.toNat
  | makePage b => exact galley_taken fun u x => galleyKept_takeMakePage u x.1 x.2
  | place b => exact galley_taken fun u x => galleyKept_takePlace u x.1 x.2
  | lift b => exact galley_taken fun u n => galleyKept_takeLift u n
  | release b => exact galley_taken fun u x => galleyKept_takeRelease u x.toNat
  | replate b => exact galley_taken fun u x => galleyKept_takeReplate u x.toNat
  | dropPage b => exact galley_taken fun u x => galleyKept_takeDropPage u x.toNat
  | typesetMode b => exact galley_typesetMode s b
  | abortSend b =>
    exact galley_order fun u _ _ => (galleyKept_abandon _ _).after (galleyKept_setMode u _)
  | pageData b => exact galley_pageData s b
  | unknownOrder k b => exact galley_next (galleyKept_takeFrame k b fun _ => galleyKept_refuseOrder _ _ _)
  | frameLengthOver k | frameBadCheck k => exact galley_next (galleyKept_failFrame k _)
  | powerOn | rstinRelease => exact galley_next (galleyKept_coldRestart s _)
  | fullRestart | warmRestart =>
    refine galley_next ?_
    split
    · exact galleyKept_orderedRestart s _
    · exact .refl s
  | noticeFrameEnd => exact galley_noticeFrameEnd s
  | pageCallOwedOffered => exact galley_pageCallOwedOffered s
  | storeSilenceExpiry => exact galley_storeSilenceExpiry s
  | pollFrameSent l => exact galley_pollFrameSent s l
  | nil l d k b => exact galley_answer l d _ .refl
  | keys l d b => exact galley_answer l d _ fun u => galleyKept_of_frame (onlyChanges_takeKeys u _ b)
  | get l d a => exact galley_request fun u _ => galleyKept_judgeRequest (galleyKept_holdStory u _ _ _)
  | getNext l d a => exact galley_request fun u _ => galleyKept_judgeRequest (galleyKept_holdStory u _ _ _)
  | send l d a => exact galley_request fun u _ => galleyKept_judgeRequest (galleyKept_takeSend u _ _ _ _ _)
  | returnStory l d a => exact galley_request fun u _ => galleyKept_judgeRequest (galleyKept_takeReturn u _ _)
  | spike l d a => exact galley_request fun u _ => galleyKept_judgeRequest (galleyKept_takeSpike u _ _)
  | pullRequest l d a =>
    exact galley_request fun u _ => galleyKept_judgeRequest
      ((galleyKept_attend _ _ _).after (galleyKept_takePull u _ _ _ _))
  | view l d a =>
    exact galley_request fun u _ => galleyKept_judgeRequest
      ((galleyKept_offer _ _).after (galleyKept_putTerminal u _ _))
  | back l d a =>
    exact galley_request fun u _ => galleyKept_judgeRequest (galleyKept_of_frame (onlyChanges_takeBack u _))
  | list l d a =>
    exact galley_request fun u _ => galleyKept_judgeRequest (galleyKept_of_frame (onlyChanges_appendFrame u _ _))
  | watch l d a =>
    exact galley_request fun u _ => galleyKept_judgeRequest (galleyKept_of_frame (onlyChanges_takeWatch u _ _))
  | unwatch l d a =>
    exact galley_request fun u _ => galleyKept_judgeRequest (galleyKept_of_frame (onlyChanges_takeUnwatch u _ _))
  | badAnswerFrame l => exact galley_badAnswerFrame s l
  | pollWindowExpiry l => exact galley_pollWindowExpiry s l
  | idleWaitExpiry l => exact galley_idleWaitExpiry s l
  | outputFrameEnd l => exact galley_outputFrameEnd s l
  | nudgeExpiry n => exact galley_nudgeExpiry s n
  | samplePeriod => exact galley_samplePeriod s
  | tsrdyAsserted => exact galley_next ((galleyKept_tsProceed _).after (galleyKept_of_frame (onlyChanges_setReady s _)))
  | galleyBlockEnd level => exact galley_next (galleyKept_endBlock s level)
  | dataTimerExpiry => exact galley_dataTimerExpiry s
  | waitTimerExpiry => exact galley_waitTimerExpiry s
  | unknownRequest l d b =>
    exact galley_answer l d _ fun u => galleyKept_of_frame (onlyChanges_refuseUnknown u _ b)

/-- Settles O9: an idle step reaches no send, and every command keeps the bounds. -/
theorem galleyBufferNeverOverflows : Obligations.GalleyBufferNeverOverflows := by
  unfold Obligations.GalleyBufferNeverOverflows
  intro s t h hstep
  unfold step at hstep
  split at hstep
  · cases hstep
    exact galleyKept_of_frame (onlyChanges_idleStep s) (by decide) h
  · rename_i c rest _
    exact galley_exec c { s with pending := rest } t hstep h

end Sys2Proof.Machine
end

section
/-! SUPPORT. TYPESET MODE and the start of a send (R156 to R159): a call that is made takes a free entry of the notice
queue or is owed, and the start test takes the page at the head of the queue or changes nothing. -/

namespace Sys2Proof.Machine

/-! ### Calls (R159, R161) -/

/-- The state in which a call for the send `x` has been made: it has taken a free entry and is OUTSTANDING with its data
timer, or it is OWED (R159, R161). -/
def State.called (s : State) (x : Send) : State :=
  if s.queue.length < 64 then
    (s.offer (s.pageCallOf x)).putSend
      { x with call := .outstanding, dataTimer := some (s.now + s.timing.stallTimeout * 1000) }
  else s.putSend { x with call := .owed }

/-- A call is due for the send `x` (R159, R162). -/
def Send.callIsDue (x : Send) : Prop :=
  x.call = .none ∧ x.finalAccepted = false ∧ x.buffer.length ≤ 1024

section
variable {s : State}

theorem callDue_of_none (h : s.typesetter.send = none) : s.callDue = s := by
  simp only [State.callDue, h]

variable {x : Send} (hx : s.typesetter.send = some x)
include hx

theorem offerCall_of_send : s.offerCall = s.called x := by
  simp only [State.offerCall, hx, noticeFree_pos_iff, State.called, State.after]

theorem callDue_of_due (hdue : x.callIsDue) : s.callDue = s.called x := by
  obtain ⟨hcall, hfinal, hroom⟩ := hdue
  simp only [State.callDue, hx, sixteen_le_freeGalley_iff]
  rw [if_pos ⟨hcall, hfinal, hroom⟩, offerCall_of_send hx]

theorem callDue_of_not_due (hdue : ¬ x.callIsDue) : s.callDue = s := by
  simp only [State.callDue, hx, sixteen_le_freeGalley_iff]
  exact if_neg hdue

end

/-! ### The head of the queue and the start test (R155, R156) -/

theorem Typesetter.head_eq (y : Typesetter) : y.head = (y.replateTier ++ y.firstTier).head? := by
  unfold Typesetter.head
  cases y.replateTier <;> rfl

theorem mayStart_iff (s : State) (r : Nat) :
    s.mayStart r = true ↔ s.typesetter.mode ≠ .hold ∧ s.typesetter.send = none ∧ s.part = .running ∧
      s.storeLost = false ∧ ∀ c, s.typesetter.cancel = some c → c.page = some r := by
  cases hcancel : s.typesetter.cancel <;>
    simp [State.mayStart, hcancel, and_assoc]

/-- The state in which the page at record `r` has left the queue and is SENDING, with its send set up afresh and no call
made yet (R156, R158). -/
def State.started (s : State) (r : Nat) : State :=
  ((s.dequeue r).putSend (Send.initial r)).movePage r { s.page r with state := .sending } .typesetter

theorem typesetter_started (s : State) (r : Nat) :
    (s.started r).typesetter = { s.typesetter.remove r with send := some (Send.initial r) } :=
  typesetter_movePage _ _ _ _

theorem started_onlyChanges (s : State) (r : Nat) :
    s.onlyChanges ([.pages, .editions, .typesetter] ++ noticeFields) (s.started r) :=
  ((onlyChanges_dequeue s r).mono (by decide)).trans
    (((onlyChanges_putSend _ _).mono (by decide)).trans ((movePage_onlyChanges _ _ _ _).mono (by decide)))

theorem startSend_eq (s : State) (r : Nat) : s.startSend r = (s.started r).called (Send.initial r) :=
  callDue_of_due (congrArg Typesetter.send (typesetter_started s r)) ⟨rfl, rfl, Nat.zero_le _⟩

section
variable {s : State}

theorem startTest_of_empty (h : s.typesetter.head = none) : s.startTest = s := by
  simp only [State.startTest, h]

variable {r : Nat} (hr : s.typesetter.head = some r)
include hr

theorem startTest_of_barred (h : ¬ s.mayStart r = true) : s.startTest = s := by
  simp only [State.startTest, hr]
  exact if_neg h

theorem startTest_of_may (h : s.mayStart r = true) : s.startTest = (s.started r).called (Send.initial r) := by
  simp only [State.startTest, hr]
  rw [if_pos h, startSend_eq]

end

/-! ### TYPESET MODE (R157) -/

theorem exec_typesetMode_of_listening {s : State} (h : s.listening) (m : Byte) :
    exec (.typesetMode [m]) s = .next
      (match readMode m with
       | none => s.refused Kind.typesetMode .range none
       | some mode => (s.heard.setMode mode).startTest) :=
  congrArg Host.Outcome.next (takeFrame_of_listening s h _ _ (by simp) _)

theorem setMode_of_readMode {s : State} (m : Byte) (refused : State) :
    (match readMode m with
     | none => refused
     | some mode => (s.setMode mode).startTest) =
      if m = 0 then (s.setMode .hold).startTest
      else if m = 1 then (s.setMode .run).startTest
      else if m = 2 then (s.setMode .step).startTest
      else refused := by
  unfold readMode
  by_cases hhold : m = 0
  · simp only [hhold, if_pos]
  by_cases hrun : m = 1
  · simp only [hrun, if_pos, if_neg (show ¬ (1 : Byte) = 0 by decide)]
  by_cases hstep : m = 2
  · simp only [hstep, if_pos, if_neg (show ¬ (2 : Byte) = 0 by decide), if_neg (show ¬ (2 : Byte) = 1 by decide)]
  · simp only [if_neg hhold, if_neg hrun, if_neg hstep]

theorem page_started (s : State) (r : Nat) : (s.started r).page r = { s.page r with state := .sending } :=
  page_of_made ((pageAt_movePage _ r _ _ r).trans (if_pos rfl))

theorem called_started (s : State) (r : Nat) :
    (s.started r).called (Send.initial r) =
      if (s.started r).queue.length < 64 then
        { (s.started r).offer (.pageCall r (s.page r).edition (s.page r).number 0) with
          typesetter := { (s.started r).typesetter with
            send := some { Send.initial r with
              call := .outstanding, dataTimer := some (s.now + s.timing.stallTimeout * 1000) } } }
      else
        { s.started r with typesetter :=
            { (s.started r).typesetter with send := some { Send.initial r with call := .owed } } } := by
  have hnow : (s.started r).now = s.now := (started_onlyChanges s r .now (by decide)).symm
  have htiming : (s.started r).timing = s.timing := (started_onlyChanges s r .timing (by decide)).symm
  have hcall : (s.started r).pageCallOf (Send.initial r) =
      .pageCall r (s.page r).edition (s.page r).number 0 := by
    simp only [State.pageCallOf, Send.initial, page_started]
  simp only [State.called, hnow, htiming, hcall, State.putSend, State.putTypesetter,
    (onlyChanges_offer _ _).queueOf]

/-- Settles O57: the mode byte case by case, and the start test by its conditions. -/
theorem sendsStartAtTheHead : Obligations.SendsStartAtTheHead := by
  unfold Obligations.SendsStartAtTheHead
  intro s
  refine ⟨fun hlisten m => ?_, ?_⟩
  · rw [exec_typesetMode_of_listening hlisten, setMode_of_readMode]
    rfl
  · intro y head may
    have hhead : head = s.typesetter.head := (Typesetter.head_eq _).symm
    rw [hhead]
    refine ⟨startTest_of_empty, fun r hr hbarred => startTest_of_barred hr (mt (mayStart_iff s r).1 hbarred),
      fun r hr hmay => ?_⟩
    rw [startTest_of_may hr ((mayStart_iff s r).2 hmay)]
    exact called_started s r

end Sys2Proof.Machine
end

section
/-! SUPPORT. PAGE DATA and the owed call (R159 to R162): the checks decide in their order, and what is accepted makes
the next call when it is due. -/

namespace Sys2Proof.Machine

theorem exec_pageData_of_listening {s : State} (h : s.listening) (r o2 o1 o0 f : Byte) {hi lo : Byte}
    {bytes : List Byte} (hlen : bytes.length = nat2 hi lo) (hsize : bytes.length ≤ 1024) :
    let y : PageDataOrder :=
      { record := r.toNat, offset := nat3 o2 o1 o0, final := readFlag f, bytes := bytes }
    exec (.pageData (r :: o2 :: o1 :: o0 :: f :: hi :: lo :: bytes)) s = .next
      (s.heard.judge Kind.pageData (some r.toNat) (s.heard.pageDataChecks y) (s.heard.takePageData y)) := by
  change Host.Outcome.next _ = _
  rw [takeFrame_of_listening s h _ _ (by simp only [List.length_cons]; omega)]
  simp only [State.readBody, readPageData, if_pos (And.intro hlen hsize)]

section
variable {s : State} {y : PageDataOrder}

theorem judge_pageData_of_range {kind : Byte} {ident : Option Nat} {taken : State} (h : 127 < y.record) :
    s.judge kind ident (s.pageDataChecks y) taken = s.refuseOrder kind .range ident := by
  simp only [State.pageDataChecks, judge_cons, decide_eq_true_eq, if_pos h]

theorem judge_pageData_of_none {kind : Byte} {ident : Option Nat} {taken : State} (hr : y.record ≤ 127)
    (h : s.typesetter.send = none) :
    s.judge kind ident (s.pageDataChecks y) taken = s.refuseOrder kind .offset ident := by
  have hnot : s.isSending y.record = false := by
    simp [State.isSending, Typesetter.sendingPage, h]
  simp only [State.pageDataChecks, judge_cons, decide_eq_true_eq, if_neg (Nat.not_lt.2 hr), hnot,
    Bool.not_false, if_true]

theorem judge_pageData_of_send {kind : Byte} {ident : Option Nat} {taken : State} (hr : y.record ≤ 127)
    {x : Send} (h : s.typesetter.send = some x) :
    s.judge kind ident (s.pageDataChecks y) taken =
      if x.page ≠ y.record ∨ x.call ≠ .outstanding ∨ y.offset ≠ x.expected then
        s.refuseOrder kind .offset ident
      else if (y.bytes = [] ∧ y.final = false) ∨ 16777215 < y.offset + y.bytes.length then
        s.refuseOrder kind .length ident
      else taken := by
  simp only [State.pageDataChecks, judge_cons, judge_nil, State.isSending, Typesetter.sendingPage,
    State.callState, State.expectedOffset, h, Option.map_some, Bool.not_eq_true', beq_eq_false_iff_ne,
    decide_eq_true_eq, if_neg (Nat.not_lt.2 hr), Bool.and_eq_true, List.isEmpty_iff, ite_or, ne_eq,
    Option.some.injEq, show Config.offsetLimit = 16777215 from rfl]

theorem takePageData_of_send {x : Send} (h : s.typesetter.send = some x) :
    s.takePageData y =
      if (x.accept y).finalAccepted = false ∧ (x.accept y).buffer.length ≤ 1024 then
        ((s.putSend (x.accept y)).called (x.accept y)).tsLine
      else (s.putSend (x.accept y)).tsLine := by
  simp only [State.takePageData, h]
  split
  next hdue => rw [callDue_of_due rfl ⟨rfl, hdue⟩]
  next hdue => rw [callDue_of_not_due rfl fun hcall => hdue hcall.2]

end

theorem exec_pageCallOwedOffered_of_none {s : State} (h : s.typesetter.send = none) :
    exec .pageCallOwedOffered s = .next s := by
  simp only [exec, execPageCallOwedOffered, h]

theorem exec_pageCallOwedOffered_of_send {s : State} {x : Send} (h : s.typesetter.send = some x) :
    exec .pageCallOwedOffered s = .next (if x.call = .owed then s.called x else s) := by
  simp only [exec, execPageCallOwedOffered, h, offerCall_of_send h]

/-- An owed call that finds no free entry stays owed, and nothing else changes. -/
theorem called_of_owed {s : State} {x : Send} (h : s.typesetter.send = some x) (howed : x.call = .owed)
    (hfull : 64 ≤ s.queue.length) : s.called x = s := by
  have hsame : ({ x with call := .owed } : Send) = x := by rw [← howed]
  have hput : s.putSend x = s := by
    simp only [State.putSend, State.putTypesetter, ← h]
  rw [State.called, if_neg (Nat.not_lt.2 hfull), hsame, hput]

/-- Settles O58: the checks of PAGE DATA in their order, the accepted data, and the owed call offered again. -/
theorem pageDataFillsTheBuffer : Obligations.PageDataFillsTheBuffer := by
  unfold Obligations.PageDataFillsTheBuffer
  intro s call
  refine ⟨?data, exec_pageCallOwedOffered_of_none, fun x hx => ?owed⟩
  case data =>
    intro hlisten r o2 o1 o0 f hi lo bytes hlen hsize off refuse answer
    have hexec := exec_pageData_of_listening hlisten r o2 o1 o0 f hlen hsize
    refine ⟨fun hr => ?range, fun hr hnone => ?idle, fun x hr hx => ?sending⟩
    case range => exact hexec.trans (congrArg _ (judge_pageData_of_range hr))
    case idle => exact hexec.trans (congrArg _ (judge_pageData_of_none hr hnone))
    case sending =>
      have hflag : readFlag f = false ↔ f = 0 := by simp [readFlag]
      refine hexec.trans (congrArg _ ?_)
      rw [judge_pageData_of_send (s := s.heard) hr hx, takePageData_of_send (s := s.heard) hx]
      simp only [hflag]
      rfl
  case owed =>
    have hexec := exec_pageCallOwedOffered_of_send hx
    refine ⟨fun hstays => ?stays, fun howed hroom => ?offered⟩
    case stays =>
      rw [hexec]
      split
      next howed => rw [called_of_owed hx howed (hstays.resolve_left (absurd howed))]
      next => rfl
    case offered => rw [hexec, if_pos howed]; exact rfl

end Sys2Proof.Machine
end

section
/-! SUPPORT. The typesetter line (R157 to R166, R170, R202): what a ready block is, how the line goes on, what the end
of a block and the wait timer do, and what the line carries. -/

namespace Sys2Proof.Machine

/-! ### Ready blocks (R162, R163) -/

theorem nextBlock_of_full {x : Send} (h : 64 ≤ x.buffer.length) :
    x.nextBlock = some (.galley x.page x.nextSequence (x.buffer.take 64) false,
      { x with
        buffer := x.buffer.drop 64, nextSequence := (x.nextSequence + 1) % 256, blocksBegun := x.blocksBegun + 1 }) :=
  if_pos h

theorem nextBlock_of_last {x : Send} (hshort : x.buffer.length < 64) (hfinal : x.finalAccepted = true)
    (hunsent : x.endBlockSent = false) :
    x.nextBlock = some (.galley x.page x.nextSequence x.buffer true,
      { x with buffer := [], nextSequence := (x.nextSequence + 1) % 256, blocksBegun := x.blocksBegun + 1 }) :=
  (if_neg (Nat.not_le.2 hshort)).trans (if_pos ⟨hfinal, hunsent⟩)

theorem nextBlock_isSome_iff (x : Send) :
    x.nextBlock.isSome = true ↔ 64 ≤ x.buffer.length ∨ (x.finalAccepted = true ∧ x.endBlockSent = false) := by
  unfold Send.nextBlock
  split
  next hfull => simp [hfull]
  next hfull =>
    split
    next hlast => simp [hlast]
    next hlast => simp only [Option.isSome_none, Bool.false_eq_true, hfull, hlast, or_self]

theorem blockReady_iff (y : Typesetter) :
    y.blockReady = true ↔ y.cancel ≠ none ∨ ∃ x, y.send = some x ∧
      (64 ≤ x.buffer.length ∨ (x.finalAccepted = true ∧ x.endBlockSent = false)) := by
  rw [Typesetter.blockReady, Bool.or_eq_true, Option.isSome_iff_ne_none]
  refine or_congr Iff.rfl ?_
  cases y.send with
  | none => simp
  | some x => simp [nextBlock_isSome_iff]

/-! ### The line goes on (R163, R166) -/

section
variable {s : State}

theorem tsProceed_of_idle (h : s.typesetter.block ≠ none ∨ ¬ s.typesetter.blockReady = true) :
    s.tsProceed = s.putTypesetter s.typesetter.endWait := by
  refine if_pos ?_
  rwa [Bool.or_eq_true, Option.isSome_iff_ne_none, Bool.not_eq_true', ← Bool.not_eq_true]

theorem judgeReady_of_idle (h : s.typesetter.block ≠ none ∨ ¬ s.typesetter.blockReady = true) :
    s.judgeReady = s := by
  refine if_pos ?_
  rw [Bool.or_eq_true, Bool.or_eq_true, Option.isSome_iff_ne_none, Bool.not_eq_true', ← Bool.not_eq_true]
  exact .inl h

theorem judgeReady_of_deasserted (h : s.tsrdy.asserted = false) : s.judgeReady = s :=
  if_pos (by rw [h, Bool.not_false, Bool.or_true])

theorem judgeReady_of_no_falls (h : s.tsrdy.falls = []) : s.judgeReady = s := by
  rw [State.judgeReady, h]
  exact ite_self _

section
variable (hfree : s.typesetter.block = none) (hready : s.typesetter.blockReady = true)
include hfree hready

theorem judgeReady_of_asserted {fell : Bool} {rest : List Bool}
    (h : s.tsrdy = { asserted := true, falls := fell :: rest }) :
    s.judgeReady = { s with tsrdy := { asserted := !fell, falls := rest } } := by
  simp only [State.judgeReady, hfree, hready, h, Option.isSome_none, Bool.not_true, Bool.or_self,
    Bool.false_eq_true, if_false]

theorem tsProceed_of_deasserted (h : s.tsrdy.asserted = false) :
    s.tsProceed =
      if s.typesetter.waiting then s
      else s.putTypesetter
        { s.typesetter with waiting := true, waitTimer := some (s.after s.timing.stallTimeout) } := by
  simp only [State.tsProceed, hfree, hready, h, Option.isSome_none, Bool.not_true, Bool.or_self,
    Bool.false_eq_true, if_false]

theorem tsProceed_of_asserted (h : s.tsrdy.asserted = true) : s.tsProceed = s.beginBlock := by
  simp only [State.tsProceed, hfree, hready, h, Option.isSome_none, Bool.not_true, Bool.or_self,
    Bool.false_eq_true, if_false, if_true]

end

theorem beginBlock_of_cancel {c : Cancel} (h : s.typesetter.cancel = some c) :
    s.beginBlock = ((s.putTypesetter
      { s.typesetter.endWait with cancel := none, block := some (.cancel c) }).clearStall).startTest := by
  simp only [State.beginBlock, h]

theorem beginBlock_of_send {x sent : Send} {b : Block} (hcancel : s.typesetter.cancel = none)
    (hx : s.typesetter.send = some x) (hnext : x.nextBlock = some (b, sent)) :
    s.beginBlock = ((s.putTypesetter
      { s.typesetter.endWait with send := some sent, block := some b }).clearStall).callDue := by
  simp only [State.beginBlock, hcancel, hx, Option.bind_some, hnext]

/-- A block of the page SENDING begins as the line goes on with TSRDY asserted and no CANCEL pending. -/
theorem tsProceed_of_send {x sent : Send} {b : Block} (hfree : s.typesetter.block = none)
    (hasserted : s.tsrdy.asserted = true) (hcancel : s.typesetter.cancel = none)
    (hx : s.typesetter.send = some x) (hnext : x.nextBlock = some (b, sent)) :
    s.tsProceed = ((s.putTypesetter
      { s.typesetter.endWait with send := some sent, block := some b }).clearStall).callDue := by
  have hready : s.typesetter.blockReady = true := by
    simp [Typesetter.blockReady, hx, hnext]
  rw [tsProceed_of_asserted hfree hready hasserted, beginBlock_of_send hcancel hx hnext]

theorem tsProceed_of_cancel {c : Cancel} (hfree : s.typesetter.block = none)
    (hasserted : s.tsrdy.asserted = true) (hcancel : s.typesetter.cancel = some c) :
    s.tsProceed = ((s.putTypesetter
      { s.typesetter.endWait with cancel := none, block := some (.cancel c) }).clearStall).startTest := by
  have hready : s.typesetter.blockReady = true := by
    simp [Typesetter.blockReady, hcancel]
  rw [tsProceed_of_asserted hfree hready hasserted, beginBlock_of_cancel hcancel]

/-! ### The end of a block (R163, R165) -/

/-- The state in which the block on the line has ended, with TSRDY at `level`. -/
def State.lineFreed (s : State) (level : Bool) : State :=
  (s.setReady level).putTypesetter { s.typesetter with block := none }

theorem endBlock_of_free (h : s.typesetter.block = none) (level : Bool) : s.endBlock level = s := by
  simp only [State.endBlock, h]

theorem endBlock_of_last {r q : Nat} {data : List Byte} (h : s.typesetter.block = some (.galley r q data true))
    (level : Bool) :
    s.endBlock level = (s.lineFreed level).completeSend.tsProceed := by
  simp only [State.endBlock, h, State.lineFreed]

theorem endBlock_of_other {b : Block} (h : s.typesetter.block = some b)
    (hb : ∀ r q data, b ≠ .galley r q data true) (level : Bool) :
    s.endBlock level = (s.lineFreed level).tsProceed := by
  cases b with
  | cancel c => simp only [State.endBlock, h, State.lineFreed]
  | galley r q data last =>
    cases last with
    | true => exact absurd rfl (hb r q data)
    | false => simp only [State.endBlock, h, State.lineFreed]

theorem OutputMode.afterCompletion_eq (m : OutputMode) : m.afterCompletion = if m = .run then .run else .hold := by
  cases m <;> rfl

theorem completeSend_of_sentOff {x : Send} (h : s.typesetter.send = some x) {done : State}
    (hdone : s.sentOff x.page (s.page x.page) = done) :
    s.completeSend = (done.setMode (if done.typesetter.mode = .run then .run else .hold)).startTest := by
  rw [completeSend_eq h, OutputMode.afterCompletion_eq, hdone]

/-! ### The wait timer (R166) and the events of the line (R170) -/

theorem exec_waitTimerExpiry_of_stopped (h : s.typesetter.waitTimer = none) : exec .waitTimerExpiry s = .next s := by
  simp only [exec, execWaitTimerExpiry, h]

theorem exec_waitTimerExpiry_of_running {due : Nat} (h : s.typesetter.waitTimer = some due) :
    exec .waitTimerExpiry s = .next (s.reach due).stall := by
  simp only [exec, execWaitTimerExpiry, h]

theorem stall_eq (s : State) :
    s.stall =
      let marked := s.putTypesetter { s.typesetter with waitTimer := none, stalled := true }
      if s.typesetter.stalled then marked else marked.offer (marked.typesetterEventOf .stall none) := by
  unfold State.stall
  split
  next hstalled =>
    have hsame : ({ s.typesetter with waitTimer := none } : Typesetter) =
        { s.typesetter with waitTimer := none, stalled := true } := by rw [← hstalled]
    exact congrArg s.putTypesetter hsame
  next => rfl

theorem typesetterEventOf_of_none (h : s.typesetter.send = none) (kind : TypesetterEventKind)
    (cause : Option AbandonCause) : s.typesetterEventOf kind cause = .typesetterEvent kind none cause 0 0 := by
  simp only [State.typesetterEventOf, h]

theorem typesetterEventOf_of_send {x : Send} (h : s.typesetter.send = some x) (kind : TypesetterEventKind)
    (cause : Option AbandonCause) :
    s.typesetterEventOf kind cause =
      .typesetterEvent kind (some (x.page, (s.page x.page).edition, (s.page x.page).number)) cause x.expected
        x.blocksBegun := by
  simp only [State.typesetterEventOf, h]

theorem tsout_of_free (h : s.typesetter.block = none) : s.tsout = [0x00] := by
  simp only [State.tsout, h]
  rfl

theorem tsout_of_block {b : Block} (h : s.typesetter.block = some b) : s.tsout = b.bytes := by
  simp only [State.tsout, h]

end

theorem option1_eq (o : Option Nat) : option1 o = o.elim 0xFF byte := by
  cases o <;> rfl

/-! ### What follows a send's end (R148, R149) -/

theorem all_sent_iff (slots : List Slot) :
    slots.all (fun slot => slot.code == .sent) = true ↔ ∀ slot ∈ slots, slot.code = .sent := by
  simp only [List.all_eq_true, beq_iff_eq]

theorem completeTest_eq (s : State) (e : Nat) :
    let x := s.edition e
    s.completeTest e =
      if (x.state = .running ∨ x.state = .closed) ∧ x.completeReported = false ∧
          ∀ slot ∈ x.slots, slot.code = .sent then
        (s.putEdition e { x with completeReported := true }).offer
          (.editionReport e .complete x.planned x.size x.allowance x.counter x.slots)
      else s := by
  simp only [State.completeTest, all_sent_iff, State.editionReportOf, State.edition_putEdition, if_true]

theorem afterSend_eq (s : State) (e : Nat) :
    s.afterSend e =
      (if ((s.completeTest e).edition e).sealPending = true then (s.completeTest e).seal e
      else (s.completeTest e).sealTest e).evaluateJoins := rfl

/-! ### The bytes of a block (R202) -/

/-- The check of a block is sent in 2 bytes. -/
theorem be2_checkSum (bs : List Byte) :
    be2 (checkSum bs) =
      [byte ((bs.map BitVec.toNat).sum % 65536 / 256), byte ((bs.map BitVec.toNat).sum % 65536)] := rfl

theorem bytes_cancel (c : Cancel) :
    (Block.cancel c).bytes =
      [0xA5] ++ [c.page.elim 0xFF byte, byte c.sequence, 0xC0] ++
        be2 (checkSum [c.page.elim 0xFF byte, byte c.sequence, 0xC0]) := by
  rw [← option1_eq]
  rfl

/-- Settles O60: each event of the line, the line going on by what is ready and by TSRDY, the calls, the bytes, and
what follows a send's end. -/
theorem blocksGoDownTheTypesetterLine : Obligations.BlocksGoDownTheTypesetterLine := by
  unfold Obligations.BlocksGoDownTheTypesetterLine
  intro s y cleared ready free begun next told
  have hready : y.blockReady = true ↔ ready := blockReady_iff y
  have hidle : y.block ≠ none ∨ ¬ ready → y.block ≠ none ∨ ¬ y.blockReady = true :=
    Or.imp_right (mt hready.1)
  refine ⟨rfl, fun level hfree => ?ended,
    fun level b hb => ⟨fun hother => ?freed, fun r q data x hlast hx => ?done⟩,
    exec_waitTimerExpiry_of_stopped, fun due htimer => ?expired, ?unjudged, fun fell rest hfree hb htsrdy => ?judged,
    fun h => tsProceed_of_idle (hidle h), fun hfree hb h => tsProceed_of_deasserted hfree (hready.2 hb) h,
    fun hfree hasserted => ⟨fun c hc => tsProceed_of_cancel hfree hasserted hc, fun x hcancel hx =>
      ⟨fun hfull => tsProceed_of_send hfree hasserted hcancel hx (nextBlock_of_full hfull),
        fun hshort hfinal hunsent =>
          tsProceed_of_send hfree hasserted hcancel hx (nextBlock_of_last hshort hfinal hunsent)⟩⟩,
    fun hnone => ⟨callDue_of_none hnone, typesetterEventOf_of_none hnone⟩,
    fun x hx => ?call, tsout_of_free, fun b hb => tsout_of_block hb, ⟨fun p q data last => rfl, bytes_cancel⟩,
    fun e => ?follows⟩
  case ended => exact congrArg Host.Outcome.next (endBlock_of_free hfree level)
  case freed => exact congrArg Host.Outcome.next (endBlock_of_other hb hother level)
  case done =>
    intro p done
    have htold : (s.lineFreed level).sentOff x.page ((s.lineFreed level).page x.page) = done := rfl
    have hended : s.endBlock level = _ := endBlock_of_last (hb.trans (congrArg some hlast)) level
    rw [completeSend_of_sentOff (s := s.lineFreed level) hx htold] at hended
    exact congrArg Host.Outcome.next hended
  case expired =>
    rw [exec_waitTimerExpiry_of_running htimer, stall_eq]
    rfl
  case unjudged =>
    rintro (hbusy | hnothing | hlow | hnofalls)
    · exact congrArg State.tsProceed (judgeReady_of_idle (.inl hbusy))
    · exact congrArg State.tsProceed (judgeReady_of_idle (hidle (.inr hnothing)))
    · exact congrArg State.tsProceed (judgeReady_of_deasserted hlow)
    · exact congrArg State.tsProceed (judgeReady_of_no_falls hnofalls)
  case judged => exact congrArg State.tsProceed (judgeReady_of_asserted hfree (hready.2 hb) htsrdy)
  case call =>
    intro p due
    have hdue : due ↔ x.callIsDue := and_congr_right fun _ => and_congr_right fun _ => by omega
    refine ⟨fun h => callDue_of_not_due hx (mt hdue.2 h), fun h hroom => ?_, fun h hroom => ?_,
      typesetterEventOf_of_send hx⟩
    · rw [callDue_of_due hx (hdue.1 h), State.called, if_pos hroom]
      rfl
    · rw [callDue_of_due hx (hdue.1 h), State.called, if_neg (Nat.not_lt.2 hroom)]
  case follows =>
    rw [afterSend_eq, completeTest_eq]

end Sys2Proof.Machine
end

section
/-! SUPPORT. What the page unit and the typesetter unit add to the notice queue while a notice is being sent (R145,
R179, R180): the queue only grows at its end, and the joins add PAGE EVENTs with cause JOIN alone. -/

namespace Sys2Proof.Machine

/-- With a notice being sent, the queue of `t` is that of `s` with notices behind it that are all as `P` says. -/
structure State.gains (P : Notice → Prop) (s t : State) : Prop where
  reporting : t.reporting = s.reporting
  sending : s.sending.isSome = true → t.sending = s.sending
  queue : s.sending.isSome = true → ∃ more, t.queue = s.queue ++ more ∧ ∀ n ∈ more, P n

section
variable {P Q : Notice → Prop} {s t u : State}

theorem State.gains.refl (s : State) : s.gains P s :=
  ⟨rfl, fun _ => rfl, fun _ => ⟨[], (List.append_nil _).symm, List.forall_mem_nil _⟩⟩

theorem State.gains.after (k : t.gains P u) (h : s.gains P t) : s.gains P u where
  reporting := k.reporting.trans h.reporting
  sending hbusy := (k.sending (h.sending hbusy ▸ hbusy)).trans (h.sending hbusy)
  queue hbusy := by
    obtain ⟨l, hl, hlP⟩ := h.queue hbusy
    obtain ⟨m, hm, hmP⟩ := k.queue (h.sending hbusy ▸ hbusy)
    exact ⟨l ++ m, by rw [hm, hl, List.append_assoc], List.forall_mem_append.2 ⟨hlP, hmP⟩⟩

theorem gains_of_frame {fs : List Field} (h : s.onlyChanges fs t)
    (hd : ∀ f ∈ [Field.queue, .sending, .reporting], f ∉ fs := by decide) : s.gains P t where
  reporting := (h .reporting (hd _ (by decide))).symm
  sending _ := (h .sending (hd _ (by decide))).symm
  queue _ := ⟨[], by rw [List.append_nil]; exact (h .queue (hd _ (by decide))).symm, List.forall_mem_nil _⟩

theorem gains_admitNotice (s : State) {n : Notice} (hn : P n) : s.gains P (s.admitNotice n) := by
  refine ⟨(onlyChanges_admit s n .reporting (by decide)).symm, fun hbusy => ?_, fun hbusy => ⟨[n], ?_, ?_⟩⟩
  · obtain ⟨m, hm⟩ := Option.isSome_iff_exists.1 hbusy
    simp only [State.admitNotice, State.startNotice, hm]
  · obtain ⟨m, hm⟩ := Option.isSome_iff_exists.1 hbusy
    simp only [State.admitNotice, State.startNotice, hm]
  · exact List.forall_mem_singleton.2 hn

theorem gains_markDropped (s : State) : s.gains P s.markDropped :=
  ⟨rfl, fun _ => rfl, fun _ => ⟨[], (List.append_nil _).symm, List.forall_mem_nil _⟩⟩

/-- A notice that is not RESTARTED joins the queue or is lost; a report whose group is disabled is lost (R180, R181). -/
theorem gains_offer (s : State) {n : Notice}
    (hn : (∀ g, n.noticeClass = .report g → s.reporting.enabled g = true) → P n) : s.gains P (s.offer n) := by
  unfold State.offer
  split
  next hclass =>
    split
    · exact gains_admitNotice s (hn fun g hg => by rw [hclass] at hg; cases hg)
    · exact gains_markDropped s
  next g hclass =>
    split
    next hg =>
      split
      · exact gains_admitNotice s (hn fun g' hg' => by rw [hclass] at hg'; cases hg'; exact hg)
      · exact gains_markDropped s
    next => exact .refl s
  next hclass =>
    split
    · exact gains_admitNotice s (hn fun g hg => by rw [hclass] at hg; cases hg)
    · exact .refl s
  next hclass => exact gains_admitNotice s (hn fun g hg => by rw [hclass] at hg; cases hg)

theorem gains_movePage (s : State) (r : Nat) (p : Page) (c : PageCause)
    (hn : s.reporting.page = true → P (pageEventOf r p c)) : s.gains P (s.movePage r p c) := by
  have hwrite := writePage_onlyChanges s r p
  refine State.gains.after (t := s.writePage r p) (gains_offer _ fun henabled => hn ?_) (gains_of_frame hwrite)
  rw [hwrite .reporting (by decide)]
  exact henabled .page rfl

/-- Whatever the page unit and the typesetter unit do, the queue only grows at its end. -/
theorem State.pageWork.gains (h : s.pageWork t) : s.gains (fun _ => True) t := by
  induction h with
  | refl => exact .refl s
  | tail _ hlast ih =>
    refine State.gains.after ?_ ih
    cases hlast with
    | page r o => exact gains_of_frame (onlyChanges_putPage _ r o)
    | edition d x => exact gains_of_frame (onlyChanges_putEdition _ d x)
    | typesetter x => exact gains_of_frame (onlyChanges_putTypesetter _ x)
    | ready r => exact ⟨rfl, fun _ => rfl, fun _ => ⟨[], (List.append_nil _).symm, List.forall_mem_nil _⟩⟩
    | lift n => exact gains_of_frame (onlyChanges_modStory _ n _)
    | offer n _ => exact gains_offer _ fun _ => trivial
    | attend x b => exact gains_of_frame (onlyChanges_attend _ x b)

end

/-! ### The joins (R145) -/

/-- A PAGE EVENT of a page that has joined the typesetter queue, offered while the PAGE group is enabled or not. -/
def Notice.tellsJoin (enabled : Bool) (n : Notice) : Prop :=
  enabled = true ∧ ∃ r e number tier broken stale replates,
    n = .pageEvent r e number (some .queued) tier broken stale replates .join

/-- What joins tell. -/
def State.tellsJoins (s t : State) : Prop := s.gains (Notice.tellsJoin s.reporting.page) t

theorem State.tellsJoins.after {s t u : State} (k : t.tellsJoins u) (h : s.tellsJoins t) : s.tellsJoins u := by
  unfold State.tellsJoins at k
  rw [h.reporting] at k
  exact State.gains.after k h

theorem State.tellsJoins.foldl {β : Type} (g : State → β → State)
    (h : ∀ (s : State) (b : β), s.tellsJoins (g s b)) (l : List β) (s : State) : s.tellsJoins (l.foldl g s) := by
  induction l generalizing s with
  | nil => exact State.gains.refl s
  | cons b rest ih => exact (ih (g s b)).after (h s b)

section
variable (s : State)

theorem tellsJoins_joinPage (r : Nat) : s.tellsJoins (s.joinPage r) := by
  have happended : s.tellsJoins (s.putTypesetter (s.typesetter.append (s.page r).tier r)) :=
    gains_of_frame (onlyChanges_putTypesetter _ _)
  refine State.tellsJoins.after ?_ happended
  exact gains_movePage _ r _ _ fun henabled => ⟨henabled, _, _, _, _, _, _, _, rfl⟩

theorem tellsJoins_spendJoin (e : Nat) : s.tellsJoins (s.spendJoin e) := gains_of_frame (spendJoin_frame s e)

theorem tellsJoins_joinReplates (l : List Nat) : s.tellsJoins (joinReplates l s).1 := by
  induction l generalizing s with
  | nil => exact State.gains.refl s
  | cons r rest ih =>
    unfold joinReplates
    split
    · exact (ih _).after (tellsJoins_joinPage s r)
    · exact State.gains.refl s

theorem tellsJoins_joinSections (l : List (Nat × Nat)) : s.tellsJoins (joinSections l s) := by
  induction l generalizing s with
  | nil => exact State.gains.refl s
  | cons x rest ih =>
    unfold joinSections
    split
    · split
      · exact (ih _).after ((State.tellsJoins.foldl _ tellsJoins_joinPage _ _).after (tellsJoins_spendJoin s x.1))
      · exact State.gains.refl s
    · exact ih s

/-- An evaluation of the joins tells the joins, and nothing else. -/
theorem tellsJoins_evaluateJoins : s.tellsJoins s.evaluateJoins := by
  have hreplates := tellsJoins_joinReplates s s.waitingReplates
  unfold State.evaluateJoins
  split <;> rename_i heq <;> rw [heq] at hreplates
  · exact (tellsJoins_joinSections _ _).after hreplates
  · exact hreplates

end

end Sys2Proof.Machine
end

section
/-! SUPPORT. The page an abandoned send returns (R134, R146, R148, R167): QUEUED at the head of its tier, or READY when
its section is not whole, and what follows the end of its send. -/

namespace Sys2Proof.Machine

/-! ### Report slots (R149) -/

theorem counter_movePage (s : State) (r : Nat) (p : Page) (c : PageCause) (d : Nat) :
    ((s.movePage r p c).edition d).counter = (s.edition d).counter := by
  rw [edition_movePage]
  split <;> rfl

/-- The slot of a page that has moved shows it. -/
theorem slot_mem_movePage {s : State} {p : Page} (hlow : 1 ≤ p.number)
    (hhigh : p.number ≤ (s.edition p.edition).slots.length) (r : Nat) (c : PageCause) :
    p.slot ∈ ((s.movePage r p c).edition p.edition).slots := by
  rw [edition_movePage, if_pos rfl]
  exact List.mem_set (by omega) _

/-- An edition with a page that is not SENT is not complete (R149). -/
theorem completeTest_of_unsent {s : State} {e : Nat} {slot : Slot} (hslot : slot ∈ (s.edition e).slots)
    (hcode : slot.code ≠ .sent) : s.completeTest e = s := by
  rw [completeTest_eq]
  exact if_neg fun ⟨_, _, hall⟩ => hcode (hall slot hslot)

/-! ### The page comes back (R148, R167) -/

/-- A page as an abandon returns it, in state `q`: broken, with no stale-pending mark (R148). -/
def Page.backAs (p : Page) (q : PageState) : Page := { p with state := q, broken := true, stalePending := false }

/-- Page `p` is of the FIRST tier, and a page of its section is OPEN or ARMED (R167). -/
def State.unready (s : State) (p : Page) : Prop :=
  p.tier = .first ∧ ∃ k o, s.page? k = some o ∧ s.abreast p o ∧ (o.state = .opened ∨ o.state = .armed)

/-- The state in which a send has been cut and its page `p` is QUEUED at the head of its tier. -/
def State.broughtBack (s : State) (x : Send) (p : Page) : State :=
  (s.cutSend x).movePage x.page (p.backAs .queued) .typesetter

/-- The PAGE EVENTs of a page that comes back in state `q` (R150). -/
def backEvents (r : Nat) (p : Page) (q : PageState) : List Notice :=
  pageEventOf r (p.backAs .queued) .typesetter ::
    if q = .ready then [pageEventOf r (p.backAs .ready) .withdrawn] else []

/-- The event ABANDONED of a send (R170). -/
def abandonedEvent (x : Send) (p : Page) (cause : AbandonCause) : Notice :=
  .typesetterEvent .abandoned (some (x.page, p.edition, p.number)) (some cause) x.expected x.blocksBegun

/-- What the first steps of the abandon of the send `x` of page `p` make of `s`: the page comes back in state `q`. -/
structure State.putsBack (s t : State) (x : Send) (p : Page) (q : PageState) (events : List Notice) : Prop where
  stand : t.pagesStand
  pages : s.rewrites t x.page (some (p.backAs q))
  alike : s.editionsAlike t
  counter : ∀ d, (t.edition d).counter = (s.edition d).counter
  slot : (p.backAs q).slot ∈ (t.edition p.edition).slots
  unit : (s.cutSend x).tiersOnly t
  tiers : q = .queued → t.typesetter = (s.cutSend x).typesetter
  which : (q = .ready ∧ s.unready p) ∨ (q = .queued ∧ ¬ s.unready p)
  queues : s.queues t events

/-- The PAGE EVENT of a move joins the queue when the PAGE group is enabled. -/
theorem queues_movePage_enabled (s : State) (r : Nat) (p : Page) (c : PageCause) :
    s.queues (s.movePage r p c) (if s.reporting.page = true then [pageEventOf r p c] else []) := by
  have hwrite := writePage_onlyChanges s r p
  have hoffer := queues_offer (s.writePage r p) (n := pageEventOf r p c) (g := .page) rfl
  rw [← hwrite .reporting (by decide)] at hoffer
  exact hoffer.before hwrite

section
variable {s : State} (h : s.pagesStand) {x : Send} (hx : s.typesetter.send = some x) {p : Page}
  (hp : s.page? x.page = some p)
include h hx hp

theorem State.pagesStand.sendingState : p.state = .sending := by
  obtain ⟨o, ho, hstate⟩ := (h.sending x.page).2 ⟨x, hx, rfl⟩
  cases hp.symm.trans ho
  exact hstate

theorem stand_broughtBack : (s.broughtBack x p).pagesStand := by
  have hstate := h.sendingState hx hp
  have hqueue := requeued_returned h hx hp hstate (q := p.backAs .queued) rfl rfl (z := (s.cutSend x).typesetter)
    (by rw [← page_of_made hp]; rfl) (by rw [← page_of_made hp]; rfl) rfl
  exact h.move hp (q := p.backAs .queued) ⟨rfl, rfl, rfl⟩ (fun _ => h.gated hp (.inr (.inr hstate))) hqueue
    .typesetter

omit h hx hp in
theorem rewrites_broughtBack : s.rewrites (s.broughtBack x p) x.page (some (p.backAs .queued)) :=
  pageAt_movePage (s.cutSend x) _ _ _

omit h hx hp in
theorem alike_broughtBack : s.editionsAlike (s.broughtBack x p) := editionsAlike_movePage (s.cutSend x) _ _ _

omit h hx hp in
theorem queues_broughtBack :
    s.queues (s.broughtBack x p)
      (if s.reporting.page = true then [pageEventOf x.page (p.backAs .queued) .typesetter] else []) :=
  (queues_movePage_enabled (s.cutSend x) x.page (p.backAs .queued) .typesetter).before
    (onlyChanges_putTypesetter s _)

/-- The section is looked at with the page QUEUED again, which is as it was with the page SENDING. -/
theorem sectionUnready_broughtBack :
    (p.tier = .first ∧ (s.broughtBack x p).sectionUnready p = true) ↔ s.unready p := by
  have hpages : s.rewrites (s.broughtBack x p) x.page _ := rewrites_broughtBack
  have hiff := sectionUnready_iff (p := p.backAs .queued) (stand_broughtBack h hx hp) hpages.self
  refine and_congr_right fun _ => hiff.trans (exists_congr fun k => ?_)
  simp only [alike_broughtBack.abreast]
  rw [hpages.exists_iff]
  split
  next hk =>
    subst hk
    simp [hp, h.sendingState hx hp, Page.backAs]
  next => exact Iff.rfl

theorem returnPage_of_unready (hu : s.unready p) :
    (s.cutSend x).returnPage x.page = (s.broughtBack x p).withdraw x.page := by
  have hpage : (s.cutSend x).page x.page = p := page_of_made (s := s.cutSend x) hp
  unfold State.returnPage
  rw [hpage]
  exact if_pos ((sectionUnready_broughtBack h hx hp).2 hu)

theorem returnPage_of_ready (hu : ¬ s.unready p) : (s.cutSend x).returnPage x.page = s.broughtBack x p := by
  have hpage : (s.cutSend x).page x.page = p := page_of_made (s := s.cutSend x) hp
  unfold State.returnPage
  rw [hpage]
  exact if_neg (mt (sectionUnready_broughtBack h hx hp).1 hu)

/-- A page that comes back to a whole section is QUEUED. -/
theorem putsBack_of_ready (hu : ¬ s.unready p) :
    s.putsBack ((s.cutSend x).returnPage x.page) x p .queued
      (if s.reporting.page = true then backEvents x.page p .queued else []) := by
  obtain ⟨-, -, -, hlow, hhigh⟩ := h.inRange x.page p hp
  rw [← h.slots] at hhigh
  rw [returnPage_of_ready h hx hp hu]
  exact ⟨stand_broughtBack h hx hp, rewrites_broughtBack, alike_broughtBack, counter_movePage (s.cutSend x) _ _ _,
    slot_mem_movePage (s := s.cutSend x) (p := p.backAs .queued) hlow hhigh _ _, tiersOnly_movePage _ _ _ _,
    fun _ => typesetter_movePage _ _ _ _, .inr ⟨rfl, hu⟩, queues_broughtBack⟩

/-- A page that comes back to a section that is not whole is READY. -/
theorem putsBack_of_unready (hu : s.unready p) :
    s.putsBack ((s.cutSend x).returnPage x.page) x p .ready
      (if s.reporting.page = true then backEvents x.page p .ready else []) := by
  obtain ⟨-, -, -, hlow, hhigh⟩ := h.inRange x.page p hp
  rw [← h.slots] at hhigh
  have hstand := stand_broughtBack h hx hp
  have hpages : s.rewrites (s.broughtBack x p) x.page _ := rewrites_broughtBack
  have halike : s.editionsAlike (s.broughtBack x p) := alike_broughtBack
  have hunit : (s.cutSend x).tiersOnly (s.broughtBack x p) := tiersOnly_movePage _ _ _ _
  have hback : s.queues (s.broughtBack x p) _ := queues_broughtBack
  have hmoved : (s.broughtBack x p).withdraw x.page =
      ((s.broughtBack x p).dequeue x.page).movePage x.page (p.backAs .ready) .withdrawn :=
    withdraw_eq_move (p := p.backAs .queued) hpages.self
  have hevent := (queues_movePage_enabled ((s.broughtBack x p).dequeue x.page) x.page (p.backAs .ready)
    .withdrawn).before (onlyChanges_dequeue _ _)
  rw [← hmoved, show ((s.broughtBack x p).dequeue x.page).reporting = s.reporting from hback.reporting] at hevent
  have hslot := slot_mem_movePage (s := (s.broughtBack x p).dequeue x.page) (p := p.backAs .ready) hlow
    (le_of_le_of_eq hhigh (halike p.edition).slots.symm) x.page .withdrawn
  rw [← hmoved] at hslot
  rw [returnPage_of_unready h hx hp hu]
  refine ⟨hstand.withdraw hpages.self rfl, hpages.withdraw, halike.trans (editionsAlike_withdraw _ _), fun d => ?_,
    hslot, (tiersOnly_withdraw _ _).after hunit, nofun, .inl ⟨rfl, hu⟩, ?_⟩
  · rw [hmoved, counter_movePage]
    exact counter_movePage (s.cutSend x) _ _ _ d
  · have hall := hback.trans hevent
    by_cases henabled : s.reporting.page = true
    · rw [if_pos henabled, if_pos henabled] at hall
      rwa [if_pos henabled]
    · rw [if_neg henabled, if_neg henabled] at hall
      rwa [if_neg henabled]

omit h in
theorem abandonSend_eq {cause : AbandonCause} (hcause : cause ≠ .restart) :
    s.abandonSend cause = ((s.cutSend x).returnPage x.page).offer (abandonedEvent x p cause) := by
  simp only [State.abandonSend, hx, if_neg hcause, typesetterEventOf_of_send hx, page_of_made hp, abandonedEvent]

omit h hx hp in
theorem State.putsBack.offer {t : State} {q : PageState} {events : List Notice} (k : s.putsBack t x p q events)
    {n : Notice} {g : Group} (hn : n.noticeClass = .report g) :
    s.putsBack (t.offer n) x p q (events ++ if s.reporting.enabled g = true then [n] else []) := by
  have hframe := onlyChanges_offer t n
  have hstand : t.agrees False False none := ⟨k.stand, False.elim, False.elim⟩
  have hqueues := queues_offer t hn
  rw [k.queues.reporting] at hqueues
  refine ⟨(hstand.offer n).stand, fun r => (hframe.pageAt (by decide) r).trans (k.pages r),
    k.alike.trans (editionsAlike_of_eq (hframe.editionAt (by decide))), fun d => ?_, ?_,
    (tiersOnly_of_frame hframe).after k.unit, fun hq => hframe.queueOf.trans (k.tiers hq), k.which,
    k.queues.trans hqueues⟩
  · rw [hframe.editionAt]
    exact k.counter d
  · rw [hframe.editionAt]
    exact k.slot

/-- The notices of an abandon whose page comes back in state `q`, in their order (R150, R170). -/
def State.abandonNotices (s : State) (x : Send) (p : Page) (q : PageState) (cause : AbandonCause) : List Notice :=
  (if s.reporting.page = true then backEvents x.page p q else []) ++
    if s.reporting.typesetter = true then [abandonedEvent x p cause] else []

theorem abandonSend_putsBack {cause : AbandonCause} (hcause : cause ≠ .restart) :
    ∃ q, s.putsBack (s.abandonSend cause) x p q (s.abandonNotices x p q cause) := by
  rw [abandonSend_eq hx hp hcause]
  by_cases hu : s.unready p
  · exact ⟨.ready, (putsBack_of_unready h hx hp hu).offer (g := .typesetter) rfl⟩
  · exact ⟨.queued, (putsBack_of_ready h hx hp hu).offer (g := .typesetter) rfl⟩

end

/-! ### What follows the end of the send (R134, R135, R145, R148) -/

/-- The edition of page `p` is sealed once its send is abandoned: it bears the seal-pending mark, or seals itself with
the page READY (R134, R135). -/
def State.sealsAfter (s : State) (p : Page) : Prop :=
  (s.edition p.edition).sealPending = true ∨
    ((s.edition p.edition).state = .closed ∧ (s.edition p.edition).counter = 0 ∧ s.unready p ∧
      ∀ r o, s.page? r = some o → o.edition = p.edition →
        o.state ≠ .queued ∧ (o.tier = .replate → o.state ≠ .armed ∧ o.state ≠ .ready))

section
variable {s t : State} {x : Send} {p : Page} {q : PageState} {events : List Notice}
  (k : s.putsBack t x p q events)
include k

theorem State.putsBack.completeTest : t.completeTest p.edition = t := by
  refine completeTest_of_unsent k.slot ?_
  rcases k.which with ⟨rfl, -⟩ | ⟨rfl, -⟩
  · exact nofun
  · exact nofun

theorem State.putsBack.idle (r : Nat) (o : Page) (ho : t.page? r = some o) : o.state ≠ .sending := fun hstate => by
  obtain ⟨y, hy, -⟩ := (k.stand.sending r).1 ⟨o, ho, hstate⟩
  rw [k.unit.send] at hy
  cases hy

section
variable (h : s.pagesStand) (hx : s.typesetter.send = some x) (hp : s.page? x.page = some p)
include h hx hp

theorem State.putsBack.sealsItself_iff (hopen : (s.edition p.edition).sealPending = false) :
    t.sealsItself p.edition = true ↔ s.sealsAfter p := by
  rw [Machine.sealsItself_iff k.stand.canonical, (k.alike p.edition).state, (k.alike p.edition).pending, k.counter]
  have hstate := h.sendingState hx hp
  constructor
  · rintro ⟨hclosed, -, hcounter, hnone⟩
    have hready : q = .ready ∧ s.unready p := k.which.resolve_right fun ⟨hqueued, _⟩ =>
      hnone x.page _ k.pages.self rfl (.inl hqueued)
    refine .inr ⟨hclosed, hcounter, hready.2, fun r o ho he => ?_⟩
    by_cases hr : r = x.page
    · subst hr
      cases hp.symm.trans ho
      simp [hstate]
    · have hfree := hnone r o ((k.pages.other hr).trans ho) he
      exact ⟨fun hqueued => hfree (.inl hqueued), fun htier =>
        ⟨fun harmed => hfree (.inr (.inr ⟨htier, .inl harmed⟩)),
          fun hready => hfree (.inr (.inr ⟨htier, .inr hready⟩))⟩⟩
  · rintro (hpending | ⟨hclosed, hcounter, hu, hnone⟩)
    · rw [hopen] at hpending
      cases hpending
    refine ⟨hclosed, hopen, hcounter, fun r o ho he hkeeps => ?_⟩
    rcases k.pages.cases ho with ⟨-, hback⟩ | ⟨hr, ho'⟩
    · cases hback
      have hready : q = .ready := (k.which.resolve_right fun ⟨_, hnot⟩ => hnot hu).1
      subst hready
      rcases hkeeps with hqueued | hsending | ⟨htier, -⟩
      · cases hqueued
      · cases hsending
      · cases hu.1.symm.trans htier
    · obtain ⟨hqueued, hreplate⟩ := hnone r o ho' he
      rcases hkeeps with hkeeps | hkeeps | ⟨htier, harmed | hready⟩
      · exact hqueued hkeeps
      · exact k.idle r o ho hkeeps
      · exact (hreplate htier).1 harmed
      · exact (hreplate htier).2 hready

theorem State.putsBack.afterSend_of_seals (hseals : s.sealsAfter p) :
    t.afterSend p.edition = (t.seal p.edition).evaluateJoins := by
  rw [afterSend_eq, k.completeTest, (k.alike p.edition).pending]
  by_cases hpending : (s.edition p.edition).sealPending = true
  · rw [if_pos hpending]
  · rw [if_neg hpending, sealTest_of_seals]
    exact (k.sealsItself_iff h hx hp (Bool.eq_false_iff.2 hpending)).2 hseals

theorem State.putsBack.afterSend_of_open (hopen : ¬ s.sealsAfter p) : t.afterSend p.edition = t.evaluateJoins := by
  have hpending : ¬ (s.edition p.edition).sealPending = true := fun hpending => hopen (.inl hpending)
  rw [afterSend_eq, k.completeTest, (k.alike p.edition).pending, if_neg hpending, sealTest_of_not]
  exact mt (k.sealsItself_iff h hx hp (Bool.eq_false_iff.2 hpending)).1 hopen

/-- A page that comes back to a section that is not whole waits READY: its section is not eligible (R145). -/
theorem State.putsBack.pageAt_evaluateJoins : t.evaluateJoins.page? x.page = some (p.backAs q) := by
  obtain ⟨joined, passed, stopped, heval⟩ := evaluateJoins_evaluated k.stand
  rw [← k.pages.self]
  refine heval.joins.waiting fun hmem => ?_
  rcases k.which with ⟨rfl, htier, j, o, ho, hab, hstate⟩ | ⟨rfl, -⟩
  · have hj : j ≠ x.page := by
      rintro rfl
      cases hp.symm.trans ho
      rw [h.sendingState hx hp] at hstate
      rcases hstate with hstate | hstate <;> cases hstate
    rcases List.mem_append.1 hmem with hmem | hmem
    · obtain ⟨o', ho', -, hreplate⟩ := (mem_waitingReplates k.stand x.page).1 (List.mem_of_mem_take hmem)
      cases k.pages.self.symm.trans ho'
      cases htier.symm.trans hreplate
    · obtain ⟨i, hi, hmem⟩ := List.mem_flatMap.1 hmem
      obtain ⟨o', ho', hin, -⟩ := (mem_sectionReady k.stand i.1 i.2 x.page).1 hmem
      cases k.pages.self.symm.trans ho'
      obtain ⟨hopened, harmed⟩ := (heval.eligible i hi).unready k.stand k.pages.self hin
        ((k.pages.other hj).trans ho) ((k.alike.abreast _ _).2 hab)
      exact hstate.elim hopened harmed
  · obtain ⟨o, ho, hready⟩ := heval.joins.made x.page hmem
    cases k.pages.self.symm.trans ho
    cases hready

omit h hx in
/-- A page that comes back QUEUED stands at the head of its tier, and at the head of the queue when it is a replate or
no replate waits (R155, R167). -/
theorem State.putsBack.heads (hq : q = .queued) :
    (p.tier = .first → t.evaluateJoins.typesetter.firstTier.head? = some x.page) ∧
      (p.tier = .replate → t.evaluateJoins.typesetter.replateTier.head? = some x.page) ∧
      ((p.tier = .replate ∨ (s.typesetter.replateTier = [] ∧
        ∀ r o, s.page? r = some o → o.tier = .replate → o.state ≠ .ready)) →
        t.evaluateJoins.typesetter.head = some x.page) := by
  obtain ⟨joined, passed, stopped, heval⟩ := evaluateJoins_evaluated k.stand
  have hcut : (s.cutSend x).typesetter.firstTier = (s.typesetter.putBack p.tier x.page).firstTier ∧
      (s.cutSend x).typesetter.replateTier = (s.typesetter.putBack p.tier x.page).replateTier := by
    rw [← page_of_made hp]
    exact ⟨rfl, rfl⟩
  rw [Typesetter.head_eq, heval.joins.typesetter, k.tiers hq, hcut.1, hcut.2, tiers_of_joins k.stand _ joined .replate]
  refine ⟨fun htier => ?_, fun htier => ?_, fun hheads => ?_⟩
  · simp [htier, Typesetter.putBack]
  · simp [htier, Typesetter.putBack]
  · cases htier : p.tier with
    | replate => simp [Typesetter.putBack]
    | first =>
      obtain ⟨hempty, hnone⟩ := hheads.resolve_left (by rw [htier]; nofun)
      have hwaiting : t.waitingReplates = [] := List.eq_nil_iff_forall_not_mem.2 fun r hr => by
        obtain ⟨o, ho, hready, hreplate⟩ := (mem_waitingReplates k.stand r).1 hr
        rcases k.pages.cases ho with ⟨-, hback⟩ | ⟨-, ho'⟩
        · cases hback
          cases htier.symm.trans hreplate
        · exact hnone r o ho' hreplate hready
      simp [Typesetter.putBack, hempty, hwaiting]

end

end

end Sys2Proof.Machine
end

section
/-! SUPPORT. The typesetter line with a CANCEL block pending, and the start tests that end an abandon (R156, R163, R166,
R167). -/

namespace Sys2Proof.Machine

/-! ### The start test (R156) -/

theorem startTest_of_sending {s : State} {y : Send} (h : s.typesetter.send = some y) : s.startTest = s := by
  cases hhead : s.typesetter.head with
  | none => exact startTest_of_empty hhead
  | some r =>
    refine startTest_of_barred hhead fun hmay => ?_
    obtain ⟨-, hidle, -⟩ := (mayStart_iff s r).1 hmay
    rw [h] at hidle
    cases hidle

/-- A call that is made changes the send record's call and its timer, and nothing else of the typesetter unit. -/
theorem typesetter_called (s : State) (x : Send) :
    ∃ call timer, call ≠ .none ∧
      (s.called x).typesetter = { s.typesetter with send := some { x with call := call, dataTimer := timer } } := by
  unfold State.called
  split
  · refine ⟨.outstanding, some (s.now + s.timing.stallTimeout * 1000), nofun, ?_⟩
    rw [← (onlyChanges_offer s (s.pageCallOf x)).queueOf]
    rfl
  · exact ⟨.owed, x.dataTimer, nofun, rfl⟩

/-- A start takes its page off the queue and sets the send record up afresh. -/
theorem typesetter_startTest_of_may {s : State} {r : Nat} (hr : s.typesetter.head = some r)
    (hmay : s.mayStart r = true) :
    ∃ call timer, call ≠ .none ∧
      s.startTest.typesetter =
        { s.typesetter.remove r with send := some { Send.initial r with call := call, dataTimer := timer } } := by
  rw [startTest_of_may hr hmay]
  obtain ⟨call, timer, hcall, heq⟩ := typesetter_called (s.started r) (Send.initial r)
  exact ⟨call, timer, hcall, heq.trans (by rw [typesetter_started])⟩

theorem startTest_eq_self_or_started (s : State) :
    s.startTest = s ∨ ∃ r, s.typesetter.head = some r ∧ s.mayStart r = true := by
  cases hhead : s.typesetter.head with
  | none => exact .inl (startTest_of_empty hhead)
  | some r =>
    by_cases hmay : s.mayStart r = true
    · exact .inr ⟨r, rfl, hmay⟩
    · exact .inl (startTest_of_barred hhead hmay)

/-- A start test that follows another at once does nothing. -/
theorem startTest_startTest (s : State) : s.startTest.startTest = s.startTest := by
  rcases startTest_eq_self_or_started s with hsame | ⟨r, hr, hmay⟩
  · rw [hsame, hsame]
  · obtain ⟨call, timer, -, heq⟩ := typesetter_startTest_of_may hr hmay
    exact startTest_of_sending (congrArg Typesetter.send heq)

/-- The start test changes neither the mode, nor the line, nor the pending CANCEL. -/
theorem unit_startTest (s : State) :
    s.startTest.typesetter.mode = s.typesetter.mode ∧ s.startTest.typesetter.cancel = s.typesetter.cancel ∧
      s.startTest.typesetter.block = s.typesetter.block := by
  rcases startTest_eq_self_or_started s with hsame | ⟨r, hr, hmay⟩
  · rw [hsame]
    exact ⟨rfl, rfl, rfl⟩
  · obtain ⟨call, timer, -, heq⟩ := typesetter_startTest_of_may hr hmay
    rw [heq]
    exact ⟨rfl, rfl, rfl⟩

/-- Nothing starts in HOLD, LOADING or store-lost (R156). -/
def State.rests (s : State) : Prop :=
  s.typesetter.mode = .hold ∨ s.storeLost = true ∨ s.part = .loading

theorem startTest_of_rests {s : State} (h : s.rests) : s.startTest = s := by
  rcases startTest_eq_self_or_started s with hsame | ⟨r, -, hmay⟩
  · exact hsame
  · obtain ⟨hmode, -, hpart, hstore, -⟩ := (mayStart_iff s r).1 hmay
    rcases h with hhold | hlost | hloading
    · exact absurd hhold hmode
    · cases hstore.symm.trans hlost
    · cases hpart.symm.trans hloading

theorem pageAt_startTest_of_none {s : State} (h : s.pagesStand) {r : Nat} (hr : s.page? r = none) :
    s.startTest.page? r = none := by
  rcases pageAt_startTest h r with hsame | ⟨p, hp, -⟩
  · exact hsame.trans hr
  · cases hr.symm.trans hp

theorem pageAt_startTest_of_may {s : State} {r : Nat} (hr : s.typesetter.head = some r)
    (hmay : s.mayStart r = true) : s.startTest.page? r = some { s.page r with state := .sending } := by
  have hcall := onlyChanges_callDue_call (s.started r)
  rw [callDue_of_due (congrArg Typesetter.send (typesetter_started s r)) ⟨rfl, rfl, Nat.zero_le _⟩] at hcall
  rw [startTest_of_may hr hmay, hcall.pageAt]
  exact (pageAt_movePage _ r _ _ r).trans (if_pos rfl)

/-! ### The line with a CANCEL block pending (R163, R166) -/

/-- The level TSRDY is found at when it is judged (R163, R202). -/
def Ready.found (y : Ready) : Bool := y.asserted && !(y.falls.headD false)

/-- TSRDY once it has been judged. -/
def Ready.judged (y : Ready) : Ready :=
  if y.asserted then { asserted := y.found, falls := y.falls.tail } else y

theorem Ready.judged_asserted (y : Ready) : y.judged.asserted = y.found := by
  cases hy : y.asserted <;> simp [Ready.judged, Ready.found, hy]

theorem typesetter_judgeReady (s : State) : s.judgeReady.typesetter = s.typesetter := (onlyChanges_judgeReady s).queueOf

/-- On a free line with a block ready, TSRDY is judged. -/
theorem tsrdy_judgeReady {s : State} (hfree : s.typesetter.block = none)
    (hready : s.typesetter.blockReady = true) : s.judgeReady.tsrdy = s.tsrdy.judged := by
  cases hasserted : s.tsrdy.asserted with
  | false => rw [judgeReady_of_deasserted hasserted, Ready.judged, if_neg (by rw [hasserted]; nofun)]
  | true =>
    cases hfalls : s.tsrdy.falls with
    | nil =>
      have htsrdy : s.tsrdy = { asserted := true, falls := [] } := by rw [← hasserted, ← hfalls]
      rw [judgeReady_of_no_falls hfalls, htsrdy]
      rfl
    | cons fell rest =>
      have htsrdy : s.tsrdy = { asserted := true, falls := fell :: rest } := by rw [← hasserted, ← hfalls]
      rw [judgeReady_of_asserted hfree hready htsrdy, htsrdy]
      rfl

theorem typesetter_clearStall (s : State) : s.clearStall.typesetter = { s.typesetter with stalled := false } := by
  unfold State.clearStall
  split
  · exact (onlyChanges_offer _ _).queueOf
  next hstalled => rw [← Bool.eq_false_iff.2 hstalled]

theorem clearStall_of_unstalled {s : State} (h : s.typesetter.stalled = false) : s.clearStall = s :=
  if_neg (by rw [h]; nofun)

theorem onlyChanges_clearStall_line (s : State) :
    s.onlyChanges ([.typesetter] ++ noticeFields) s.clearStall := by
  unfold State.clearStall
  split
  · exact ((onlyChanges_putTypesetter _ _).mono (by decide)).trans ((onlyChanges_offer _ _).mono (by decide))
  · exact .refl _ s

/-- What the line, going on with the CANCEL block `c` pending, makes of `s` before the start test (R163, R166). -/
structure State.linesUp (s v : State) (c : Cancel) : Prop where
  frame : s.onlyChanges ([.tsrdy, .typesetter] ++ noticeFields) v
  quiet : s.typesetter.stalled = false → s.onlyChanges [.tsrdy, .typesetter] v
  mode : v.typesetter.mode = s.typesetter.mode
  first : v.typesetter.firstTier = s.typesetter.firstTier
  replate : v.typesetter.replateTier = s.typesetter.replateTier
  send : v.typesetter.send = s.typesetter.send
  free : s.typesetter.block = none → v.tsrdy = s.tsrdy.judged ∧
    (s.tsrdy.found = true → v.typesetter.cancel = none ∧ v.typesetter.block = some (.cancel c)) ∧
    (s.tsrdy.found = false → v.typesetter.cancel = some c ∧ v.typesetter.block = none)
  busy : s.typesetter.block.isSome = true →
    v.tsrdy = s.tsrdy ∧ v.typesetter.cancel = some c ∧ v.typesetter.block.isSome = true

section
variable {s : State} {c : Cancel} (hcancel : s.typesetter.cancel = some c)
include hcancel

theorem linesUp_of_busy (hbusy : s.typesetter.block ≠ none) :
    s.linesUp (s.putTypesetter s.typesetter.endWait) c ∧ s.tsLine = s.putTypesetter s.typesetter.endWait := by
  have hframe := onlyChanges_putTypesetter s s.typesetter.endWait
  refine ⟨⟨hframe.mono (by decide), fun _ => hframe.mono (by decide), rfl, rfl, rfl, rfl,
    fun hfree => absurd hfree hbusy, fun hblock => ⟨rfl, hcancel, hblock⟩⟩, ?_⟩
  rw [State.tsLine, judgeReady_of_idle (.inl hbusy), tsProceed_of_idle (.inl hbusy)]

section
variable (hfree : s.typesetter.block = none)
include hfree

/-- TSRDY is found asserted: the CANCEL block begins. -/
theorem linesUp_of_asserted (hfound : s.tsrdy.found = true) :
    ∃ v, s.linesUp v c ∧ s.tsLine = v.startTest := by
  have hunit := typesetter_judgeReady s
  have htsrdy := tsrdy_judgeReady hfree (by simp [Typesetter.blockReady, hcancel])
  have hbegins := tsProceed_of_cancel (s := s.judgeReady) (hunit ▸ hfree)
    (by rw [htsrdy, Ready.judged_asserted, hfound]) (hunit ▸ hcancel)
  generalize hu : s.judgeReady.putTypesetter _ = u at hbegins
  have hframe : s.onlyChanges [.tsrdy, .typesetter] u :=
    ((onlyChanges_judgeReady s).mono (by decide)).trans (hu ▸ (onlyChanges_putTypesetter _ _).mono (by decide))
  have hbegun : u.clearStall.typesetter =
      { s.typesetter.endWait with cancel := none, block := some (.cancel c), stalled := false } := by
    rw [typesetter_clearStall, ← hu, ← hunit]
    rfl
  refine ⟨u.clearStall, ⟨(hframe.mono (by decide)).trans ((onlyChanges_clearStall_line u).mono (by decide)),
    fun hstalled => ?_, by rw [hbegun]; rfl, by rw [hbegun]; rfl, by rw [hbegun]; rfl, by rw [hbegun]; rfl,
    fun _ => ⟨?_, fun _ => by rw [hbegun]; exact ⟨rfl, rfl⟩, fun hnot => ?_⟩, fun hbusy => ?_⟩, hbegins⟩
  · rwa [clearStall_of_unstalled (by rw [← hu, ← hstalled, ← hunit]; rfl)]
  · rw [← onlyChanges_clearStall_line u .tsrdy (by decide), ← hu, ← htsrdy]
    rfl
  · cases hfound.symm.trans hnot
  · rw [hfree] at hbusy
    cases hbusy

/-- TSRDY is found deasserted: the CANCEL block waits, and stays pending. -/
theorem linesUp_of_deasserted (hfound : s.tsrdy.found = false) : s.linesUp s.tsLine c := by
  have hunit := typesetter_judgeReady s
  have hframe := onlyChanges_judgeReady s
  have hready : s.typesetter.blockReady = true := by simp [Typesetter.blockReady, hcancel]
  have htsrdy := tsrdy_judgeReady hfree hready
  have hwaits := tsProceed_of_deasserted (s := s.judgeReady) (hunit ▸ hfree) (hunit ▸ hready)
    (by rw [htsrdy, Ready.judged_asserted, hfound])
  have hnot : ∀ P : Prop, s.tsrdy.found = true → P := fun P hhigh => by cases hfound.symm.trans hhigh
  have hbusy : ∀ P : Prop, s.typesetter.block.isSome = true → P := fun P hbusy => by
    rw [hfree] at hbusy
    cases hbusy
  rw [State.tsLine, hwaits]
  split
  · exact ⟨hframe.mono (by decide), fun _ => hframe.mono (by decide), by rw [hunit], by rw [hunit], by rw [hunit],
      by rw [hunit], fun _ => ⟨htsrdy, hnot _, fun _ => by rw [hunit]; exact ⟨hcancel, hfree⟩⟩, hbusy _⟩
  · generalize hy : ({ s.judgeReady.typesetter with waiting := true, waitTimer := _ } : Typesetter) = y
    have hput : s.onlyChanges [.tsrdy, .typesetter] (s.judgeReady.putTypesetter y) :=
      (hframe.mono (by decide)).trans ((onlyChanges_putTypesetter _ _).mono (by decide))
    rw [hunit] at hy
    subst hy
    exact ⟨hput.mono (by decide), fun _ => hput, rfl, rfl, rfl, rfl,
      fun _ => ⟨htsrdy, hnot _, fun _ => ⟨hcancel, hfree⟩⟩, hbusy _⟩

end

/-- The line goes on and the start test follows: the start test that a CANCEL block's beginning calls for comes to the
same. -/
theorem tsLine_linesUp : ∃ v, s.linesUp v c ∧ s.tsLine.startTest = v.startTest := by
  by_cases hfree : s.typesetter.block = none
  · cases hfound : s.tsrdy.found with
    | true =>
      obtain ⟨v, hv, hline⟩ := linesUp_of_asserted hcancel hfree hfound
      exact ⟨v, hv, by rw [hline, startTest_startTest]⟩
    | false => exact ⟨_, linesUp_of_deasserted hcancel hfree hfound, rfl⟩
  · obtain ⟨hv, hline⟩ := linesUp_of_busy hcancel hfree
    exact ⟨_, hv, by rw [hline]⟩

end

theorem State.linesUp.stand {s v : State} {c : Cancel} (h : s.linesUp v c) (hs : s.pagesStand) : v.pagesStand := by
  have hagrees : s.agrees False False none := ⟨hs, False.elim, False.elim⟩
  refine (hagrees.elsewhere h.frame.pagesOf (editionsAlike_of_eq (h.frame.editionAt (by decide)))
    (placesKept_of_eq (h.frame.storyAt (by decide)) _) h.first h.replate ?_).stand
  rw [h.send]

end Sys2Proof.Machine
end

section
/-! SUPPORT. An abandon from its first step to its last (R161, R163, R167, R168): what it leaves of the typesetter unit,
of the page and its edition, and of the notice queue. -/

namespace Sys2Proof.Machine

/-! ### The steps of an abandon -/

/-- The CANCEL block of the send `x` (R167). -/
def Send.cancelBlock (x : Send) : Cancel := { page := some x.page, sequence := x.nextSequence }

/-- The abandon of the send `x` of page `p` takes `s` to `t`: by `a`, in which the page has come back in state `q`, and
`v`, in which the line has gone on. -/
structure State.abandons (s t : State) (x : Send) (p : Page) (cause : AbandonCause) (q : PageState)
    (a v : State) : Prop where
  stand : s.pagesStand
  sends : s.typesetter.send = some x
  made : s.page? x.page = some p
  frame : s.onlyChanges pageFields a
  back : s.putsBack a x p q (s.abandonNotices x p q cause)
  line : (a.afterSend p.edition).linesUp v x.cancelBlock
  ended : t = v.startTest
  work : a.pageWork t

theorem Typesetter.putBack_eq (y : Typesetter) (tier : Tier) (r : Nat) :
    (y.putBack tier r).mode = y.mode ∧ (y.putBack tier r).stalled = y.stalled := by
  cases tier <;> exact ⟨rfl, rfl⟩

theorem abandon_abandons {s : State} (h : s.pagesStand) {x : Send} (hx : s.typesetter.send = some x) {p : Page}
    (hp : s.page? x.page = some p) {cause : AbandonCause} (hcause : cause ≠ .restart) :
    ∃ q v, s.abandons (s.abandon cause) x p cause q (s.abandonSend cause) v := by
  obtain ⟨q, hback⟩ := abandonSend_putsBack h hx hp hcause
  have hcancel : ((s.abandonSend cause).afterSend p.edition).typesetter.cancel = some x.cancelBlock :=
    (tiersOnly_afterSend _ _).cancel.trans hback.unit.cancel
  obtain ⟨v, hline, hended⟩ := tsLine_linesUp hcancel
  have habandon : s.abandon cause = (((s.abandonSend cause).afterSend p.edition).tsLine).startTest := by
    simp only [State.abandon, hx, page_of_made hp]
  refine ⟨q, v, h, hx, hp, onlyChanges_abandonSend s cause, hback, hline, habandon.trans hended, ?_⟩
  rw [habandon]
  exact (pageWork_startTest _).after ((pageWork_tsLine _).after (pageWork_afterSend _ _))

section
variable {s t a v : State} {x : Send} {p : Page} {cause : AbandonCause} {q : PageState}
  (k : s.abandons t x p cause q a v)
include k

/-! ### Frames -/

theorem State.abandons.frameAfter : s.onlyChanges sealFields (a.afterSend p.edition) :=
  (k.frame.mono (by decide)).trans (onlyChanges_afterSend a _)

theorem State.abandons.unitAfter : (s.cutSend x).tiersOnly (a.afterSend p.edition) :=
  (tiersOnly_afterSend a _).after k.back.unit

theorem State.abandons.standAfter : (a.afterSend p.edition).pagesStand :=
  (State.agrees.afterSend (e := False) (w := False) ⟨k.back.stand, False.elim, False.elim⟩ k.back.unit.send).stand

theorem State.abandons.standLine : v.pagesStand := k.line.stand k.standAfter

theorem State.abandons.pageAtLine (r : Nat) : v.page? r = (a.afterSend p.edition).page? r :=
  k.line.frame.pageAt (by decide) r

theorem State.abandons.modeLine : v.typesetter.mode = s.typesetter.mode :=
  k.line.mode.trans (k.unitAfter.mode.trans (Typesetter.putBack_eq ..).1)

theorem State.abandons.sendLine : v.typesetter.send = none := k.line.send.trans k.unitAfter.send

theorem State.abandons.tsrdyAfter : (a.afterSend p.edition).tsrdy = s.tsrdy := (k.frameAfter .tsrdy (by decide)).symm

theorem State.abandons.storeLostLine : v.storeLost = s.storeLost :=
  ((k.frameAfter .storeLost (by decide)).trans (k.line.frame .storeLost (by decide))).symm

theorem State.abandons.partLine : v.part = s.part :=
  ((k.frameAfter .part (by decide)).trans (k.line.frame .part (by decide))).symm

/-- Where nothing starts, the last start test does nothing. -/
theorem State.abandons.ended_of_rests (hrests : s.rests) : t = v := by
  have hv : v.rests := by
    rw [State.rests, k.modeLine, k.storeLostLine, k.partLine]
    exact hrests
  exact k.ended.trans (startTest_of_rests hv)

/-! ### The typesetter unit (R163, R167) -/

theorem State.abandons.mode : t.typesetter.mode = s.typesetter.mode := by
  rw [k.ended]
  exact (unit_startTest v).1.trans k.modeLine

theorem State.abandons.tsrdy : t.tsrdy = v.tsrdy := by
  rw [k.ended]
  exact (onlyChanges_startTest v .tsrdy (by decide)).symm

theorem State.abandons.lineEnded :
    t.typesetter.cancel = v.typesetter.cancel ∧ t.typesetter.block = v.typesetter.block := by
  rw [k.ended]
  exact (unit_startTest v).2

theorem State.abandons.free (hfree : s.typesetter.block = none) :
    t.tsrdy = s.tsrdy.judged ∧
      (s.tsrdy.found = true → t.typesetter.cancel = none ∧ t.typesetter.block = some (.cancel x.cancelBlock)) ∧
      (s.tsrdy.found = false → t.typesetter.cancel = some x.cancelBlock ∧ t.typesetter.block = none) := by
  have hblock : (a.afterSend p.edition).typesetter.block = none := by
    rw [k.unitAfter.block]
    exact congrArg (Option.map Block.cutLoose) hfree
  have hline := k.line.free hblock
  rwa [k.tsrdyAfter, ← k.tsrdy, ← k.lineEnded.1, ← k.lineEnded.2] at hline

theorem State.abandons.busy (hbusy : s.typesetter.block.isSome = true) :
    t.tsrdy = s.tsrdy ∧ t.typesetter.cancel = some x.cancelBlock ∧ t.typesetter.block.isSome = true := by
  have hblock : (a.afterSend p.edition).typesetter.block.isSome = true := by
    rw [k.unitAfter.block]
    exact Option.isSome_map.trans hbusy
  have hline := k.line.busy hblock
  rwa [k.tsrdyAfter, ← k.tsrdy, ← k.lineEnded.1, ← k.lineEnded.2] at hline

/-! ### The edition and the page (R134, R135, R156, R167) -/

theorem State.abandons.alikeEnded : (a.afterSend p.edition).editionsAlike t := by
  have hline : (a.afterSend p.edition).editionsAlike v := editionsAlike_of_eq (k.line.frame.editionAt (by decide))
  rw [k.ended]
  exact hline.trans (alike_startTest k.standLine)

theorem State.abandons.standEnded : t.pagesStand := by
  have hagrees : v.agrees False False none := ⟨k.standLine, False.elim, False.elim⟩
  rw [k.ended]
  exact hagrees.startTest.stand

/-- A seal takes the page with it. -/
theorem State.abandons.sealed (hseals : s.sealsAfter p) :
    t.page? x.page = none ∧ (t.edition p.edition).state = .sealed ∧ (t.edition p.edition).sealPending = false := by
  have hidle : ∀ r o, a.page? r = some o → o.edition = p.edition → o.state ≠ .sending :=
    fun r o ho _ => k.back.idle r o ho
  have hafter := k.back.afterSend_of_seals k.stand k.sends k.made hseals
  have hsealed := k.back.stand.seal hidle
  have hgone : (a.seal p.edition).page? x.page = none := by
    rw [pageAt_seal k.back.stand, if_pos]
    rw [State.swept, isOf_iff]
    exact ⟨_, k.back.pages.self, rfl, by simpa using k.back.idle x.page _ k.back.pages.self⟩
  have hnone : (a.afterSend p.edition).page? x.page = none := by
    rw [hafter]
    rcases pageAt_evaluateJoins hsealed x.page with hsame | ⟨o, ho, -⟩
    · exact hsame.trans hgone
    · cases hgone.symm.trans ho
  have halike := (alike_evaluateJoins hsealed).trans (hafter ▸ k.alikeEnded) p.edition
  refine ⟨?_, ?_, ?_⟩
  · rw [k.ended]
    exact pageAt_startTest_of_none k.standLine ((k.pageAtLine x.page).trans hnone)
  · rw [halike.state, edition_seal k.back.stand, if_pos rfl]
  · rw [halike.pending, edition_seal k.back.stand, if_pos rfl]

/-- A page that is not on record is neither on the queue nor SENDING. -/
theorem State.abandons.gone (hnone : t.page? x.page = none) :
    x.page ∉ t.typesetter.firstTier ∧ x.page ∉ t.typesetter.replateTier ∧
      t.typesetter.sendingPage ≠ some x.page := by
  have hnot : ∀ f : Page → Prop, ¬ ∃ o, t.page? x.page = some o ∧ f o := fun f ⟨o, ho, _⟩ => by
    cases hnone.symm.trans ho
  refine ⟨mt (k.standEnded.first x.page).1 (hnot _), mt (k.standEnded.replate x.page).1 (hnot _),
    fun hsending => ?_⟩
  obtain ⟨y, hy, hpage⟩ := Option.map_eq_some_iff.1 hsending
  exact hnot _ ((k.standEnded.sending x.page).2 ⟨y, hy, hpage⟩)

section
variable (hopen : ¬ s.sealsAfter p)
include hopen

theorem State.abandons.afterOpen : a.afterSend p.edition = a.evaluateJoins :=
  k.back.afterSend_of_open k.stand k.sends k.made hopen

theorem State.abandons.stateOpen : (t.edition p.edition).state = (s.edition p.edition).state :=
  ((k.back.alike.trans (alike_evaluateJoins k.back.stand)).trans (k.afterOpen hopen ▸ k.alikeEnded) p.edition).state

theorem State.abandons.pageOpen : v.page? x.page = some (p.backAs q) := by
  rw [k.pageAtLine, k.afterOpen hopen]
  exact k.back.pageAt_evaluateJoins k.stand k.sends k.made

/-- A page that is QUEUED again stands at the head of its tier, and of the queue where no other page comes first. -/
theorem State.abandons.headsOpen (hq : q = .queued) :
    (p.tier = .first → v.typesetter.firstTier.head? = some x.page) ∧
      (p.tier = .replate → v.typesetter.replateTier.head? = some x.page) ∧
      ((p.tier = .replate ∨ (s.typesetter.replateTier = [] ∧
        ∀ r o, s.page? r = some o → o.tier = .replate → o.state ≠ .ready)) →
        v.typesetter.head = some x.page) := by
  have hheads := k.back.heads k.made hq
  rw [← k.afterOpen hopen] at hheads
  rwa [Typesetter.head_eq, k.line.first, k.line.replate, ← Typesetter.head_eq]

omit hopen in
/-- The page at the head of the queue starts again at once, whether its CANCEL block has begun or is pending (R156). -/
theorem State.abandons.mayStart (hmode : s.typesetter.mode ≠ .hold) (hstore : s.storeLost = false)
    (hpart : s.part = .running) : v.mayStart x.page = true := by
  refine (mayStart_iff v x.page).2 ⟨k.modeLine ▸ hmode, k.sendLine, k.partLine.trans hpart,
    k.storeLostLine.trans hstore, fun c hc => ?_⟩
  obtain ⟨hcancel, -⟩ := k.lineEnded
  rw [← hcancel] at hc
  have hpending : t.typesetter.cancel = none ∨ t.typesetter.cancel = some x.cancelBlock := by
    cases hblock : s.typesetter.block with
    | some b => exact .inr (k.busy (by rw [hblock]; rfl)).2.1
    | none =>
      obtain ⟨-, hbegun, hwaits⟩ := k.free hblock
      cases hfound : s.tsrdy.found with
      | true => exact .inl (hbegun hfound).1
      | false => exact .inr (hwaits hfound).1
  rcases hpending with hnone | hsome
  · cases hnone.symm.trans hc
  · cases hsome.symm.trans hc
    rfl

theorem State.abandons.startsAgain (hmay : v.mayStart x.page = true) (hhead : v.typesetter.head = some x.page) :
    t.page? x.page = some (p.backAs .sending) ∧
      ∃ y, t.typesetter.send = some y ∧ y.page = x.page ∧ y.expected = 0 ∧ y.buffer = [] ∧
        y.nextSequence = 0 ∧ y.blocksBegun = 0 ∧ y.finalAccepted = false ∧ y.call ≠ .none := by
  obtain ⟨call, timer, hcall, hunit⟩ := typesetter_startTest_of_may hhead hmay
  rw [k.ended, pageAt_startTest_of_may hhead hmay, page_of_made (k.pageOpen hopen), hunit]
  exact ⟨rfl, _, rfl, rfl, rfl, rfl, rfl, rfl, rfl, hcall⟩

end

/-! ### The notice queue (R150, R170, R180) -/

omit k in
theorem length_abandonNotices_le : (s.abandonNotices x p q cause).length ≤ 3 := by
  unfold State.abandonNotices backEvents
  repeat' split
  all_goals simp

/-- The abandon's own notices come first; where nothing starts, no edition is sealed and there is no stall, those that
follow tell joins. -/
theorem State.abandons.queue (hbusy : s.sending.isSome = true)
    (hroom : s.queue.length + (s.abandonNotices x p q cause).length + 7 ≤ 64) :
    ∃ more, t.queue = s.queue ++ s.abandonNotices x p q cause ++ more ∧
      (s.rests → ¬ s.sealsAfter p → s.typesetter.stalled = false →
        ∀ n ∈ more, n.tellsJoin s.reporting.page) := by
  have hsending := k.back.queues.sending hbusy ▸ hbusy
  obtain ⟨more, hmore, -⟩ := k.work.gains.queue hsending
  refine ⟨more, by rw [hmore, k.back.queues.queue hbusy hroom], fun hrests hopen hstalled => ?_⟩
  have hjoins := tellsJoins_evaluateJoins a
  rw [← k.afterOpen hopen, State.tellsJoins, k.back.queues.reporting] at hjoins
  obtain ⟨joins, hqueue, hall⟩ := hjoins.queue hsending
  have hquiet := k.line.quiet (k.unitAfter.stalled.trans ((Typesetter.putBack_eq ..).2.trans hstalled))
  rw [← k.ended_of_rests hrests] at hquiet
  have hsame : a.queue ++ more = a.queue ++ joins := by
    rw [← hmore, ← hqueue]
    exact (hquiet .queue (by decide)).symm
  rwa [List.append_cancel_left hsame]

/-- With the PAGE group disabled, the queue gains the event ABANDONED alone. -/
theorem State.abandons.queue_of_disabled (hrests : s.rests) (hopen : ¬ s.sealsAfter p)
    (hpage : s.reporting.page = false) (htypesetter : s.reporting.typesetter = true)
    (hstalled : s.typesetter.stalled = false) (hbusy : s.sending.isSome = true) (hroom : s.queue.length + 8 ≤ 64) :
    t.queue = s.queue ++ [abandonedEvent x p cause] := by
  have hnotices : s.abandonNotices x p q cause = [abandonedEvent x p cause] := by
    simp [State.abandonNotices, hpage, htypesetter]
  obtain ⟨more, hmore, hall⟩ := k.queue hbusy (by rw [hnotices]; exact hroom)
  have hnone : more = [] := List.eq_nil_iff_forall_not_mem.2 fun n hn => by
    obtain ⟨henabled, -⟩ := hall hrests hopen hstalled n hn
    cases hpage.symm.trans henabled
  rw [hmore, hnone, hnotices, List.append_nil]

/-- With the PAGE group enabled, the page's events come first, then the event ABANDONED. -/
theorem State.abandons.queue_of_enabled (hpage : s.reporting.page = true) (hbusy : s.sending.isSome = true)
    (hroom : s.queue.length + 10 ≤ 64) :
    ∃ more, t.queue = s.queue ++ backEvents x.page p q ++
        (if s.reporting.typesetter = true then [abandonedEvent x p cause] else []) ++ more ∧
      (s.rests → ¬ s.sealsAfter p → s.typesetter.stalled = false →
        ∀ n ∈ more, ∃ r e number tier broken stale replates,
          n = .pageEvent r e number (some .queued) tier broken stale replates .join) := by
  have hlength := length_abandonNotices_le (s := s) (x := x) (p := p) (cause := cause) (q := q)
  obtain ⟨more, hmore, hall⟩ := k.queue hbusy (by omega)
  refine ⟨more, ?_, fun hrests hopen hstalled n hn => (hall hrests hopen hstalled n hn).2⟩
  rw [hmore, State.abandonNotices, if_pos hpage, ← List.append_assoc s.queue]

end

/-! ### ABORT SEND and the data timer (R161, R168) -/

theorem abandon_of_none {s : State} (h : s.typesetter.send = none) (cause : AbandonCause) : s.abandon cause = s := by
  simp only [State.abandon, h]

theorem exec_abortSend_of_listening {s : State} (h : s.listening) :
    exec (.abortSend []) s = .next ((s.heard.setMode .hold).abandon .abort) :=
  congrArg Host.Outcome.next (takeFrame_of_listening s h _ _ (by simp) _)

theorem exec_dataTimerExpiry_of_none {s : State} (h : s.dataDue = none) : exec .dataTimerExpiry s = .next s := by
  simp only [exec, execDataTimerExpiry, h]

theorem exec_dataTimerExpiry_of_some {s : State} {due : Nat} (h : s.dataDue = some due) :
    exec .dataTimerExpiry s = .next ((s.reach due).abandon .noData) := by
  simp only [exec, execDataTimerExpiry, h]

theorem dataDue_of_none {s : State} (h : s.typesetter.send = none) : s.dataDue = none := by
  simp only [State.dataDue, h]

theorem dataDue_of_send {s : State} {x : Send} (h : s.typesetter.send = some x) : s.dataDue = x.dataTimer := by
  simp only [State.dataDue, h]

/-- Settles O59: the two orders of an abandon, and then what its steps leave, by the state `q` in which the page comes
back. -/
theorem abandonReturnsThePage : Obligations.AbandonReturnsThePage := by
  unfold Obligations.AbandonReturnsThePage
  intro s
  refine ⟨fun hlisten => ⟨fun hnone => ?noSend, fun _ _ => exec_abortSend_of_listening hlisten⟩,
    fun hnone => exec_dataTimerExpiry_of_none (dataDue_of_none hnone),
    fun x hx => ⟨fun hstopped => exec_dataTimerExpiry_of_none ((dataDue_of_send hx).trans hstopped),
      fun due hdue => exec_dataTimerExpiry_of_some ((dataDue_of_send hx).trans hdue)⟩,
    fun x p cause hcause hx hp hstand => ?abandoned⟩
  case noSend =>
    exact (exec_abortSend_of_listening hlisten).trans
      (congrArg Host.Outcome.next (abandon_of_none (s := s.heard.setMode .hold) hnone .abort))
  case abandoned =>
    intro t e c level rests goes unready seals heads back
    obtain ⟨q, v, k⟩ : ∃ q v, s.abandons t x p cause q (s.abandonSend cause) v :=
      abandon_abandons hstand hx hp hcause
    have hunready : unready ↔ s.unready p := by simp only [State.unready, State.abreast, and_assoc]; exact Iff.rfl
    have hseals : seals ↔ s.sealsAfter p := by simp only [seals, State.sealsAfter, hunready]; exact Iff.rfl
    have hqueued : ¬ unready → q = .queued := fun hu =>
      (k.back.which.resolve_left fun ⟨_, hnot⟩ => hu (hunready.2 hnot)).1
    have hready : unready → q = .ready := fun hu =>
      (k.back.which.resolve_right fun ⟨_, hnot⟩ => hnot (hunready.1 hu)).1
    refine ⟨k.mode, k.free, k.busy, fun hs => ?sealed, fun hs => k.stateOpen (mt hseals.2 hs), fun hrests => ?rests,
      fun hrests hs => ?returned, fun ⟨hmode, hstore, hpart⟩ hs hheads => ?again,
      fun hrests hs => ?disabled, ?enabled⟩
    case sealed =>
      obtain ⟨hnone, hstate, hmark⟩ := k.sealed (hseals.1 hs)
      exact ⟨hnone, hstate, hmark, k.gone hnone⟩
    case rests =>
      rw [k.ended_of_rests hrests]
      exact k.sendLine
    case returned =>
      have hpage := k.pageOpen (mt hseals.2 hs)
      rw [k.ended_of_rests hrests]
      refine ⟨fun hu => ?_, fun hu => ?_⟩
      · rwa [hready hu] at hpage
      · obtain ⟨hfirst, hreplate, -⟩ := k.headsOpen (mt hseals.2 hs) (hqueued hu)
        rw [hqueued hu] at hpage
        exact ⟨hpage, hfirst, hreplate⟩
    case again =>
      have hu : ¬ unready := hheads.elim (fun htier hu => by cases htier.symm.trans hu.1) And.left
      obtain ⟨-, -, hhead⟩ := k.headsOpen (mt hseals.2 hs) (hqueued hu)
      exact k.startsAgain (mt hseals.2 hs) (k.mayStart hmode hstore hpart) (hhead (hheads.imp_right And.right))
    case disabled => exact k.queue_of_disabled hrests (mt hseals.2 hs)
    case enabled =>
      intro event told hpage hbusy hroom
      obtain ⟨more, hmore, hall⟩ := k.queue_of_enabled hpage hbusy hroom
      have hjoins := fun hrests hs => hall hrests (mt hseals.2 hs)
      refine ⟨fun hu => ⟨more, ?_, hjoins⟩, fun hu => ⟨more, ?_, hjoins⟩⟩
      · rw [hmore, hready hu, List.append_assoc s.queue [_] [_]]
        rfl
      · rw [hmore, hqueued hu, List.append_nil]
        rfl

end Sys2Proof.Machine
end
